-- ==== Sys2Proof/Word.lean ====
section
/-! DEFINITION. The plain data types that commands and state share: words, bytes, keyed tables and
blocks of field values. -/

namespace Sys2Proof

/-- A register, a parameter word, a result word: 32 bits (spec/00 "Register tables", R55). -/
abbrev Word := BitVec 32

/-- A byte of a packet or of module DRAM. -/
abbrev Byte := BitVec 8

/-- A table keyed by a number: pairs in strictly rising key order, with no pair whose value equals
what an unlisted key reads as. `Machine/Tab.lean` holds its operations. -/
abbrev Tab (α : Type) := List (Nat × α)

/-- The values of an opcode's parameter fields, field 1 first (R506), signed fields as signed
numbers (R61). -/
abbrev Fields := List Int

end Sys2Proof
end

