-- ==== Sys2Proof/Syntax.lean ====
section
/-! DEFINITION. The commands and events of spec/opcode_table.json, one constructor of `Instr` a row,
with the operands the chapters give them. The table lists no operands and no bits, so every operand
is what the row's rule says happens, or what the outside world (host memory, the network, the
converter, picture content) contributes to it. -/

namespace Sys2Proof

/-- The way a command packet came in, with the codes of R103 field 2. -/
inductive Via where
  | ring (r : Nat)   -- PCIe command ring 0 to 7
  | mgmt             -- management UDP
  | inband           -- in-band UDP
  | store (pos : Nat)  -- the startup store, with the packet's position in it
  deriving DecidableEq, Repr

/-- A UDP source or destination: family, address, port. -/
structure Endpoint where
  v6   : Bool
  addr : Nat
  port : Nat
  deriving DecidableEq, Repr

/-- A command packet that has passed stages 1 to 7 of R63, as its opcode's action sees it. -/
structure Cmd where
  via      : Via
  src      : Endpoint          -- source of a UDP packet
  path     : Nat               -- Turret an in-band packet came in on, 0 A or 1 B
  auth     : Bool              -- flag AUTH (R55)
  noReply  : Bool              -- flag NO_REPLY
  fence    : Bool              -- flag FENCE
  applyAt  : Bool              -- flag APPLY_AT
  counter  : Nat               -- replay counter of the trailer, when auth
  tag      : Word              -- host tag
  ctx      : Nat               -- context id, 0xFFFF for device-wide
  tb       : Nat               -- timebase id, used with applyAt
  frame    : Nat               -- apply-at frame count, used with applyAt
  capacity : Nat               -- reply capacity of a ring descriptor (R79)
  replyAddr : Nat              -- reply address of a ring descriptor (R79)
  crc      : Word              -- the packet's CRC field (R84)
  params   : List Word         -- the parameter block
  key      : List Byte := []   -- the command key that verified its trailer, when auth (R85, R87)
  fault    : Option Nat := none  -- a firmware fault strikes its execution (R62): the control core, 0xFF unknown
  deriving DecidableEq, Repr

/-- A converter telemetry frame (R477): 10 mV, 10 mA, 1/16 degree C. -/
structure TelFrame where
  vin  : Nat
  iin  : Nat
  temp : Int
  deriving DecidableEq, Repr

/-- What a start of the converter meets (R35, R53): VIN_48 and the gap of the hold-up capacitor
below it in 10 mV, the lowest VIN_48 since the converter stopped or the lockout tripped (R30), the lowest converter
temperature since the converter stopped in 1/16 degree C (R480), and whether every rail regulates. -/
structure Start where
  vin     : Nat
  gap     : Nat
  lowVin  : Nat
  lowTemp : Int
  railsOk : Bool
  deriving DecidableEq, Repr

/-- The three causes of a PCIe reset (R119). -/
inductive PcieCause where
  | perst | hot | flr
  deriving DecidableEq, Repr

/-- A datagram on UDP port 4880 (R83): an in-band one came in on port `port` (as `RxFrame.port`) in a frame
of `len` bytes, which the control-class policer counts (R376). `frag` is its IPv4 identification when it came
in fragments, of which this is the one that completes it (`whole`) or not. -/
structure Datagram where
  via   : Via
  src   : Endpoint
  port  : Nat
  len   : Nat
  frag  : Option Nat
  whole : Bool
  bytes : List Byte
  deriving DecidableEq, Repr

/-- What the module's reads of host memory returned (R79, R91): the 32 bytes of the ring's descriptor and the
bytes from the packet address on that the descriptor gives. -/
structure Fetch where
  desc  : List Byte
  bytes : List Byte
  deriving DecidableEq, Repr

/-- The ST 2059-2 synchronization metadata TLV, as words 7 (bits), 9 to 20 of R511 carry it. -/
structure Tlv where
  rateNum    : Word
  rateDen    : Word
  flags      : Word         -- word 11
  localOff   : Word         -- word 12, signed
  jump       : Word         -- word 13, signed
  nextJump   : Nat          -- 48-bit seconds
  nextJam    : Nat
  prevJam    : Nat
  prevOff    : Word         -- word 20, signed
  deriving DecidableEq, Repr

/-- An Announce message (R135): where it came in, its grandmaster and the IEEE 1588-2019 data set
fields that best master selection compares. -/
structure Announce where
  path      : Nat
  lane      : Nat
  domain    : Nat
  gm        : Nat           -- grandmaster identity, 64 bits in transmission order
  prio1     : Nat
  clsQual   : Nat           -- clock class
  accuracy  : Nat
  variance  : Nat
  prio2     : Nat
  steps     : Nat           -- steps removed
  sender    : Nat           -- sending port identity
  logAnn    : Int
  logSync   : Int
  utcOffset : Int
  leap61    : Bool
  leap59    : Bool
  utcValid  : Bool
  tlv       : Option Tlv
  deriving DecidableEq, Repr

/-- One Sync measurement (R134, R139): the port it was taken on, the master's grandmaster, the master's time of sending
less the MAC's time of arrival in 0.1 ns, and the lane offset of the Turret that carried the delimiter. -/
structure SyncMeas where
  path    : Nat
  lane    : Nat
  gm      : Nat
  late    : Int
  carrier : Nat
  deriving DecidableEq, Repr

/-! ## What a Spire finds in a segment (spec/08)

Content decides these; the rules of spec/08 decide what is made of them (`Machine/Search.lean`,
`Machine/Coding.lean`). -/

/-- A vector in quarter luma samples. -/
structure Mv where
  x : Int
  y : Int
  deriving DecidableEq, Repr

/-- One position that a search stage tries (R230): the reference, by its place in list 0, the vector in samples
of the plane searched (quarter samples in the fractional stages), its cost, and the on-demand fetch units that it
takes and no position before it took (R240). -/
structure Probe where
  ref   : Nat
  x     : Int
  y     : Int
  cost  : Nat
  units : Nat := 0
  deriving DecidableEq, Repr

/-- The tools of R232's row "Transforms": DST, transform skip 4x4, implicit MTS, LFNST, joint Cb-Cr. -/
inductive Tool where
  | dst | skip4 | mts | lfnst | jccr
  deriving DecidableEq, Repr

/-- How a CU is predicted (R203, R232). -/
inductive Pred where
  /-- an intra mode: its number, its place in the order by SATD, multiple reference lines, cross-component
  linear model -/
  | intra (mode rank : Nat) (mrl cclm : Bool)
  /-- a merge candidate, with MVD or not, with a residual or not (skip) -/
  | merge (cand : Nat) (mmvd skip : Bool)
  /-- AMVP: vector resolution quarter 0, integer 1, four samples 2 (AMVR) -/
  | amvp (amvr : Nat)
  deriving DecidableEq, Repr

/-- A CU of a CTU: where it lies, the binary and ternary splits above it, its prediction with one vector or two
(the second list's), each with its reference's place in list 0, CU weights, and its transform tools. -/
structure Cu where
  x       : Nat
  y       : Nat
  w       : Nat
  h       : Nat
  depth   : Nat := 0
  ternary : Bool := false
  pred    : Pred
  mvs     : List (Nat × Mv) := []
  weights : Bool := false
  tools   : List Tool := []
  deriving DecidableEq, Repr

/-- A CTU as coded: its bins (R235), the exact bits it adds to its substream (R253), and its staging tokens
(R265), the end of CTU among them. -/
structure Coded where
  bins   : Nat := 1
  bits   : Nat := 1
  tokens : List Word := [0xF0000000]
  deriving DecidableEq, Repr

/-- One choice that stage 6 tries for a CTU (R232): its CUs, SAO off 0, merge-left 1, edge or band 2, ALF on, its
cost, the cycles spent on it, the SAD or SATD of its prediction, the bins of its transform units in coding order,
and the CTU coded with all of them, then with one fewer at a time in the order of step 1 of R235. -/
structure Trial where
  cus    : List Cu
  sao    : Nat := 0
  alf    : Bool := false
  cost   : Nat := 0
  cycles : Nat := 0
  dist   : Nat := 0
  tus    : List Nat := []
  coded  : List Coded := [{}]
  deriving DecidableEq, Repr

/-- What a Spire finds for one CTU: the positions that each search stage tries, merge candidate 0 of the 64x64 CU
with its SAD, the SAD of the zero vector and the SATD of DC intra prediction (R233), the choices of stage 6 in the
order tried, and the CTU coded by step 2 of R235. -/
structure CtuIn where
  coarse  : List Probe := []
  pyramid : List Probe := []
  integer : List Probe := []
  half    : List Probe := []
  quarter : List Probe := []
  merge0  : List (Nat × Mv) := []
  sad0    : Nat := 0
  sadZero : Nat := 0
  satdDc  : Nat := 0
  trials  : List Trial := []
  recode  : Coded := {}
  deriving DecidableEq, Repr

/-- What a Spire finds in a segment: its CTUs, the cycles of memory waits, and the bytes read for bands and
on-demand units. A DSEG has no CTUs here: its syntax was parsed by a Dome. -/
structure SegIn where
  ctus    : List CtuIn := []
  memwait : Nat := 0
  fetched : Nat := 0
  deriving DecidableEq, Repr

/-- The first packet of a coded access unit at a decode context (R287): its time stamp in 90 kHz
counts (RTP timestamp or PTS), its picture order count, its type, and what it names. -/
structure UnitHead where
  stamp      : Nat          -- RTP timestamp (32 bits) or PTS (33 bits)
  bottom     : Bool         -- bottom field of an interlaced timebase
  irap       : Bool
  gdrStart   : Bool         -- first picture of a GDR cycle or recovery-point span
  recovery   : Nat          -- pictures from that first picture to its recovery point
  poc        : Int
  refs       : List Int     -- POCs named by the reference picture set or lists
  keepShort  : List Int     -- POCs the stream keeps as short-term
  keepLong   : List Int     -- POCs the stream keeps as long-term
  kept       : Bool         -- the picture itself is kept
  deriving DecidableEq, Repr

/-- What the parameter sets and slice headers of an access unit say of what R285 limits: profile, tier and chroma
format coded as fields 3 to 5 of R195, level x 10, the bit depth, the CTU size, the size of the picture, the largest
number of reordered pictures and max_dec_pic_buffering. -/
structure StreamInfo where
  profile : Nat
  tier    : Nat
  level   : Nat
  chroma  : Nat
  depth   : Nat
  tools   : Bool            -- tiles, subpictures or reference picture resampling are used
  ctu     : Nat
  sync    : Bool            -- entropy coding sync is on, with an entry point for every CTU row
  slices  : Bool            -- every slice begins at the first CTU of a row
  width   : Nat
  height  : Nat
  reorder : Nat
  dpb     : Nat
  changed : Bool            -- the content of an SPS or PPS changed under an existing id
  deriving DecidableEq, Repr

/-- How a coded access unit ended (R286): what of it was present at release. -/
structure UnitEnd where
  truncated : Bool
  info      : StreamInfo
  headers   : Bool          -- a slice header of it could be parsed (R293)
  sets      : Bool          -- the parameter sets it refers to are present (R293)
  firstLost : List (Nat × Nat)  -- (row, first CTU with missing bytes) of each hit row (R294)
  parseErr  : List (Nat × Nat)  -- (row, CTU) of each parse error (R295)
  bytes     : List (Option Byte) := []  -- the unit's bytes at their positions, none where one is missing
  hash      : Option (Nat × List Word) := none  -- its picture hash SEI (R299): 0 MD5, 1 CRC, 2 checksum; each plane's
  deriving DecidableEq, Repr

/-- The classes of frame a port can receive (R375, R376). -/
inductive FrameClass where
  | ptpEvent | ptpGeneral | command | neighbour | group | echo | media
  deriving DecidableEq, Repr

/-- An ST 291-1 ancillary packet (R357, R378): its line, its words from the DID to the last user data word, and its
checksum word. -/
structure AncPkt where
  line  : Nat
  words : List (BitVec 10)
  check : BitVec 10
  deriving DecidableEq, Repr

/-- An active line of an SDI data stream (R355): the words that its CRC-18 covers, and that CRC. -/
structure SdiLine where
  words : List (BitVec 10)
  crc   : BitVec 18
  deriving DecidableEq, Repr

/-- A frame arriving on a port (R372 to R383): the port in the numbering of R350 field 1, or 32 for
the management port. -/
structure RxFrame where
  port      : Nat
  len       : Nat           -- bytes from destination address through FCS
  macOk     : Bool          -- addressed to the port, to broadcast or to a joined group (R372)
  vlan      : Option Nat
  cls       : FrameClass
  v6        : Bool
  dst       : Nat           -- IP destination
  src       : Nat           -- IP source
  udp       : Nat           -- UDP destination port
  dscp      : Nat
  seq       : Nat           -- RTP sequence number, extended for ST 2110-20
  stamp     : Nat           -- RTP timestamp
  marker    : Bool
  malformed : Bool          -- breaks a limit of its type (R378)
  answer    : Bool          -- a neighbour frame is an answer, not a request
  datagram  : Option Datagram := none  -- what a frame of the command class carries (R83)
  audio     : List (List Nat) := []    -- the sample times of an audio packet, a sample of each channel in each (R380)
  anc       : List AncPkt := []        -- the packets of an ST 2110-40 packet (R378)
  deriving DecidableEq, Repr

/-- What a packet launch sends (R387): the next packet of an egress flow, with the lengths, in bytes from the
destination address through the FCS, of the packets that its frame or access unit has been cut into, which count at
the first of them; or the host packet whose launch time has come. -/
inductive Launch where
  | flow (i : Nat) (lens : List Nat)
  | host
  deriving DecidableEq, Repr

/-- A request at a DRAM port (R412, R415). -/
structure MemReq where
  port     : Nat
  addr     : Nat
  write    : Option (List Byte)    -- bytes to write, or none for a read
  len      : Nat
  deadline : Option Nat            -- ns from its issue to a deadline of its own (R412, R413)
  waited   : Nat                   -- ns since its issue when it reaches its subchannel's queue
  corrected : Bool                 -- a single-bit error was corrected (R430)
  failed   : Bool                  -- a burst of it is uncorrectable (R431)
  owner    : Nat                   -- owner code of the allocation (R432)
  object   : Nat                   -- the context, composition, flow, image, channel that owns it
  part     : Nat                   -- buffer, tile and copy, packet, kind, or a count of CTUs, lines, samples
  deriving DecidableEq, Repr

/-- What one layer gives for one pixel, converted to the output space and 4:4:4 (R317 to R324): layers 0
to 3 are video, 4 to 7 graphic, 8 to 11 Lantern; `alpha` is the alpha of the pixel's own word. -/
structure LayerPix where
  layer : Nat
  y  : Nat
  cb : Nat
  cr : Nat
  deriving DecidableEq, Repr

/-- What the video layers gave for a CTU row (R306, R314): its lines of pixels, the lines before and after it
that the vertical chroma filter of R325 reaches, the lines of layers that did not return in time, each a layer of
the stack (R305: video 0 to 3, graphic 4 to 7, Lantern 8 to 11) and a line counted from the first of `above`, and the
space that each video layer's source reports, coded as field 14 of R316 with 0 for a source that reports none. -/
structure RowIn where
  above    : List (List (List LayerPix))
  lines    : List (List (List LayerPix))
  below    : List (List (List LayerPix))
  readMiss : List (Nat × Nat)
  reported : List Nat
  deriving DecidableEq, Repr

/-- The bytes a DMA run met outside module DRAM: what host memory and FIFOs returned, in list order,
and which 64-byte bursts failed (R441, R446). -/
structure DmaIn where
  host     : List Byte
  badList  : Option Nat        -- a list element whose read failed (LIST_ECC)
  badData  : List Nat          -- indexes of failed 64-byte bursts of the gathered stream
  deriving DecidableEq, Repr

/-- What a lane's receiver found when it claims its locks: the newest sync headers of an NRZ lane (R347), and the
consecutive alignment markers that a PAM4 lane met at the expected spacing (R352), with the PCS lane that they name. -/
structure LockSeen where
  headers : List Nat
  markers : Nat
  pcs     : Nat
  deriving DecidableEq, Repr

/-- What a lane's receiver counted: the symbols in error of a codeword (R348), or the EAVs missing (R355). -/
structure LaneCount where
  lane  : Nat
  count : Nat
  deriving DecidableEq, Repr

/-- A 10 ms window of a Turret (R396), with the codewords corrected and the PRBS bit errors found in it, each with its
lane (R365, R370). -/
structure FecWindow where
  turret    : Nat
  corrected : List (Nat × Nat)
  prbs      : List (Nat × Nat)
  deriving DecidableEq, Repr

/-- What an SDI input's lock rests on (R355): the link number in the stream, and the consecutive EAVs seen at one line
length. -/
structure TrsSeen where
  link : Nat
  eavs : Nat
  deriving DecidableEq, Repr

/-- A membership query (R394): for one group, or for all with 0, of version 3 of IGMP or 2 of MLD with `older` 0, else
that many versions below. -/
structure MemberQuery where
  group : Nat
  older : Nat
  deriving DecidableEq, Repr

/-- The kinds of loss a lane can meet (R353): with the newest sync headers (R347), or the consecutive markers
missing (R352). -/
inductive LaneLoss where
  | signal
  | cdr
  | block (headers : List Nat)
  | marker (missing : Nat)
  deriving DecidableEq, Repr

/-- What COMMAND_EXECUTE meets (R63): what the fetch of a descriptor and its packet from host memory returned, none
where there is none, and the core whose firmware fault strikes the command (R62). -/
structure ExecIn where
  fetch : Option Fetch
  fault : Option Nat
  deriving DecidableEq, Repr

/-- The ancillary space of an SDI frame (R357): its packets, and the sample times of its embedded audio, each a sample of
every channel. -/
structure SdiAnc where
  packets : List AncPkt
  audio   : List (List Nat)
  deriving DecidableEq, Repr

/-- The commands and events of the block: one constructor for each row of spec/opcode_table.json. An
opcode row carries its packet (`Cmd`), which has passed stages 1 to 7 of R63. -/
inductive Instr where
  /-- CONVERTER_START (R35). -/
  | converterStart (x : Start)
  /-- CONVERTER_RETRY (R53). -/
  | converterRetry (x : Start)
  /-- OVER_VOLTAGE_LOCKOUT (R30). -/
  | overVoltageLockout (vin : Nat)
  /-- SUPPLY_RESET (R54). -/
  | supplyReset (vin : Nat)
  /-- CONVERTER_STOP (R36). -/
  | converterStop (vin : Nat)
  /-- TELEMETRY_FRAME (R477). -/
  | telemetryFrame (f : TelFrame)
  /-- TELEMETRY_LOST (R477). -/
  | telemetryLost
  /-- SUPPLY_WARN_CLEAR (R478). -/
  | supplyWarnClear
  /-- TELEMETRY_RECOVERED (R477). -/
  | telemetryRecovered
  /-- EXTERNAL_RESET (R44). -/
  | externalReset
  /-- RESET_N_RELEASE (R44). -/
  | resetNRelease
  /-- BOOT_IMAGE_START (R114). -/
  | bootImageStart
  /-- DRAM_TRAINING_COMMIT (R116). -/
  | dramTrainingCommit (failed sub : Nat) (margin : Int)
  /-- DRAM_TRAINING_TIMEOUT (R116). -/
  | dramTrainingTimeout (failed : Nat) (sub : Nat)
  /-- STARTUP_STORE_RESUME (R118). -/
  | startupStoreResume
  /-- PCIE_RESET (R119). -/
  | pcieReset (cause : PcieCause)
  /-- PCIE_PERST_N_RELEASE (R42). -/
  | pciePerstNRelease
  /-- WARM_RESET (R119). -/
  | warmReset
  /-- WATCHDOG_EXPIRY (R122). -/
  | watchdogExpiry (core : Nat)
  /-- HARD_TRIP (R475). -/
  | hardTrip
  /-- SENSOR_SAMPLE (R467). -/
  | sensorSample (sensor raw : Nat) (reading : Int)
  /-- SENSOR_FAULT (R468). -/
  | sensorFault (sensor : Nat)
  /-- SENSOR_SELF_CHECK (R468). -/
  | sensorSelfCheck (sensor : Nat) (error : Int)
  /-- THROTTLE_TICK (R473). -/
  | throttleTick
  /-- PPS_IN_EDGE (R45). -/
  | ppsInEdge
  /-- FRAME_REF_IN_EDGE (R45). -/
  | frameRefInEdge
  /-- FREQ10M_PRESENCE_CHANGE (R47). -/
  | freq10mPresenceChange (mv : Nat) (ppb : Int)
  /-- PATH_FORCE_ASSERT (R48). -/
  | pathForceAssert
  /-- PATH_FORCE_DEASSERT (R48). -/
  | pathForceDeassert
  /-- PPS_OUT_RISE (R46). -/
  | ppsOutRise
  /-- PPS_OUT_FALL (R46). -/
  | ppsOutFall
  /-- GPIO_PULSE_END (R104). -/
  | gpioPulseEnd (gpio : Nat)
  /-- CMD_RING_DOORBELL (R80). -/
  | cmdRingDoorbell (ring : Nat) (value : Word)
  /-- CMD_RING_ENABLE (R494). -/
  | cmdRingEnable (ring : Nat) (value : Word)
  /-- CMD_RING_DISABLE (R494). -/
  | cmdRingDisable (ring : Nat) (value : Word)
  /-- EVENT_QUEUE_ENABLE (R495). -/
  | eventQueueEnable (value : Word)
  /-- EVENT_QUEUE_DISABLE (R495). -/
  | eventQueueDisable (value : Word)
  /-- EVENT_QUEUE_HEAD_WRITE (R495). -/
  | eventQueueHeadWrite (value : Word)
  /-- COMMAND_UDP_PACKET (R83). -/
  | commandUdpPacket (d : Datagram)
  /-- REASSEMBLY_TIMEOUT (R83). -/
  | reassemblyTimeout (src : Endpoint) (ident : Nat)
  /-- COMMAND_EXECUTE (R63). -/
  | commandExecute (x : ExecIn)
  /-- BACKGROUND_COMMAND_COMPLETE (R89). -/
  | backgroundCommandComplete (job : Nat) (ok : Bool)
  /-- PENDING_COMMAND_EFFECT (R77). -/
  | pendingCommandEffect (tb frame : Nat)
  /-- READ_IDENTITY (R100). -/
  | readIdentity (c : Cmd)
  /-- REGISTER_EVENT_SUBSCRIBER (R101). -/
  | registerEventSubscriber (c : Cmd)
  /-- SET_ALLOW_LIST_ENTRY (R102). -/
  | setAllowListEntry (c : Cmd)
  /-- CANCEL_PENDING_COMMANDS (R103). -/
  | cancelPendingCommands (c : Cmd)
  /-- ASSIGN_GPIO_FUNCTION (R104). -/
  | assignGpioFunction (c : Cmd)
  /-- READ_STARTUP_LOG (R105). -/
  | readStartupLog (c : Cmd)
  /-- SELECT_MANAGEMENT_LINK_MODE (R105). -/
  | selectManagementLinkMode (c : Cmd)
  /-- READ_GPIO_LEVELS (R105). -/
  | readGpioLevels (c : Cmd)
  /-- WARM_RESET_COMMAND (R100). -/
  | warmResetCommand (c : Cmd)
  /-- ENTER_SAFE (R110). -/
  | enterSafe (c : Cmd)
  /-- INTERRUPT_AND_ALERT_MASKS (R497). -/
  | interruptAndAlertMasks (c : Cmd)
  /-- CONFIGURE_PTP (R146). -/
  | configurePtp (c : Cmd)
  /-- PTP_CONFIG_APPLY (R146). -/
  | ptpConfigApply
  /-- ACCEPT_REFUSED_OFFSET (R143). -/
  | acceptRefusedOffset (c : Cmd)
  /-- SET_TIME (R145). -/
  | setTime (c : Cmd)
  /-- CONFIGURE_TIMEBASE (R153). -/
  | configureTimebase (c : Cmd)
  /-- REMOVE_TIMEBASE (R153). -/
  | removeTimebase (c : Cmd)
  /-- CONFIGURE_EVENT_UNIT (R155). -/
  | configureEventUnit (c : Cmd)
  /-- RELEASE_EVENT_UNIT (R145). -/
  | releaseEventUnit (c : Cmd)
  /-- READ_TIME_STATUS (R511). -/
  | readTimeStatus (c : Cmd)
  /-- PTP_ANNOUNCE_RECEIVED (R135). -/
  | ptpAnnounceReceived (a : Announce)
  /-- PTP_SYNC_RECEIVED (R139). -/
  | ptpSyncReceived (m : SyncMeas)
  /-- DELAY_REQ_SEND (R136). -/
  | delayReqSend
  /-- DELAY_RESP_RECEIVED (R135): `late` is the master's time of receipt of the Delay_Req less the MAC's time of its
  sending, in 0.1 ns. -/
  | delayRespReceived (path lane gm : Nat) (late : Int)
  /-- ANNOUNCE_RECEIPT_TIMEOUT (R139). -/
  | announceReceiptTimeout
  /-- SYNC_TIMEOUT (R139). -/
  | syncTimeout
  /-- FRAME_BOUNDARY (R151). -/
  | frameBoundary (tb : Nat)
  /-- SLEW_COMPLETE (R158). -/
  | slewComplete (tb : Nat)
  /-- RASTER_EVENT_FIRE (R155). -/
  | rasterEventFire (unit : Nat)
  /-- FRAME_BIND (R174). -/
  | frameBind
  /-- TASK_DISPATCH (R168). -/
  | taskDispatch (engine : Nat)
  /-- SEGMENT_DONE (R175). -/
  | segmentDone (spire : Nat) (r : SegIn)
  /-- SPILL_REFILL (R166). -/
  | spillRefill
  /-- BIND_URGENT (R183). -/
  | bindUrgent (ctx frame : Nat)
  /-- DECODE_FRAME_SKIP (R183). -/
  | decodeFrameSkip (ctx frame : Nat)
  /-- SUBSTITUTE_PICTURE (R184). -/
  | substitutePicture (ctx frame : Nat)
  /-- DOME_BIND (R175). -/
  | domeBind
  /-- DOME_TASK_DONE (R267): the segment of a row that the Dome ends. -/
  | domeTaskDone (dome row seg : Nat)
  /-- FRAME_CLOSE (R175). -/
  | frameClose (ctx frame : Nat) (late : Bool)
  /-- STAGING_RESUME (R266). -/
  | stagingResume (spire : Nat)
  /-- ALF_FIT_COMPLETE (R237). -/
  | alfFitComplete (ctx frame : Nat)
  /-- SPIRE_POWER_UP (R20). -/
  | spirePowerUp (spire : Nat)
  /-- ACCESS_UNIT_MAPPED (R287). -/
  | accessUnitMapped (ctx : Nat) (u : UnitHead)
  /-- ACCESS_UNIT_COMPLETE (R286). -/
  | accessUnitComplete (ctx slot : Nat) (bottom : Bool) (e : UnitEnd)
  /-- DECODE_RELEASE_DEADLINE (R288). -/
  | decodeReleaseDeadline (ctx slot : Nat) (bottom : Bool) (e : UnitEnd)
  /-- DECODE_ABANDON (R289). -/
  | decodeAbandon (ctx slot : Nat) (bottom : Bool)
  /-- COMPOSED_ROW_WRITTEN (R306). -/
  | composedRowWritten (comp : Nat) (r : RowIn)
  /-- SOURCE_FRAME_COMPLETE (R311). -/
  | sourceFrameComplete (source : Nat) (format rate : Nat)
  /-- DIRECT_LINE_ARRIVAL (R312). -/
  | directLineArrival (comp layer line : Nat)
  /-- LANTERN_TILE_REPAIR (R332). -/
  | lanternTileRepair (image tile : Nat)
  /-- LANTERN_SCRUB (R333). -/
  | lanternScrub
  /-- FRAME_RECEIVED (R375). -/
  | frameReceived (f : RxFrame)
  /-- VIDEO_FRAME_SKEW_TIMEOUT (R379). -/
  | videoFrameSkewTimeout (flow : Nat)
  /-- MERGE_GAP_TIMEOUT (R381). -/
  | mergeGapTimeout (flow : Nat)
  /-- PACKET_LAUNCH (R387). -/
  | packetLaunch (x : Launch)
  /-- QUEUED_PACKET_SEND (R392). -/
  | queuedPacketSend (port : Nat)
  /-- MEMBERSHIP_REPORT_REPEAT (R394). -/
  | membershipReportRepeat
  /-- MEMBERSHIP_QUERY_RESPONSE (R394). -/
  | membershipQueryResponse (port : Nat) (q : MemberQuery)
  /-- ARP_REFRESH (R395). -/
  | arpRefresh
  /-- PLL_LOCK (R351): the lanes whose synthesiser has not locked. -/
  | pllLock (port : Nat) (bad : List Nat)
  /-- AUTONEG_COMPLETE (R351). -/
  | autonegComplete (port : Nat) (ok : Bool)
  /-- TRAINING_COEFF_REQUEST (R350). -/
  | trainingCoeffRequest (lane : Nat) (tap : Nat) (up : Bool)
  /-- LINK_TRAINING_END (R350): the lanes whose training has failed, and the precoding negotiated. -/
  | linkTrainingEnd (port : Nat) (bad : List Nat) (precodeTx precodeRx : Bool)
  /-- LINK_LOCK (R351). -/
  | linkLock (lane : Nat) (x : LockSeen)
  /-- DESKEW (R352). -/
  | deskew (port : Nat) (arrivals : List Nat)
  /-- PORT_RETRY (R351). -/
  | portRetry (port : Nat)
  /-- SIGNAL_RETURN (R351). -/
  | signalReturn (lane : Nat)
  /-- LANE_LOSS (R353). -/
  | laneLoss (lane : Nat) (kind : LaneLoss)
  /-- LANE_RELOCK_TIMEOUT (R353). -/
  | laneRelockTimeout (port : Nat)
  /-- FEC_UNCORRECTABLE (R348, R349): a codeword with so many symbols in error. -/
  | fecUncorrectable (x : LaneCount)
  /-- REF_LOST (R345). -/
  | refLost
  /-- FEC_WINDOW_END (R396). -/
  | fecWindowEnd (w : FecWindow)
  /-- SENTINEL_TIMEOUT (R396). -/
  | sentinelTimeout (turret flow : Nat)
  /-- HEALTH_SETTLED (R396). -/
  | healthSettled (turret : Nat)
  /-- HOLDOFF_EXPIRY (R397). -/
  | holdoffExpiry
  /-- SDI_TRS_LOCK (R355): after so many consecutive EAVs at one line length. -/
  | sdiTrsLock (lane format rate : Nat) (x : TrsSeen)
  /-- SDI_TRS_LOSS (R355): after so many EAVs missing. -/
  | sdiTrsLoss (x : LaneCount)
  /-- SDI_FRAME_COMPLETE (R355): the largest skew of a quad link's cables in ns, the frame's lines, and its
  ancillary space. -/
  | sdiFrameComplete (lane skew : Nat) (lines : List SdiLine) (x : SdiAnc)
  /-- SDI_OUTPUT_FRAME (R358). -/
  | sdiOutputFrame (lane : Nat)
  /-- MEMORY_REQUEST (R415). -/
  | memoryRequest (q : MemReq)
  /-- REFRESH_DUE (R410): a bank of a bank group (R406). -/
  | refreshDue (rank group bank : Nat)
  /-- PAGE_IDLE_CLOSE (R409). -/
  | pageIdleClose (rank bank : Nat)
  /-- POWER_DOWN_ENTRY (R411). -/
  | powerDownEntry (rank : Nat) (arrival : Bool)
  /-- RH_WINDOW_END (R420). -/
  | rhWindowEnd
  /-- TRAINING_PASS_START (R422). -/
  | trainingPassStart (channel : Nat) (thermal : Bool)
  /-- TRAINING_PASS_COMMIT (R423). -/
  | trainingPassCommit (channel : Nat)
  /-- TRAIN_FAIL (R427). -/
  | trainFail (channel sub : Nat) (margin : Int)
  /-- SETPOINT_SWITCH_START (R426). -/
  | setpointSwitchStart
  /-- SETPOINT_SWITCH_COMPLETE (R423). -/
  | setpointSwitchComplete
  /-- SETPOINT_CHECK_COMPLETE (R423). -/
  | setpointCheckComplete (failed sub : Nat) (margin : Int)
  /-- PATROL_SCRUB (R433). -/
  | patrolScrub (q : MemReq)
  /-- DMA_TRIGGER (R444). -/
  | dmaTrigger (channel : Nat) (kind : Nat)
  /-- DMA_TIMER_EXPIRY (R444). -/
  | dmaTimerExpiry (channel : Nat)
  /-- DMA_RUN_END (R446). -/
  | dmaRunEnd (channel : Nat) (x : DmaIn)
  /-- DRAIN_TIMEOUT (R452). -/
  | drainTimeout (tile : Nat)
  /-- DMA_DOMAIN_RESUME (R453). -/
  | dmaDomainResume (domain : Nat)
  /-- HOST_MEMORY_LOST (R454). -/
  | hostMemoryLost
  /-- MSIX_REENABLE (R498). -/
  | msixReenable (vectors : List Nat)
  /-- BELF_NOW32_READ (R133). -/
  | belfNow32Read
  /-- TSQ_HI_READ (R149). -/
  | tsqHiRead (turret : Nat)
  /-- TB_FRAME_COUNT_READ (R154). -/
  | tbFrameCountRead (tb : Nat)
  /-- COUNTER_READ_CLEAR (R10). -/
  | counterReadClear (offset : Nat)
  /-- W1C_WRITE (R9). -/
  | w1cWrite (offset : Nat) (value : Word) (meets : Word)
  /-- CHK_FEED8_WRITE (R457). -/
  | chkFeed8Write (unit : Nat) (value : Word)
  /-- CHK_FEED16_WRITE (R457). -/
  | chkFeed16Write (unit : Nat) (value : Word)
  /-- CHK_FEED32_WRITE (R457). -/
  | chkFeed32Write (unit : Nat) (value : Word)
  /-- REGISTER_WRITE (R14). -/
  | registerWrite (offset : Nat) (value : Word)
  /-- BAR2_WRITE (R408). -/
  | bar2Write (offset : Nat) (bytes : List Byte)
  /-- BAR2_READ (R408). -/
  | bar2Read (offset len : Nat)
  /-- SELECT_LANE_REFERENCE (R345). -/
  | selectLaneReference (c : Cmd)
  /-- CONFIGURE_TURRET_LAYOUT (R362). -/
  | configureTurretLayout (c : Cmd)
  /-- CONFIGURE_MEDIA_LANE (R363). -/
  | configureMediaLane (c : Cmd)
  /-- SET_TRANSMIT_TAPS (R350). -/
  | setTransmitTaps (c : Cmd)
  /-- SET_POLARITY (R361). -/
  | setPolarity (c : Cmd)
  /-- PRBS_GENERATOR_CHECKER (R365). -/
  | prbsGeneratorChecker (c : Cmd)
  /-- LOOPBACK (R365). -/
  | loopback (c : Cmd)
  /-- READ_LANE_STATUS (R366). -/
  | readLaneStatus (c : Cmd)
  /-- PORT_IDENTITY (R371). -/
  | portIdentity (c : Cmd)
  /-- PATH_HEALTH_PARAMETERS (R396). -/
  | pathHealthParameters (c : Cmd)
  /-- INTERLOCK_PARAMETERS (R399). -/
  | interlockParameters (c : Cmd)
  /-- PRIVILEGED_POLICER (R376). -/
  | privilegedPolicer (c : Cmd)
  /-- TURRET_OVERHEAD_COLOUR_TABLE (R384). -/
  | turretOverheadColourTable (c : Cmd)
  /-- DRR_QUEUE (R392). -/
  | drrQueue (c : Cmd)
  /-- SEND_HOST_PACKET (R393). -/
  | sendHostPacket (c : Cmd)
  /-- READ_TURRET_STATUS (R402). -/
  | readTurretStatus (c : Cmd)
  /-- CONFIGURE_INGRESS_FLOW (R377). -/
  | configureIngressFlow (c : Cmd)
  /-- DELETE_INGRESS_FLOW (R374). -/
  | deleteIngressFlow (c : Cmd)
  /-- CONFIGURE_EGRESS_FLOW (R385). -/
  | configureEgressFlow (c : Cmd)
  /-- DELETE_EGRESS_FLOW (R374). -/
  | deleteEgressFlow (c : Cmd)
  /-- BIND_AUDIO_FLOW (R380). -/
  | bindAudioFlow (c : Cmd)
  /-- READ_FLOW_STATUS (R402). -/
  | readFlowStatus (c : Cmd)
  /-- READ_MEMBERSHIP_TABLE (R374). -/
  | readMembershipTable (c : Cmd)
  /-- OPEN_ENCODE_CONTEXT (R195). -/
  | openEncodeContext (c : Cmd)
  /-- CLOSE_CONTEXT (R202). -/
  | closeContext (c : Cmd)
  /-- MODIFY_ENCODE_CONTEXT (R200). -/
  | modifyEncodeContext (c : Cmd)
  /-- REQUEST_IRAP (R205). -/
  | requestIrap (c : Cmd)
  /-- INVALIDATE_REFERENCES (R216). -/
  | invalidateReferences (c : Cmd)
  /-- RATE_PARAMETERS (R246). -/
  | rateParameters (c : Cmd)
  /-- SEND_CEILING_AND_HRD (R248). -/
  | sendCeilingAndHrd (c : Cmd)
  /-- CONFIGURE_STATMUX_GROUP (R262). -/
  | configureStatmuxGroup (c : Cmd)
  /-- JOIN_GROUP (R263). -/
  | joinGroup (c : Cmd)
  /-- REMOVE_FROM_GROUP (R261). -/
  | removeFromGroup (c : Cmd)
  /-- READ_GROUP_STATUS (R280). -/
  | readGroupStatus (c : Cmd)
  /-- READ_RATE_CONTROL_STATUS (R280). -/
  | readRateControlStatus (c : Cmd)
  /-- SCHEDULING_FIELDS (R187). -/
  | schedulingFields (c : Cmd)
  /-- DEVICE_SCHEDULING_FIELDS (R188). -/
  | deviceSchedulingFields (c : Cmd)
  /-- READ_SCHEDULING_STATISTICS (R189). -/
  | readSchedulingStatistics (c : Cmd)
  /-- OPEN_DECODE_CONTEXT (R283). -/
  | openDecodeContext (c : Cmd)
  /-- FLUSH_AND_RESYNCHRONISE (R301). -/
  | flushAndResynchronise (c : Cmd)
  /-- READ_DECODE_STATUS (R303). -/
  | readDecodeStatus (c : Cmd)
  /-- READ_CONTEXT_STATUS (R223). -/
  | readContextStatus (c : Cmd)
  /-- CONFIGURE_COMPOSITION (R309). -/
  | configureComposition (c : Cmd)
  /-- DELETE_COMPOSITION (R309). -/
  | deleteComposition (c : Cmd)
  /-- CONFIGURE_VIDEO_LAYER (R316). -/
  | configureVideoLayer (c : Cmd)
  /-- CONFIGURE_GRAPHIC_LAYER (R321). -/
  | configureGraphicLayer (c : Cmd)
  /-- DEFINE_ASSET (R320). -/
  | defineAsset (c : Cmd)
  /-- WRITE_ASSET_CHUNK (R320). -/
  | writeAssetChunk (c : Cmd)
  /-- COMMIT_ASSET (R320). -/
  | commitAsset (c : Cmd)
  /-- FREE_ASSET (R320). -/
  | freeAsset (c : Cmd)
  /-- SET_MASTERING_METADATA (R326). -/
  | setMasteringMetadata (c : Cmd)
  /-- READ_COMPOSITION_STATUS (R342). -/
  | readCompositionStatus (c : Cmd)
  /-- DEFINE_LANTERN_IMAGE (R330). -/
  | defineLanternImage (c : Cmd)
  /-- WRITE_LANTERN_IMAGE_CHUNK (R330). -/
  | writeLanternImageChunk (c : Cmd)
  /-- COMMIT_LANTERN_IMAGE (R330). -/
  | commitLanternImage (c : Cmd)
  /-- CONFIGURE_LANTERN_ITEM (R331). -/
  | configureLanternItem (c : Cmd)
  /-- READ_LANTERN_STATUS (R308). -/
  | readLanternStatus (c : Cmd)
  /-- MEMORY_POLICY (R435). -/
  | memoryPolicy (c : Cmd)
  /-- PORT_LATENCY_TARGET (R412). -/
  | portLatencyTarget (c : Cmd)
  /-- ROW_DISTURBANCE_SETTINGS (R435). -/
  | rowDisturbanceSettings (c : Cmd)
  /-- SET_POINT (R425). -/
  | setPoint (c : Cmd)
  /-- RETRAIN_CHANNEL (R429). -/
  | retrainChannel (c : Cmd)
  /-- BAR2_APERTURE (R408). -/
  | bar2Aperture (c : Cmd)
  /-- READ_MEMORY_STATUS (R435). -/
  | readMemoryStatus (c : Cmd)
  /-- CONFIGURE_DMA_CHANNEL (R443). -/
  | configureDmaChannel (c : Cmd)
  /-- START_CHANNELS (R444). -/
  | startChannels (c : Cmd)
  /-- CHANNEL_CONTROL (R438). -/
  | channelControl (c : Cmd)
  /-- RELEASE_DMA_CHANNEL (R438). -/
  | releaseDmaChannel (c : Cmd)
  /-- ENGINE_SETTINGS (R438). -/
  | engineSettings (c : Cmd)
  /-- OPEN_CHECK_UNIT (R459). -/
  | openCheckUnit (c : Cmd)
  /-- CLOSE_CHECK_UNIT (R459). -/
  | closeCheckUnit (c : Cmd)
  /-- RELEASE_CHECK_UNIT (R438). -/
  | releaseCheckUnit (c : Cmd)
  /-- READ_DMA_AND_CHECK_STATUS (R438). -/
  | readDmaAndCheckStatus (c : Cmd)
  /-- OPERATING_PROFILE (R19). -/
  | operatingProfile (c : Cmd)
  /-- THERMAL_LEVELS (R483). -/
  | thermalLevels (c : Cmd)
  /-- POWER_CAPS (R483). -/
  | powerCaps (c : Cmd)
  /-- SENSOR_OVERRIDE (R469). -/
  | sensorOverride (c : Cmd)
  /-- READ_TELEMETRY (R482). -/
  | readTelemetry (c : Cmd)
  /-- READ_DIP_LOG (R481). -/
  | readDipLog (c : Cmd)
  /-- READ_REGISTERS (R503). -/
  | readRegisters (c : Cmd)
  /-- WRITE_REGISTER (R505). -/
  | writeRegister (c : Cmd)
  /-- COUNTER_SNAPSHOT (R505). -/
  | counterSnapshot (c : Cmd)
  /-- WRITE_FIRMWARE_CHUNK (R125). -/
  | writeFirmwareChunk (c : Cmd)
  /-- VERIFY_INACTIVE_SLOT (R125). -/
  | verifyInactiveSlot (c : Cmd)
  /-- ACTIVATE_INACTIVE_SLOT (R126). -/
  | activateInactiveSlot (c : Cmd)
  /-- CONFIRM_TRIAL_IMAGE (R127). -/
  | confirmTrialImage (c : Cmd)
  /-- INSTALL_KEY (R128). -/
  | installKey (c : Cmd)
  /-- SET_AUTHENTICATION_POLICY (R129). -/
  | setAuthenticationPolicy (c : Cmd)
  /-- WRITE_STARTUP_STORE (R117). -/
  | writeStartupStore (c : Cmd)
  /-- UNLOCK_DEBUG_ACCESS (R52). -/
  | unlockDebugAccess (c : Cmd)
  /-- PCIE_PERST_N_DEEMED_RELEASE (R42). -/
  | pciePerstNDeemedRelease
  /-- PCIE_ENDPOINT_READY (R116). -/
  | pcieEndpointReady
  /-- CDR_LOCK_TIMEOUT (R351). -/
  | cdrLockTimeout (port : Nat)
  /-- DMA_DRAIN_PAUSE (R451). -/
  | dmaDrainPause (channel : Nat)
  /-- LANE_REFCLK_PRESENCE_CHANGE (R345). -/
  | laneRefclkPresenceChange (ppm : Int)
  /-- PPS_IN_PRESENT_EXPIRY (R147). -/
  | ppsInPresentExpiry
  /-- MANAGEMENT_LINK_STATE_CHANGE (R369). -/
  | managementLinkStateChange (up : Bool) (rate : Nat)
  deriving DecidableEq, Repr

end Sys2Proof
end

