-- ==== Sys2Proof/Decode.lean ====
section
/-! DEFINITION. The command that a word spells by spec/opcode_table.json. The table's rows list no bits
and no fields (the block takes commands, not encoded instructions), so no word spells one. -/

namespace Sys2Proof

/-- The command spelled by a word of the opcode table's bits: none, since no row has bits. -/
def decodeTableWord (_nbits _w : Nat) : Option Instr := none

end Sys2Proof
end

