-- ==== Sys2Proof/Config.lean ====
section
/-! DEFINITION. The values the spec leaves open, as constants with no body: nothing can be proved of
their values. The free ones are applied to the model's counter of free values (`State.free`, log
entry 2), or to the operands they depend on. -/

namespace Sys2Proof.Config

/-- A value the spec leaves open at one moment: an RTP sequence number's random start (R277), the
detail code of a firmware fault (R99), a raster phase sampled by a register (R509). Log entry 2. -/
opaque freeValue : Nat → Nat

/-- The servo's filtered offset (R139) from the one before and the offsets measured, newest first: the
spec gives no filter. Log entry 24. -/
opaque servoFilter : Int → List Int → Int

/-- The increment the servo steers to (R132) from the one before and the filtered offset, before it is
brought within the range of R132: the spec gives no control law. Log entry 24. -/
opaque servoSteer : BitVec 40 → Int → Int

/-- RFC 3394 AES key unwrap under the key-encryption key derived from the firmware command key: the
derivation is not in the spec (R128). The firmware key and the wrapped words give the new key, or
none on an unwrap failure. Log entry 20. -/
opaque keyUnwrap : List Byte → List Word → Option (List Byte)

/-- What the checks of R114 find in a firmware slot that held an image of which they found the first argument, once
these chunks are written over it, each with its offset: header well formed, signature, body hash, security version,
firmware version. The header's layout is not in the spec (R113). Log entry 21. -/
opaque imageCheck : Bool × Bool × Bool × Nat × BitVec 32 → List (Nat × List Byte) →
  Bool × Bool × Bool × Nat × BitVec 32

/-- The level maxima of ITU-T H.265 and H.266 Annex A (R246): codec, profile, tier and level selectors give
the maximum bit rate in kb/s and the maximum CPB size in bits. The spec names the standards alone. Log
entry 30. -/
opaque levelMax : Nat → Nat → Nat → Nat → Nat × Nat

/-- The largest size in bits of one part of a picture's headers (R252), from the context's fields: 0 delimiter,
1 VPS, 2 SPS, 3 PPS, 4 APS, 5 slice header but for its entry points, 6 hash SEI, and 16 on the prefix SEI of
that payload type. The spec gives no figures. Log entry 30. -/
opaque partBits : List Int → Nat → Nat

/-- The arithmetic of R256 on IEEE 754 single numbers: sum, difference, product, quotient, power and natural
logarithm, a number nearest to a fraction, and the whole number nearest to one. The spec gives the formulas and
not the precision between. Log entry 31. -/
opaque fAdd : BitVec 32 → BitVec 32 → BitVec 32
/-- See `fAdd`. -/
opaque fSub : BitVec 32 → BitVec 32 → BitVec 32
/-- See `fAdd`. -/
opaque fMul : BitVec 32 → BitVec 32 → BitVec 32
/-- See `fAdd`. -/
opaque fPow : BitVec 32 → BitVec 32 → BitVec 32
/-- See `fAdd`. -/
opaque fLn : BitVec 32 → BitVec 32
/-- See `fAdd`. -/
opaque fOf : Int → Nat → BitVec 32
/-- See `fAdd`. -/
opaque fRound : BitVec 32 → Int

/-- The bytes of a parameter set (R280) from its NAL unit type and what it says: they follow the codec
standards. Log entry 30. -/
opaque paramBytes : Nat → List Int → List (BitVec 8)

/-- The decoding process of ITU-T H.265 (0) or H.266 (1) for one picture (R227): from what the parameter sets
say, the QP and tokens of every CTU in raster order, and the reconstructions of list 0, the lines of the three
planes. The spec names the standards. Log entry 75. -/
opaque decode : Nat → List Int → List (Int × List (BitVec 32)) → List (List (BitVec 40)) → List (List (List Nat))

/-- The decoding process for a picture of an ingress stream (R291, R294, R296): from the codec, the bytes
present, the first CTU of each row that is concealed, the references in the order named (the substitute where one
is lost) each with its incomplete rows, and the substitute. Log entry 75. -/
opaque decodeUnit : Nat → List (Option (BitVec 8)) → List Nat → List (List (BitVec 40) × List Nat) →
  List (BitVec 40) → List (List (List Nat))

/-- The picture hash of ITU-T H.265 or H.266 (R299): codec, 1 CRC or 2 checksum, and the picture; of each plane. Log
entry 75. -/
opaque pictureHash : Nat → Nat → List (BitVec 40) → List (BitVec 32)

/-- The bottom 8 luma lines and the chroma lines that match of a CTU before deblocking (false) and after it
(true), by the standards' decoding process (R228), from the codec, its QP and tokens, the lines of the CTUs to
its left and above, and the reconstructions of list 0. Log entry 75. -/
opaque bottomLines : Bool → Nat → Int → List (BitVec 32) → List (List Nat) → List (List Nat) →
  List (List (BitVec 40)) → List (List Nat)

/-- The length in 64-byte units of a group of words compressed without loss (R221), before it is brought within
1 to 5: the spec gives no method. Log entry 75. -/
opaque groupLength : List (BitVec 40) → Nat

/-- The ALF filter sets that the firmware fits from the statistics of a picture's CTUs (R237): of each its
distortion, bits and tokens. The spec gives no fit. Log entry 75. -/
opaque alfFit : List (Nat × Nat × List (BitVec 32)) → List Int

/-- Whether a quotient is rounded up where it is not whole: R322, R325 and R337 give filters, means and 20-bit
arithmetic and no rounding. Log entries 32 and 100. -/
opaque roundUp : Nat → Nat → Bool

/-- The transfer functions of R323's spaces, given by the standards that it names (log entry 100): an entry of the
4,096-entry curve to light, and the signal of a light, of a space. -/
opaque curveIn : Nat → Nat → Nat
/-- See `curveIn`. -/
opaque curveOut : Nat → Nat → Nat

/-- A component of what HLG shows of a colour that is no grey, or of the scene light of what is shown (BT.2100): the
direction, the component, and the three components. Log entry 100. -/
opaque hlgShow : Bool → Nat → Nat → Nat → Nat → Nat

/-- The part in 1,024 of its distance from the achromatic axis that an out-of-gamut colour keeps (R322): the spec
names no curve. Log entry 100. -/
opaque gamutPart : List Int → Nat

/-- The soft clip of PQ for HLG between 800 and 1,000 cd/m² (R323). Log entry 100. -/
opaque softClip : Nat → Nat

/-- The knee of R323 from reference white to 1,000 cd/m². Log entry 100. -/
opaque knee : Nat → Nat

/-- The ST 352 payload identifier of a link of an SDI output (R358), from its class, format, rate, space and link number
less 1: the spec names the standard. Log entry 102. -/
opaque payloadId : Nat → Nat → Nat → Nat → Nat → BitVec 32

/-- The module DRAM address of a composition's delay-line slot for an input frame (R342): the spec gives no
placing. Log entry 35. -/
opaque slotPlace : Nat → Nat → Nat

/-- The result words of opcode 0x0A20 from each image's number, commitment and damage (R308): the spec gives
no layout. Log entry 36. -/
opaque lanternStatus : List (Nat × Bool × Bool) → List (BitVec 32)

/-- The result words of opcode 0x0441 from the memberships of a path, each a group and a source filter (R374): the
spec gives no layout. Log entry 36. -/
opaque membershipTable : List (Nat × Nat) → List (BitVec 32)

/-- RAAIMT, the refresh management threshold that the controller reads from the devices' mode registers
(R418): the spec gives no figure. Log entry 37. -/
opaque raaimt : Nat

end Sys2Proof.Config
end

