-- ==== Sys2Proof/Machine/Tab.lean ====
section
/-! DEFINITION. Operations on keyed tables, on field lists and on bytes, used by every subsystem. -/

namespace Sys2Proof.Machine

/-- The value of key `k`, or `d` when the table does not list it. -/
def tget {α : Type} (d : α) : Tab α → Nat → α
  | [], _ => d
  | (j, v) :: t, k => if j = k then v else if k < j then d else tget d t k

/-- The table with key `k` listed with value `v`, or not listed: keys stay in strictly rising order. -/
def tput {α : Type} : Tab α → Nat → Option α → Tab α
  | [], k, some v => [(k, v)]
  | [], _, none => []
  | (j, w) :: t, k, v =>
    if k < j then (match v with
      | some v => (k, v) :: (j, w) :: t
      | none => (j, w) :: t)
    else if j = k then (match v with
      | some v => (k, v) :: t
      | none => t)
    else (j, w) :: tput t k v

/-- The table with key `k` reading `v`, where `d` is what an unlisted key reads as. -/
def tset {α : Type} [DecidableEq α] (d : α) (t : Tab α) (k : Nat) (v : α) : Tab α :=
  tput t k (if v = d then none else some v)

/-- The table with the value of key `k` changed by `f`. -/
def tmod {α : Type} [DecidableEq α] (d : α) (t : Tab α) (k : Nat) (f : α → α) : Tab α :=
  tset d t k (f (tget d t k))

/-- The table with every listed value changed by `f`, entries that become `d` dropped. -/
def tmap {α : Type} [DecidableEq α] (d : α) (t : Tab α) (f : Nat → α → α) : Tab α :=
  t.filterMap fun (k, v) => let w := f k v; if w = d then none else some (k, w)

/-- Keys in strictly rising order, every one above `lo` when given, and no value equal to `d`: the
canonical form of a table. -/
def tabWf {α : Type} [DecidableEq α] (d : α) : Option Nat → Tab α → Bool
  | _, [] => true
  | lo, (k, v) :: t =>
    (match lo with
      | none => true
      | some m => decide (m < k)) && decide (v ≠ d) && tabWf d (some k) t

/-! ## Field lists (R506) -/

/-- Field `i` of a field list, counted from 1; 0 beyond its end. -/
def fld (f : Fields) (i : Nat) : Int := f.getD (i - 1) 0

/-- Field `i` as a natural number. -/
def fnat (f : Fields) (i : Nat) : Nat := (fld f i).toNat

/-- The field list with field `i` set to `v`. -/
def fset (f : Fields) (i : Nat) (v : Int) : Fields := f.set (i - 1) v

/-- A word read as a signed or unsigned number (R61). -/
def wordInt (signed : Bool) (w : Word) : Int := if signed then w.toInt else (w.toNat : Int)

/-- A number as a 32-bit word, two's complement when negative (R61). -/
def intWord (i : Int) : Word := BitVec.ofInt 32 i

/-- A natural number as a 32-bit word. -/
def natWord (n : Nat) : Word := BitVec.ofNat 32 n

/-- Bit `i` of a natural number. -/
def bit (n i : Nat) : Bool := n / 2 ^ i % 2 = 1

/-- Bits [hi:lo] of a natural number. -/
def bits (n hi lo : Nat) : Nat := n / 2 ^ lo % 2 ^ (hi + 1 - lo)

/-- 1 for true, 0 for false. -/
def b2n (b : Bool) : Nat := if b then 1 else 0

/-- The quotient rounded up. -/
def ceilDiv (a b : Nat) : Nat := (a + b - 1) / b

/-- The quotient of integers rounded up, for a positive divisor. -/
def iceil (a b : Int) : Int := -((-a) / b)

/-- The quotient rounded to the nearest integer, halves up. -/
def nearDiv (a b : Int) : Int := (2 * a + b) / (2 * b)

/-- `v` brought within `lo` to `hi`. -/
def clip (lo hi v : Int) : Int := if v < lo then lo else if hi < v then hi else v

/-- The first `n` elements of a list read from index `i`. -/
def slice {α : Type} (l : List α) (i n : Nat) : List α := (l.drop i).take n

/-! ## Bytes -/

/-- `n` bytes of a number, least significant first (R55). -/
def leBytes : Nat → Nat → List Byte
  | 0, _ => []
  | n + 1, v => BitVec.ofNat 8 v :: leBytes n (v / 256)

/-- The number whose bytes these are, least significant first. -/
def ofLe : List Byte → Nat
  | [] => 0
  | b :: t => b.toNat + 256 * ofLe t

/-- `n` bytes of a number, most significant first. -/
def beBytes (n v : Nat) : List Byte := (leBytes n v).reverse

/-- The 32-bit words of a byte list, little-endian, a last part padded with zero bytes. -/
def toWords : List Byte → List Word
  | a :: b :: c :: d :: t => natWord (ofLe [a, b, c, d]) :: toWords t
  | [] => []
  | l => [natWord (ofLe l)]

/-- The bytes of 32-bit words, little-endian. -/
def ofWords (l : List Word) : List Byte := l.flatMap fun w => leBytes 4 w.toNat

/-! ## Checksums (R56, R456) -/

/-- One bit of a reflected 32-bit CRC. -/
def crcBit (poly x : Nat) : Nat := if x % 2 = 1 then (x / 2) ^^^ poly else x / 2

/-- One byte of a reflected 32-bit CRC with the reflected polynomial `poly`. -/
def crcByte (poly x : Nat) (b : Byte) : Nat :=
  let y := x ^^^ b.toNat
  crcBit poly (crcBit poly (crcBit poly (crcBit poly (crcBit poly (crcBit poly (crcBit poly
    (crcBit poly y)))))))

/-- A reflected CRC register run over bytes. -/
def crcRun (poly x : Nat) (l : List Byte) : Nat := l.foldl (crcByte poly) x

/-- CRC-32 of R56: reflected polynomial 0xEDB88320, initial value and final XOR 0xFFFFFFFF. -/
def crc32 (l : List Byte) : Word := natWord (crcRun 0xEDB88320 0xFFFFFFFF l ^^^ 0xFFFFFFFF)

/-- CRC-32C (R332, R456): reflected polynomial 0x82F63B78, otherwise as CRC-32. -/
def crc32c (l : List Byte) : Word := natWord (crcRun 0x82F63B78 0xFFFFFFFF l ^^^ 0xFFFFFFFF)

end Sys2Proof.Machine
end

