-- ==== Sys2Proof/Machine/State.lean ====
section
/-! DEFINITION. The state of the HZ4880 as plain data, one structure a subsystem. Every field's
docstring names the rule of spec/ that gives it; the value after `:=` is its value at reset. Where
the spec gives none, the value is the model's (DESIGN CHOICE, log entry 3). -/

namespace Sys2Proof.Machine

/-! ## Names -/

/-- The seven device states (R106). -/
inductive DevState where
  | off | boot | train | standby | run | degraded | safe
  deriving DecidableEq, Repr

/-- The resets of R119, from the narrowest effect to the widest in R120 (R123). -/
inductive ResetKind where
  | pcie | warm | external | supply
  deriving DecidableEq, Repr

/-- The servo states of R138. -/
inductive Servo where
  | unset | acquire | track | locked | holdover | requalify
  deriving DecidableEq, Repr

/-- The context states of R192. -/
inductive CtxState where
  | closed | opening | active | closing
  deriving DecidableEq, Repr

/-- The marks of a pool buffer (R210). -/
inductive Mark where
  | unused | short | long | held | corrupt
  deriving DecidableEq, Repr

/-- The task types of R161. -/
inductive TaskKind where
  | bind | seg | dome | close | dparse | dseg
  deriving DecidableEq, Repr

/-- The training engine's states (R423). -/
inductive Engine where
  | idle | gather | switch | check
  deriving DecidableEq, Repr

/-- The DMA channel states (R464). -/
inductive ChanState where
  | idle | waiting | running | paused | done | error
  deriving DecidableEq, Repr

/-- The status codes of R62. -/
inductive Status where
  | ok | okClamped | badOpcode | badLength | crcMismatch | authFail | replay | noResource | busy
  | deferred | badState | notLocked | refused | internal
  deriving DecidableEq, Repr

/-- The reasons of a clamp entry (R61). -/
inductive Reason where
  | belowMin | aboveMax | granule | crossField | selector
  deriving DecidableEq, Repr

/-- What holds an event unit, a DMA channel or a check unit (R155, R157, R439). -/
inductive Holder where
  | free | host | firmware
  deriving DecidableEq, Repr

/-- Where a port's bring-up stands (R351): the rows of its table, and a wait for a retry. -/
inductive Phase where
  | off | pll | autoneg | training | locking | deskew | up | wait | relock
  deriving DecidableEq, Repr

/-! ## Replies, events and the output log -/

/-- A clamp entry (R61). -/
structure Clamp where
  field     : Nat
  requested : Word
  applied   : Word
  reason    : Reason
  deriving DecidableEq, Repr

/-- A reply (R60), before it is laid out in bytes. -/
structure Reply where
  opcode  : Nat
  status  : Status
  tag     : Word
  effect  : Option Word       -- effect frame, with EFFECT_VALID
  fenced  : Bool
  auth    : Option (Nat × List Byte)  -- echoed replay counter and the key of its HMAC, with AUTH (R87)
  clamps  : List Clamp
  result  : List Word
  deriving DecidableEq, Repr

/-- An event record (R97) as it is queued for a subscriber: everything but the sequence number and
loss count, which the subscriber gives it. -/
structure Event where
  code   : Nat                -- R98
  sec    : BitVec 48
  ns     : BitVec 32
  ctx    : Nat                -- context id or 0xFFFF
  source : Nat
  bytes  : List Byte          -- bytes 16 on
  deriving DecidableEq, Repr

/-! ## Supply and pins (spec/02) -/

/-- Converter, thresholds and rails. -/
structure Supply where
  /-- the converter runs (R35, R36) -/
  converter : Bool := true
  /-- over-voltage lockout: no start until VIN_48 has fallen to 64.0 V (R30) -/
  ovLock : Bool := false
  /-- a start failed to bring a rail up, at this tick: another try is due 1 s later (R53) -/
  retry : Option Nat := none
  /-- stopped for converter temperature: no start above 100 degrees C (R480) -/
  hotStop : Bool := false
  /-- PWR_GOOD (R43, R53), and the tick at which it rose (R42) -/
  pwrGood : Bool := true
  goodTick : Nat := 0
  /-- V33_AUX and V18_AUX (R38, R43) -/
  aux : Bool := true
  /-- lane and management transmitters squelched by a supply reset (R54) -/
  squelched : Bool := false
  deriving DecidableEq, Repr

/-- A GPIO (R51, R104): field values of 0x0105 (function, level, pulse width, pull), and the tick at
which a pulse output's pulse last began, while it lasts. -/
structure Gpio where
  f : Fields := [0, 0, 1000, 0]
  pulse : Option Nat := none
  deriving DecidableEq, Repr

/-- The filtered inputs and the outputs of J1 and J2. -/
structure Pins where
  /-- held in reset by RESET_N, or since PWR_GOOD rose and RESET_N was not yet released (R44) -/
  held : Bool := false
  /-- PATH_FORCE_IN asserted after its filter (R48) -/
  pathForce : Bool := false
  /-- PCIE_PERST_N counts as low: not released since PWR_GOOD rose or since it last fell (R41, R42) -/
  perstLow : Bool := true
  /-- the PCIe endpoint answers with successful completions (R116) -/
  pcieReady : Bool := false
  /-- the endpoint is in D0 with bus mastering: host memory is reachable (R453) -/
  hostUp : Bool := false
  /-- FREQ10M_IN present (R47), and its frequency against the TCXO in parts per 10^9 -/
  freq10m : Bool := false
  freqPpb : Int := 0
  /-- tick of the last accepted PPS_IN edge (R45) -/
  ppsIn : Option Nat := none
  /-- an edge accepted within the last 1.5 s (R147) -/
  ppsPresent : Bool := false
  /-- the tick at which PPS_OUT rose, while it is high (R46) -/
  ppsHigh : Option Nat := none
  /-- the last whole second that gave a pulse (R46) -/
  ppsLast : Option Nat := none
  /-- GPIO 0 to 15 (R43, R51) -/
  gpio : Tab Gpio := []
  /-- the last sampled levels of the GPIO inputs, bit g for GPIO g (R105): a free value at each read -/
  gpioIn : Nat := 0
  deriving DecidableEq, Repr

/-! ## Device, boot and Keep (spec/04) -/

/-- A firmware image in the boot flash: what the checks of R114 find, and its header's versions
(R113, R492). -/
structure Image where
  headerOk : Bool := true
  sigOk    : Bool := true
  hashOk   : Bool := true
  secver   : Nat := 0
  version  : Word := 0x01000000
  deriving DecidableEq, Repr

/-- A firmware slot (R113, R125, R126): the image it was last known to hold whole, the chunks written over it
since, and whether it has passed verify since its last write. -/
structure Slot where
  base : Image := {}
  chunks : List (Nat × List Byte) := []
  verified : Bool := false
  deriving DecidableEq, Repr

/-- A command key and the last accepted replay counter (R85). -/
structure Key where
  key     : Option (List Byte) := none
  counter : Nat := 0
  deriving DecidableEq, Repr

/-- A dip record (R481), with whether its telemetry was lost at some time (R485). -/
structure Dip where
  sec     : BitVec 48
  ns      : BitVec 32
  tick    : Nat               -- tick of the raise
  minimum : Nat               -- 10 mV
  micros  : Nat               -- duration
  outcome : Nat
  step    : Nat
  state   : DevState
  valid   : Bool
  lost    : Bool
  deriving DecidableEq, Repr

/-- A Lantern item copied to Keep's store (R335): composition, item number, fields, image and its
content, and whether its HMAC verifies. -/
structure Persist where
  comp  : Nat
  item  : Nat
  f     : Fields
  width : Nat
  height : Nat
  bytes : List Byte
  ok    : Bool
  deriving DecidableEq, Repr

/-- Keep's non-volatile store and the boot flash: what no reset clears (R113, R120, R127). -/
structure Keep where
  slotA : Slot := {}
  slotB : Slot := { base := { headerOk := false, sigOk := false, hashOk := false } }
  recovery : Image := {}
  /-- the slot last made active, 0 A or 1 B (R114, R127) -/
  active : Nat := 0
  /-- a slot activated and not yet confirmed (R127) -/
  trialSlot : Option Nat := none
  /-- minimum security version: 0 as shipped (R113) -/
  minSecver : Nat := 0
  /-- firmware, Lantern and general command keys (R85): only the first is provisioned as shipped -/
  firmware : Key := { key := some (List.replicate 32 0) }
  lantern : Key := {}
  general : Key := {}
  /-- AUTH_REQUIRED for PCIe, management, in-band: clear as shipped (R129) -/
  authPcie : Bool := false
  authMgmt : Bool := false
  authInband : Bool := false
  /-- startup store packets (R117) -/
  store : List (List Byte) := []
  /-- management link mode, 0 1000BASE-X or 1 SGMII (R105) -/
  mgmtMode : Nat := 0
  /-- dip log, newest first, at most 64 (R481) -/
  dips : List Dip := []
  /-- hard trip log: sensor, reading, steps in force (R475) -/
  trips : List (Nat × Int × List Nat) := []
  /-- INTERNAL events owed after a reset: kind, core (R99) -/
  owedInternal : List (Nat × Nat) := []
  /-- the log of firmware faults, newest first (R62, R99): kind, core, opcode, host tag, detail -/
  faults : List (Nat × Nat × Nat × Word × Nat) := []
  /-- SUPPLY_WARN events owed after a reset: kind, step, minimum, micros (R479, R480, R485) -/
  owedSupply : List (Nat × Nat × Nat × Nat) := []
  /-- Lantern items copied to the store (R335) -/
  persist : List Persist := []
  /-- module serial number and base MAC address (R100, R371) -/
  serial : BitVec 64 := 0
  mac : BitVec 48 := 0x020000000000
  deriving DecidableEq, Repr

/-- Device state and boot (R106, R107, R122, R124). -/
structure Dev where
  /-- SYS_VARIANT code: 1 HZ4880-256, 2 HZ4880-128, 3 HZ4840-128 (R5, R492) -/
  variant : Nat := 1
  state : DevState := .boot
  /-- SYS_STATE LAST_RESET (R124) -/
  lastReset : Nat := 0
  trialReverted : Bool := false
  trial : Bool := false
  /-- running image: 0 slot A, 1 slot B, 2 recovery (R124) -/
  image : Nat := 0
  /-- a reset in progress: its kind, until TRAIN is entered (R123) -/
  inProgress : Option ResetKind := some .supply
  /-- state changes made before the command processor starts: previous, new, cause (R107) -/
  owed : List (DevState × DevState × Nat) := [(.off, .boot, 1)]
  /-- the ticks of the last two watchdog resets, newest first (R122) -/
  wdRecent : List Nat := []
  /-- the boot in progress enters SAFE, not STANDBY (R122) -/
  safeBoot : Bool := false
  /-- a thermal trip is latched: a warm reset is refused while hot (R111, R475) -/
  tripped : Bool := false
  /-- a warm reset is due, with the LAST_RESET code it will record (R119, R124) -/
  warmDue : Option Nat := none
  /-- this start follows a warm reset: training is a check pass (R116) -/
  warmBoot : Bool := false
  /-- debug access unlocked (R52) -/
  debug : Bool := false
  /-- the management link is up (R369) -/
  mgmtUp : Bool := false
  deriving DecidableEq, Repr

/-! ## Command processor (spec/03, spec/18) -/

/-- What waits in a ring's queue, in arrival order (R88). -/
inductive QItem where
  | desc                                  -- a descriptor of the PCIe ring
  | stored (pos : Nat) (bytes : List Byte)  -- a packet of the startup store and its position (R117)
  | udp (via : Via) (src : Endpoint) (path : Nat) (bytes : List Byte)
  deriving DecidableEq, Repr

/-- A command ring (R79 to R81, R494). -/
structure Ring where
  baseLo : Word := 0
  baseHi : Word := 0
  cqLo   : Word := 0
  cqHi   : Word := 0
  enable : Bool := false
  msix   : Bool := false
  sizeLog2 : Nat := 0
  producer : BitVec 16 := 0
  consumer : BitVec 16 := 0
  phase    : Bool := true
  queue  : List QItem := []
  /-- a background command of this ring is running: its job number (R89) -/
  blocked : Option Nat := none
  /-- doorbells rung before TRAIN, held in order (R112) -/
  heldBells : List (BitVec 16) := []
  deriving DecidableEq, Repr

/-- An event subscriber (R96, R101): fields 2 to 19 of 0x0102 from field 1 on, its sequence number,
loss count and the events queued for a UDP kind, each with the port it leaves on (32 the management
port), oldest first. -/
structure Sub where
  f     : Fields
  seq   : Word := 0
  lost  : Nat := 0
  queue : List (Nat × Event) := []
  deriving DecidableEq, Repr

/-- A kept record of R84. -/
structure Kept where
  src   : Endpoint
  tag   : Word
  crc   : Word
  tick  : Nat
  reply : Option Reply
  deriving DecidableEq, Repr

/-- A background command (R89): opcode, packet, clamped fields. -/
structure Job where
  id : Nat
  opcode : Nat
  cmd : Cmd
  f : Fields
  clamps : List Clamp := []
  deriving DecidableEq, Repr

/-- An accepted framed command that has not taken effect (R76): opcode, packet, clamped fields, its
effect boundary, the instant of that boundary in ns at acceptance, and the commands that it was
accepted only because of (R489). -/
structure Pend where
  id     : Nat
  opcode : Nat
  cmd    : Cmd
  f      : Fields
  tb     : Nat
  frame  : Nat
  at'    : Int
  relied : List Nat
  deriving DecidableEq, Repr

/-- A startup log entry (R105). -/
structure LogEntry where
  pos    : Nat
  opcode : Nat
  tag    : Word
  status : Status
  clamps : Nat
  frame  : Word
  deriving DecidableEq, Repr

/-- The PCIe event queue (R495). -/
structure Evq where
  baseLo : Word := 0
  baseHi : Word := 0
  enable : Bool := false
  sizeLog2 : Nat := 0
  head : Nat := 0
  tail : Nat := 0
  deriving DecidableEq, Repr

/-- The command processor. -/
structure CmdP where
  rings : Tab Ring := []
  evq   : Evq := {}
  /-- event subscribers 0 to 15 (R101) -/
  subs  : Tab (Option Sub) := []
  /-- in-band allow-list entries: fields 2 to 8 of 0x0103 from field 1 on (R102) -/
  allow : Tab (Option Fields) := []
  /-- kept records, newest first (R84) -/
  kept  : List Kept := []
  /-- datagrams in reassembly: source and identification (R83) -/
  reasm : List (Endpoint × Nat) := []
  jobs  : List Job := []
  /-- pending commands in acceptance order (R76) -/
  pend  : List Pend := []
  /-- number given to the next pending command or job -/
  nextId : Nat := 0
  /-- startup log of the most recent run (R105, R117) -/
  log   : List LogEntry := []
  /-- store position at which the store is paused (R118) -/
  paused : Option Nat := none
  /-- the contexts closed at the boundary that commands last took effect at, with its local instant (R220) -/
  closed : List (Nat × Int) := []
  deriving DecidableEq, Repr

/-! ## Belfry (spec/05) -/

/-- The local clock (R130). -/
structure Clock where
  sec  : BitVec 48 := 0
  ns   : BitVec 32 := 0
  frac : BitVec 32 := 0
  deriving DecidableEq, Repr

/-- A timebase (R151 to R154, R158): rate and format selectors, frame-count offset, the correction c
in units of 2^-32 ns / 10,000, the latched high word of the frame count, the raster count of the last
boundary reached, and the extra ns of the last re-phase (R159). -/
structure Timebase where
  rate   : Nat
  format : Nat
  offset : Int := 0
  corr   : Int := 0
  last   : Option Nat := none
  stretch : Nat := 0
  deriving DecidableEq, Repr

/-- A raster event unit (R155): who holds it, the values of fields 2 to 11 (field 2 first), the
targets the firmware shares it among, and the last frame it fired for. -/
structure EvUnit where
  holder  : Holder := .free
  f       : Fields := []
  targets : List Nat := []
  fired   : Option Int := none
  deriving DecidableEq, Repr

/-- A timestamp queue (R149, R150): entries as (identifier, seconds, nanoseconds), oldest first. -/
structure Tsq where
  entries : List (Nat × Nat × Nat) := []
  lo      : Word := 0
  full    : Bool := false
  deriving DecidableEq, Repr

/-- A foreign master (R135): its newest Announce, the ticks of that one and the one before, and the last
synchronization metadata TLV that it sent (R511). -/
structure Foreign where
  a    : Announce
  tick : Nat
  prev : Option Nat := none
  tlv  : Option Tlv := none
  deriving DecidableEq, Repr

/-- A refusal in force (R142): its bound in ns, whether row 12 made it, the offsets measured since,
and the mean reported as persistent. -/
structure PtpRefusal where
  bound   : Int
  row12   : Bool
  gm      : Nat
  offs    : List Int := []
  reported : Option Int := none
  deriving DecidableEq, Repr

/-- The PTP servo and the time core (R135 to R147). -/
structure Ptp where
  servo : Servo := .unset
  /-- fields 1 to 10 of 0x0201 in force (R146) -/
  f : Fields := [0, 127, 0, 0, 3, 10000, 0, 0, 1, 0]
  /-- stored fields that wait for the next Sync interval (R146) -/
  stored : Option Fields := none
  /-- foreign masters on the PTP port (R135) -/
  masters : List Foreign := []
  /-- the grandmaster chosen by best master selection -/
  best : Option Nat := none
  /-- the grandmaster last tracked (R139) -/
  tracked : Option Nat := none
  /-- the grandmaster being qualified in REQUALIFY -/
  qualifying : Option Nat := none
  /-- offsets of the last Sync measurements, newest first (R139 counts at most 16) -/
  offs : List Int := []
  /-- filtered offsets of the last Sync measurements, newest first -/
  filts : List Int := []
  /-- the servo's filtered offset in ns (R139) -/
  filtered : Int := 0
  /-- Sync intervals spent in REQUALIFY -/
  intervals : Nat := 0
  refusal : Option PtpRefusal := none
  /-- mean path delay in ns (R511), and the time in 0.1 ns by which the last Sync arrived later, at the pins, than it
  was sent (R134) -/
  delay : Nat := 0
  lag : Int := 0
  /-- Delay_Req exchanges completed on the path in use, up to 4 (R137) -/
  exchanges : Nat := 4
  /-- the path of the PTP port when offsets were last used (R137) -/
  path : Nat := 0
  /-- a Delay_Req waits for its Delay_Resp -/
  asked : Bool := false
  /-- the last 64 s spent in LOCKED, newest first: ticks at an increment, and whether FREQ10M_IN agreed
  with it (R141) -/
  lockSegs : List (Nat × Nat × Bool) := []
  /-- the tick up to which that time is recorded -/
  segTick : Nat := 0
  /-- tick of the last accepted Sync (R139) -/
  lastSync : Nat := 0
  /-- holdover follows FREQ10M_IN (R141, R147) -/
  freqUsed : Bool := false
  /-- the last TLV received from the grandmaster in use (R511) -/
  tlv : Option Tlv := none
  /-- currentUtcOffset and leap flags of its Announce messages (R135, R511) -/
  utcOffset : Int := 0
  leap61 : Bool := false
  leap59 : Bool := false
  utcValid : Bool := false
  deriving DecidableEq, Repr

/-- Belfry. -/
structure Belfry where
  clock : Clock := {}
  /-- the clock's value was set by a step and not counted to (R46) -/
  stepped : Bool := false
  /-- the increment (R131): reset 0x019999999A -/
  incr : BitVec 40 := 0x019999999A
  snapSec : BitVec 48 := 0
  snapNs  : BitVec 32 := 0
  ppsPhase  : Int := 0
  frefPhase : Int := 0
  ptp : Ptp := {}
  tsqA : Tsq := {}
  tsqB : Tsq := {}
  tbs  : Tab (Option Timebase) := []
  /-- latched high words of the frame counts (R154) -/
  fcHi : Tab Word := []
  units : Tab EvUnit := []
  lastMiss : Nat := 0
  deriving DecidableEq, Repr

/-! ## Contexts, pool and rate control (spec/07, spec/09, spec/10) -/

/-- A pool buffer (R209 to R211, R290): mark, generation, holders, when it became UNUSED, the frame
(or show slot) and POC of its picture, and the decode flags of R303. -/
structure Buf where
  mark   : Mark := .unused
  gen    : Nat := 0
  holders : Nat := 0
  since  : Nat := 0
  frame  : Nat := 0
  poc    : Int := 0
  /-- the CTU rows of an abandoned picture that were never reconstructed (R289) -/
  holes  : List Nat := []
  await  : Bool := false
  shown  : Bool := false
  bumpAtRelease : Bool := false    -- a rebuild or flush waits for the last holder (R201, R301)
  /-- the reconstruction in 40-bit words (R198, R224, R225), once its last row is final -/
  recon  : List (BitVec 40) := []
  /-- the compression descriptors, a byte a group, and the bytes that the groups take (R221) -/
  desc   : List Byte := []
  stored : Nat := 0
  /-- lines of the two luma pyramids of the picture's source (R225, R328) -/
  quarter : List (List Nat) := []
  sixteenth : List (List Nat) := []
  /-- in a GDR cycle: the frame that began it, and the CTU columns refreshed since (R206) -/
  fresh  : Option (Nat × Nat) := none
  deriving DecidableEq, Repr

/-- A named reference (R212, R214): buffer, generation, the frame of its picture, and how it was
found at bind: 0 valid, 1 corrupt, 2 stale, 3 missing; with the generation and mark found. `cause` is the
cause byte of R219 of what has befallen it since it was named (0 nothing), and the one reported at last. -/
structure RefName where
  buf   : Nat
  gen   : Nat
  frame : Nat
  poc   : Int := 0
  found : Nat := 0
  foundGen : Nat := 0
  foundMark : Mark := .unused
  cause : Nat := 0
  dropped : Bool := false
  deriving DecidableEq, Repr

/-- A decode access unit in the input buffer (R286, R287). -/
structure AccUnit where
  head  : UnitHead
  slot  : Nat
  task  : Bool := false       -- its BIND task has been created
  /-- how it ended, before its task was created (R288) -/
  ended : Option UnitEnd := none
  fin   : Option UnitEnd := none
  deriving DecidableEq, Repr

/-- A membership of a statistical multiplex group (R263): group, weight, minimum, maximum, and the
last allocation A in bits (R264). -/
structure Member where
  group  : Nat
  weight : Nat
  min    : Nat
  max    : Nat
  lastA  : Nat := 0
  deriving DecidableEq, Repr

/-- The rate parameters a frame runs by (R190, R246, R263): peak and target in kb/s, CPB in ms, CBR. -/
structure RateSet where
  peak   : Nat
  target : Nat
  cpb    : Nat
  cbr    : Bool
  deriving DecidableEq, Repr

/-- A model that still runs beside the new one because the stream carries its parameters (R251): its buffer in
bits times the rate's numerator, and the frame of the IRAP that ends it, once that has opened. -/
structure OldModel where
  set   : RateSet
  x     : Nat
  until' : Option Nat := none
  deriving DecidableEq, Repr

/-- A picture that closed while an earlier one of its context was open (R249): its frame, bits and filler, and
the peak it drained by. -/
structure LateClose where
  frame : Nat
  bits  : Nat
  fill  : Nat
  peak  : Nat
  deriving DecidableEq, Repr

/-- Rate control of an encode context (R246 to R256, R280). -/
structure Rate where
  /-- fields 1 to 3 of 0x0520 -/
  f : Fields := [1000, 1000, 100]
  /-- fields 1 to 6 of 0x0521 -/
  h : Fields := [400, 1, 1, -12, 51, 0]
  /-- the models whose parameters are still signalled, oldest first, and the first frame whose IRAP signals the
  newest parameters (R251) -/
  olds : List OldModel := []
  oldFrom : Nat := 0
  /-- X after the last picture that is closed with every one before it, in bits times the rate's numerator, and
  the pictures that closed ahead of one still open -/
  x : Nat := 0
  late : List LateClose := []
  lastF : Nat := 0
  lastT : Nat := 0
  lastB : Nat := 0
  /-- X of the picture closed last, in bits -/
  lastX : Nat := 0
  /-- alpha and beta of the non-IRAP and IRAP models, IEEE 754 single (R280): (3.2003, -1.367) -/
  alpha  : Word := 0x404CD1B7
  beta   : Word := 0xBFAEF9DB
  alphaI : Word := 0x404CD1B7
  betaI  : Word := 0xBFAEF9DB
  /-- row weights of the last coded picture of each kind, in units of `weightUnit` (R256) -/
  weights  : List Nat := []
  weightsI : List Nat := []
  /-- bits of the last 8 pictures, newest first, and of the last IRAP with the mean before it -/
  recent : List Nat := []
  lastIrapBits : Nat := 0
  meanBefore : Nat := 0
  irapsCoded : Nat := 0
  /-- sum of bits times 2^((QP-4)/6) of the latest closed picture for R264, in units of `weightUnit` -/
  complexity : Nat := 0
  floorPics : Nat := 0
  captionsDropped : Nat := 0
  deriving DecidableEq, Repr

/-- A context (R192 to R223, R283 to R303). -/
structure Ctx where
  st : CtxState := .closed
  decode : Bool := false
  /-- fields 1 to 16 of 0x0501, or 1 to 14 of 0x0540 -/
  f : Fields := []
  /-- priority and guard (R187) -/
  sched : Fields := [8, 150]
  rate : Rate := {}
  member : Option Member := none
  pool : List Buf := []
  /-- kept buffers, newest first (R204, R212) -/
  kept : List Nat := []
  /-- frame from which a rebuild takes effect, if one is due (R201) -/
  irapDue : Bool := false
  /-- first frame not yet coded since the open or rebuild -/
  first : Bool := true
  lastIrap : Nat := 0
  picsSince : Nat := 0
  framesSince : Nat := 0
  /-- position in the GDR cycle (R206) -/
  gdr : Nat := 0
  /-- refresh fields 11 and 12 that take effect at the next refresh point (R200) -/
  refreshNext : Option (Int × Int) := none
  /-- the frame last opened, and the frames of this context since its open -/
  lastOpen : Option Nat := none
  /-- counts of R223 words 3 to 7 -/
  irapCount : Nat := 0
  missing : Nat := 0
  stale : Nat := 0
  corrupt : Nat := 0
  concealed : Nat := 0
  /-- stored and raw bytes of the reconstructions of the last 64 frames, newest first (R223 word 8) -/
  stored : List (Nat × Nat) := []
  /-- frames closed at levels E0 to E5, urgent binds, decode skips, last gang, last bind time,
  substitutes (R189) -/
  levels : List Nat := [0, 0, 0, 0, 0, 0]
  urgents : Nat := 0
  skips : Nat := 0
  lastGang : Nat := 0
  lastBind : Word := 0
  substitutes : Nat := 0
  /-- the ALF sets that are ready, with the frame they were fitted from (R237), and whether they have been sent
  in an APS since the last IRAP -/
  alf : Option (Nat × List Int) := none
  alfSent : Bool := false
  /-- the statistics of frames whose last segment has finished and whose fit has not: distortion, bits and tokens of
  each CTU coded at E0 to E3 (R237) -/
  fits : List (Nat × List (Nat × Nat × List Word)) := []
  /-- RTP sequence number of the next packet (R277) -/
  rtpSeq : Nat := 0
  /-- the picture at the head of the decode chain: units in the input buffer (R286, R287) -/
  units : List AccUnit := []
  /-- slots that have held a unit (duplicates, R287) -/
  slots : List (Nat × Bool) := []
  concealing : Bool := false
  synced : Bool := false
  concealSlot : Nat := 0
  /-- frames left until the recovery point that ends CONCEALING (R298, R300) -/
  recovery : Option Nat := none
  /-- the buffers the Cupola layer shows, a field pair as two (R290, R297) -/
  showing : List Nat := []
  /-- the pictures that closed with no incomplete row, as buffer and generation, newest first (R291) -/
  whole : List (Nat × Nat) := []
  /-- words 4 to 16 of R303 -/
  counts : List Nat := List.replicate 13 0
  deriving DecidableEq, Repr

/-- A statistical multiplex group (R262, R264): fields 2 to 5 from field 1 on, Xg, Fg, Tg, and the
frames whose allocation was not ready in time. -/
structure Group where
  f  : Fields
  xg : Nat := 0
  fg : Nat := 0
  tg : Nat := 0
  late : Nat := 0
  deriving DecidableEq, Repr

/-! ## Campanile, Spires and Domes (spec/06, spec/08, spec/09) -/

/-- The row budget record of R234 with the row limit Q of R256. -/
structure Budget where
  row    : Nat
  qp     : Int
  lambda : Nat
  cap    : Nat
  aq     : Bool
  floor  : Bool
  q      : Nat
  /-- lambda as R256 computes it -/
  lam    : Word := 0
  actual : Nat := 0
  deriving DecidableEq, Repr

/-- A task of R161 (its slot counts follow from the progress record, R162). -/
structure Task where
  kind  : TaskKind
  ctx   : Nat
  frame : Nat
  bottom : Bool
  row   : Nat
  seg   : Nat
  /-- the tick at which it became ready (R165) -/
  tick  : Nat := 0
  deriving DecidableEq, Repr

/-- A CTU as coded (R228, R236, R265): its row and column in the frame, QP, level, what stage 10 passes to rate
control, its variance a as a fraction (R234), its vectors and the CUs on its bottom edge, its SAO and ALF
parameters, and its bottom luma and chroma lines before and after deblocking, all for the row below. -/
structure CtuRec where
  row      : Nat
  col      : Nat
  qp       : Int
  level    : Nat
  floor    : Bool
  intra    : Bool
  recoded  : Bool               -- R235, R257
  bins     : Nat
  bits     : Nat
  dist     : Nat                -- luma SAD or SATD of its prediction
  actNum   : Nat
  actDen   : Nat
  mvs      : List (Nat × Mv)
  edge     : List Cu
  sao      : Nat
  alf      : Bool
  tokens   : List Word
  before   : List (List Nat)
  after    : List (List Nat)
  deriving DecidableEq, Repr

/-- A picture of a frame: one, or the two fields of an encode frame on an interlaced timebase (R207). -/
structure Pic where
  refs : List RefName := []
  buf  : Nat := 255
  poc  : Nat := 0
  irap : Bool := false
  /-- frame of the GDR cycle, counted from 0, with the cycle's first frame (R206) -/
  gdr  : Option (Nat × Nat) := none
  notKept : Bool := false
  /-- composed source CTU rows and lines, Y, Cb and Cr (R162, R225) -/
  srcRows : Nat := 0
  src : List (List Nat × List Nat × List Nat) := []
  /-- reconstructed rows (R229) -/
  recRows : Nat := 0
  bands  : Nat := 0
  allow  : Nat := 0                     -- on-demand allowance, bytes (R239)
  fetchLeft : Nat := 0                  -- what the fetch cap still lets it read (R241)
  /-- reference CTUs marked invalid in the cache: buffer and CTU address (R242) -/
  inval  : List (Nat × Nat) := []
  lostSegs : Nat := 0
  intraSegs : Nat := 0
  /-- the ALF sets it uses, with the frame they were fitted from, and whether its APS carries them (R237) -/
  alf : Option (Nat × List Int) := none
  aps : Bool := false
  deriving DecidableEq, Repr

/-- A frame with a BIND task: its progress record (R162) and everything its tasks, its ladder
(R171 to R186), its budgets (R249 to R260) and its staging (R266) need until its CLOSE. -/
structure FrameRec where
  ctx    : Nat
  frame  : Nat
  bottom : Bool                         -- a decode frame of a bottom field (R287)
  decode : Bool
  irap   : Bool := false
  gdrStart : Bool := false
  pics   : List Pic := [{}]
  /-- the first frame of the context since its open or rebuild (R184) -/
  opening : Bool := false
  released : Bool := false
  bound  : Bool := false
  /-- the context's fields, rate controls, rate parameters and scheduling fields in force when it was released
  (R190) -/
  cf     : Fields := []
  ch     : Fields := []
  rk     : Option RateSet := none
  sched  : Fields := [8, 150]
  /-- the output space, and the values of 0x0630, of the composition when it opened (R272, R273) -/
  space  : Nat := 0
  light  : Fields := []
  urgent : Bool := false
  /-- completed segments, as (row, segment) -/
  done   : List (Nat × Nat) := []
  /-- segments coded by a Dome, or parsed -/
  coded  : List (Nat × Nat) := []
  k      : Nat := 0
  members : List Nat := []
  level  : Nat := 0
  causes : Nat := 0
  shed   : Nat := 0
  /-- (actual, projected) ns of the last 16 completed segments (R179) -/
  ratios : List (Nat × Nat) := []
  sigmaMax : Nat := 256
  tS     : Int := 0
  launch : Option Int := none           -- L as a raster time in ns (R155, R177)
  budgets : List Budget := []
  hdr    : Nat := 2048                  -- H[n]
  fBits  : Nat := 0
  tBits  : Nat := 0
  /-- a statmux member's allocation A[i], bound Fg A / Tg, and group (R264) -/
  alloc  : Option (Nat × Nat × Nat) := none
  bits   : Nat := 0
  floorRow : Option Nat := none
  floorRows : Nat := 0
  /-- the CTUs coded so far, newest first -/
  ctus   : List CtuRec := []
  /-- CTUs whose source words, and whose source pyramids, failed (R218) -/
  srcBad : List Nat := []
  pyrBad : List Nat := []
  domes  : List Nat := []
  reserve : Nat := 0                    -- staging bytes still reserved
  staged : Nat := 0                     -- staging bytes in use
  /-- records staged and not yet coded: row, segment, bytes, bins (R265) -/
  recs   : List (Nat × Nat × Nat × Nat) := []
  pendBins : Nat := 0                   -- bins staged and not yet coded
  incomplete : Bool := false
  substitute : Bool := false
  /-- the substitute picture's buffer that a decode frame holds from bind (R291) -/
  subBuf : Option Nat := none
  unshown : Bool := false               -- bound before a flush (R301)
  unitEnd : Option UnitEnd := none
  deriving DecidableEq, Repr

/-- A segment in a Spire: its frame, row, segment, the level it runs at and its projected ns; the tick of its
dispatch, and the cycles since, 10,000 to one, up to the tick `mark`, with those of staging waits among them. -/
structure Run where
  ctx   : Nat
  frame : Nat
  bottom : Bool
  row   : Nat
  seg   : Nat
  level : Nat
  ns    : Nat
  ctus  : Nat
  decode : Bool
  floor : Bool
  start : Nat := 0
  mark  : Nat := 0
  cycles : Nat := 0
  stall : Nat := 0
  deriving DecidableEq, Repr

/-- A segment whose stage 10 waits for staging space (R266): the CTUs not yet staged, and its memory waits. -/
structure SegWait where
  left    : List CtuRec
  memwait : Nat
  deriving DecidableEq, Repr

/-- A Spire (R172, R245). -/
structure Spire where
  powered : Bool := false
  /-- to be powered down once its frame finishes (R20) -/
  leaving : Bool := false
  bound   : Option (Nat × Nat × Bool) := none
  member  : Nat := 0
  lastCtx : Option Nat := none
  run     : Option Run := none
  waiting : Option SegWait := none
  /-- its DRAM port is forced to urgency 3 (R178, R414) -/
  forced  : Bool := false
  /-- on-demand allowance left to this member in bytes: the shares of the segments it has begun, less what
  they spent (R240) -/
  allow   : Nat := 0
  deriving DecidableEq, Repr

/-- A Dome (R175, R281). -/
structure Dome where
  bound : Option (Nat × Nat × Bool) := none
  df    : Nat := 0
  /-- the row it codes whole, and the segment in it now -/
  row   : Option Nat := none
  run   : Option (Nat × Nat) := none
  deriving DecidableEq, Repr

/-- Campanile with the Spires and Domes. -/
structure Camp where
  /-- binding budget B in microseconds and spill region in MiB (R188) -/
  f : Fields := [2000, 64]
  matching : List Task := []
  /-- ready tasks, in the order in which they became ready (R165) -/
  ready : List Task := []
  pendSpill : List Task := []
  readySpill : List Task := []
  frames : List FrameRec := []
  spires : Tab Spire := []
  domes  : Tab Dome := []
  deriving DecidableEq, Repr

/-! ## Cupola and Lantern (spec/11) -/

/-- A video layer (R313, R315, R316): fields 2 to 19 from field 1 on, and its run-time state. -/
structure VLayer where
  f : Fields
  selected : Option Nat := none     -- source frame last selected
  line : Option Nat := none         -- a direct source's newest line inside its window
  lineFrame : Nat := 0              -- the composed frame that line was for
  run : Nat := 0                    -- late frames in the current run
  state : Nat := 0                  -- 0 live, 1 late, 2 fallback (R342)
  missed : Option Nat := none       -- the first composed line of this frame whose direct line was out of its window
  deriving DecidableEq, Repr

/-- A graphic layer (R321): fields 2 to 9 from field 1 on, and its effect boundary N. -/
structure GLayer where
  f : Fields
  start : Nat
  deriving DecidableEq, Repr

/-- A Lantern item (R331): fields 2 to 10 from field 1 on, and its effect boundary N. -/
structure LItem where
  f : Fields
  start : Nat
  deriving DecidableEq, Repr

/-- The lines of a CTU row of a composition, Y, Cb and Cr, with the pyramid lines that cover it and its lines of the
proxy's three planes (R327, R337). -/
structure LineRow where
  ys : List (List Nat)
  cbs : List (List Nat)
  crs : List (List Nat)
  quarter : List (List Nat)
  sixteenth : List (List Nat)
  proxy : List (List (List Nat))
  deriving DecidableEq, Repr

/-- A delay-line slot (R337, R338): its input frame, the CTU rows written so far, and its ancillary packets (R358). -/
structure LineSlot where
  frame : Nat
  rows : List LineRow := []
  anc : List AncPkt := []
  deriving DecidableEq, Repr

/-- A composed frame as outputs send it (R358): the input frame that it shows, none where it goes out as the fill
colour, and its ancillary packets. -/
structure OutFrame where
  frame : Nat
  input : Option Nat
  anc : List AncPkt
  deriving DecidableEq, Repr

/-- A composition (R304 to R309, R337 to R342). -/
structure Comp where
  /-- fields 1 to 7 of 0x0601 -/
  f : Fields
  /-- output space in force; field 3 may wait for an IRAP (R309) -/
  space : Nat := 0
  layers : Tab (Option VLayer) := []
  graphics : Tab (Option GLayer) := []
  items : Tab (Option LItem) := []
  mastering : Fields := List.replicate 12 0
  /-- delay-line slots in the order of writing, newest first (R338) -/
  slots : List LineSlot := []
  /-- frames still to repeat or fill after a longer line (R339) -/
  holdOut : Nat := 0
  /-- the composed frame in progress, its rows written, and the last row that went out (R306) -/
  cur : Option Nat := none
  rows : Nat := 0
  last : Option LineRow := none
  /-- the newest composed frames, newest first, as its SDI, audio and ancillary outputs read them (R340, R358) -/
  outs : List OutFrame := []
  deriving DecidableEq, Repr

/-- A buffered source (R311): the format and rate of its newest complete frame, a count of its
complete frames, the tick of the newest, its RTP timestamp, and its ancillary packets from SDI (R357, R378). -/
structure Source where
  format : Nat
  rate   : Nat
  count  : Nat
  at'    : Nat
  stamp  : Option Nat := none
  anc    : List AncPkt := []
  deriving DecidableEq, Repr

/-- An asset (R319, R320). -/
structure Asset where
  kind  : Nat
  width : Nat
  height : Nat
  frames : Nat
  crc   : Word
  addr  : Nat
  size  : Nat
  committed : Bool := false
  deriving DecidableEq, Repr

/-- A Lantern image (R330): two copies, a byte that nothing has written reading 0 (log entry 6), the
CRC-32C stored with each tile of each copy, and the tiles of each copy that hold an uncorrectable burst
(R432). -/
structure LImage where
  width : Nat
  height : Nat
  crc : Word
  a : Tab Byte := []
  b : Tab Byte := []
  crcA : List Word := []
  crcB : List Word := []
  badA : List Nat := []
  badB : List Nat := []
  committed : Bool := false
  damaged : Bool := false
  deriving DecidableEq, Repr

/-- Cupola. -/
structure Cupola where
  comps  : Tab (Option Comp) := []
  assets : Tab (Option Asset) := []
  images : Tab (Option LImage) := []
  sources : Tab (Option Source) := []
  deriving DecidableEq, Repr

/-! ## Lanes and ports (spec/12) -/

/-- A lane, 0 to 15 network and 16 to 31 media (R350, R361, R365, R370). -/
structure Lane where
  /-- fields 2 to 7 of 0x0303, media lanes only: mode, class, composition, offset, FEC, force -/
  media : Fields := [0, 4, 0, 0, 1, 0]
  signal : Bool := false
  cdr : Bool := false
  block : Bool := false
  am : Bool := false
  pll : Bool := false
  tx : Bool := false
  train : Nat := 0
  preTx : Bool := false
  preRx : Bool := false
  pcs : Nat := 0
  skew : Nat := 0
  /-- taps and swing in use: c(-1), c(0), c(1), mV -/
  taps : Fields := [-4, 52, -8, 800]
  /-- taps stored for the next training (R350) -/
  stored : Option Fields := none
  polTx : Bool := false
  polRx : Bool := false
  /-- PRBS pattern and direction, loopback (R365) -/
  prbs : Nat := 0
  prbsDir : Nat := 0
  loop : Nat := 0
  /-- SDI: TRS lock, detected format and rate, quad link number less 1 (R355, R356) -/
  trs : Bool := false
  format : Nat := 0xF
  rate : Nat := 0
  link : Nat := 0
  /-- a frame is whole so far: TRS lock held throughout (R355) -/
  whole : Bool := false
  /-- an SDI output's last frame sent -/
  sent : Option Nat := none
  deriving DecidableEq, Repr

/-- A port, keyed by its first lane (R351, R353). -/
structure Port where
  phase : Phase := .off
  deskewFail : Bool := false
  deriving DecidableEq, Repr

/-- The lanes. -/
structure Lanes where
  /-- selected reference: 0 TCXO, 1 LANE_REFCLK; the reference in use (R345) -/
  source : Nat := 0
  refclk : Bool := false
  refLost : Bool := false
  /-- fields 2 to 7 of 0x0302 for Turret A and B -/
  layoutA : Fields := [0, 1, 1, 1, 2, 2]
  layoutB : Fields := [0, 1, 1, 1, 2, 2]
  lanes : Tab Lane := []
  ports : Tab Port := []
  /-- tiles closing under R451, each with the tick since when and the lane command that waits -/
  closing : List (Nat × Nat × Job) := []
  deriving DecidableEq, Repr

/-! ## Flows and Turrets (spec/13) -/

/-- A privileged policer (R376): rate in kb/s, burst in bytes, bucket in units of 1/5,000,000 byte (a tick at
1 kb/s brings one), tick of the last refill. -/
structure Police where
  rate  : Nat
  burst : Nat
  bucket : Nat
  tick  : Nat := 0
  deriving DecidableEq, Repr

/-- A two-rate policer (R383): buckets C and P in units of 1/5,000,000 byte, tick of the last refill. -/
structure TwoRate where
  tc : Nat
  tp : Nat
  tick : Nat
  deriving DecidableEq, Repr

/-- An ST 2110-20 frame in reception (R379): its RTP timestamp, the sequence numbers accepted, the number of
its marker packet with the tick of that one's first copy, and whether it is complete. -/
structure RxVideo where
  stamp  : Nat
  seqs   : List Nat
  marker : Option (Nat × Nat)
  complete : Bool := false
  deriving DecidableEq, Repr

/-- What an ordered packet delivers (R381): its extended sequence number, its RTP timestamp, and its audio samples or
ancillary packets. -/
structure RxLoad where
  seq   : Nat
  stamp : Nat
  audio : List (List Nat)
  anc   : List AncPkt
  deriving DecidableEq, Repr

/-- An ingress flow (R377, R381, R402): fields 2 to 33 from field 1 on. -/
structure IFlow where
  f : Fields
  polA : TwoRate
  polB : TwoRate
  started : Bool := false
  released : Nat := 0
  top : Nat := 0
  /-- held sequence numbers, each with the tick it arrived (R381) -/
  held : List (Nat × Nat) := []
  /-- what the packets not yet delivered hold -/
  loads : List RxLoad := []
  /-- the audio ring, newest first: media-clock times modulo 2^32, each with a sample of every channel (R380) -/
  ring : List (Nat × List Nat) := []
  /-- type 5: the newest timestamps, newest first, each with its ancillary packets (R378) -/
  ancs : List (Nat × List AncPkt) := []
  /-- type 0: the newest frames, oldest first (R379) -/
  video : List RxVideo := []
  /-- words 0 to 12 of R402 -/
  counts : List Nat := List.replicate 13 0
  /-- ports on which its packets have arrived (R396) -/
  ports : List Nat := []
  /-- ticks of the last packet on path A and B (R396) -/
  lastA : Option Nat := none
  lastB : Option Nat := none
  /-- audio binding: composition, trim, order (R380) -/
  bind : Option (Nat × Nat × Nat) := none
  deriving DecidableEq, Repr

/-- The HRD parameters that a stream carries (R251): bit rate in kb/s, CPB size in bits, and its flags; the
initial CPB removal delay in 90 kHz units. -/
structure Hrd where
  bitRate  : Nat
  cpbSize  : Nat
  cbr      : Bool
  lowDelay : Bool := false
  initial  : Nat
  dpbDelay : Nat := 0
  deriving DecidableEq, Repr

/-- The coding tools of R203 that a stream can use. -/
inductive Feature where
  | quadtree | binaryTernary | intra35 | intra67 | mrl | cclm | merge | amvp | tmvp | mmvd | amvr | bcw
  | dctDst32 | dct64 | implicitMts | lfnst | transformSkip4 | jccr | scalingLists | signHiding | dependentQuant
  | deblock | sao | alf | lmcs | wavefront | longTerm | fieldPictures
  deriving DecidableEq, Repr

/-- What a sequence parameter set says (R195, R203, R204, R251, R272). -/
structure Sps where
  codec   : Nat
  profile : Nat
  tier    : Nat
  level   : Nat
  chroma  : Nat
  depth   : Nat
  width   : Nat
  height  : Nat
  fieldSeq : Bool
  /-- colour_primaries, transfer_characteristics, matrix_coeffs, and video_full_range_flag 0 -/
  colour  : Nat × Nat × Nat
  fullRange : Bool := false
  /-- decoded picture buffer size, reordered pictures, latency increase (R204) -/
  dpb     : Nat
  reorder : Nat := 0
  latency : Nat := 0
  features : List Feature
  hrd     : Option Hrd
  deriving DecidableEq, Repr

/-- SEI messages (R271, R273). -/
inductive Sei where
  /-- buffering period: initial CPB removal delay -/
  | buffering (initial : Nat)
  /-- picture timing: CPB removal delay, which rises by 1 a picture, and DPB output delay -/
  | timing (removal dpbDelay : Nat)
  | recovery (count : Nat)
  /-- ST 2086 values in the order of 0x0630 -/
  | mastering (l : Fields)
  | light (cll fall : Int)
  /-- hours, minutes, seconds, n_frames, drop-frame counting, field 1 -/
  | timeCode (h m s n : Nat) (drop field : Bool)
  | captions (l : List (BitVec 24))
  /-- decoded picture hash, CRC -/
  | hash
  deriving DecidableEq, Repr

/-- What a coded slice says of its picture (R184, R204, R206, R237, R271). -/
structure Slice where
  poc    : Nat
  /-- POC counts of list 0 and list 1 -/
  list0  : List Nat
  list1  : List Nat
  /-- wavefront entry points, one to each CTU row -/
  entries : Nat
  /-- ph_non_ref_pic_flag -/
  nonRef : Bool
  tmvp   : Bool
  saoOn  : Bool
  alfSet : Option Nat
  /-- recovery count of a GDR picture, and the right edge of its refreshed columns in luma samples -/
  gdr    : Option Nat
  boundary : Option Nat
  /-- QP and tokens of its CTUs in raster order, the fill colour of a fill picture, or a repeat -/
  ctus   : List (Int × List Word)
  fill   : Option (Nat × Nat × Nat)
  skip   : Bool
  deriving DecidableEq, Repr

/-- What a NAL unit carries (R271). -/
inductive NalBody where
  | delimiter
  | vps (x : Sps)
  | sps (x : Sps)
  | pps (x : Sps)
  | aps (frame : Nat) (sets : List Int)
  | sei (l : List Sei)
  | slice (x : Slice)
  | filler (bytes : Nat)
  deriving DecidableEq, Repr

/-- A NAL unit: its type in its codec, and what it carries. -/
structure Nal where
  type : Nat
  body : NalBody
  deriving DecidableEq, Repr

/-- A frame or access unit handed to the egress engine (R269, R279, R388): its source context, its frame, bottom
field, launch time as raster ns, the lengths of its packets once the first has left and the number of the next one,
bytes, RTP timestamp; the flow's fields at its frame-start launch (R374); and how the window check of R148 found it: 0
inside, 1 passed, 2 beyond. -/
structure EgUnit where
  ctx    : Nat := 0
  frame  : Nat
  bottom : Bool
  launch : Int
  lens   : List Nat := []
  next   : Nat := 0
  bytes  : Nat
  stamp  : Nat
  /-- the NAL units of an access unit (R271), and its PTS (R278) -/
  nals   : List Nal := []
  pts    : Nat := 0
  /-- its context's peak rate in kb/s, and the bytes of a pair's bottom field, with which its top field shares the slot
  (R279) -/
  peak   : Nat := 0
  rest   : Nat := 0
  /-- the raster ns from which its packets are paced, once the first has left -/
  began  : Int := 0
  f      : Fields := []
  window : Nat := 0
  /-- packets whose bytes failed in the output pool, which are not sent (R432) -/
  failed : List Nat := []
  deriving DecidableEq, Repr

/-- An egress flow (R385, R402): fields 2 to 26 from field 1 on. -/
structure EFlow where
  f : Fields
  units : List EgUnit := []
  /-- RTP sequence number of the next packet, once the first has been sent (R277) -/
  seq : Nat := 0
  started : Bool := false
  /-- last frame or audio packet begun, for the types that no access unit drives (R388) -/
  lastSent : Option Nat := none
  counts : List Nat := List.replicate 6 0
  /-- packets launched at once since the last LAUNCH_WINDOW event, and that event's tick (R391) -/
  window : Nat := 0
  lastEvent : Option Nat := none
  /-- the raster ns at which the pace of the last unit ended (R279) -/
  freeAt : Int := 0
  /-- type 2: the tick of the last datagram, and of the last PAT and PMT (R278) -/
  lastTs : Option Nat := none
  lastPat : Option Nat := none
  deriving DecidableEq, Repr

/-- The audio of a bound flow that goes with an access unit (R278): the flow's order in its composition, its PTS, and
its sample times of up to 8 channels. -/
structure TsAudio where
  order   : Nat
  pts     : Nat
  samples : List (List Nat)
  deriving DecidableEq, Repr

/-- What a packet of an egress flow carries (R276, R278, R388). -/
inductive Load where
  /-- packet `j` of a coded access unit's NAL units -/
  | coded (nals : List Nal) (j : Nat)
  /-- datagram `j` of the PES of an access unit: the PCR, the programs of the PAT and PMT that it carries, if any, the
  PTS, and the audio that goes with the unit -/
  | ts (pcr : Nat) (tables : List Nat) (program pts : Nat) (nals : List Nal) (audio : List TsAudio) (j : Nat)
  /-- a datagram of null packets -/
  | nulls (pcr : Nat) (tables : List Nat)
  /-- packet `j` of a composed frame -/
  | video (frame j : Nat)
  /-- the sample times of an audio packet -/
  | audio (samples : List (List Nat))
  /-- the ancillary packets of a composed frame -/
  | anc (frame : Nat) (l : List AncPkt)
  deriving DecidableEq, Repr

/-- What the module has sent to the outside, newest first in the output log. -/
inductive Out where
  /-- a reply on its transport (R60, R81, R83), with the bytes that are sent, or written to host memory from
  `addr` on -/
  | reply (via : Via) (dst : Endpoint) (addr : Nat) (r : Reply) (bytes : List Byte)
  /-- the 16 bytes of a completion record, written to host memory from `addr` on (R81) -/
  | completion (ring addr : Nat) (bytes : List Byte)
  /-- a read of host memory: a descriptor or a command packet (R79, R80, R91) -/
  | hostRead (addr len : Nat)
  /-- an MSI-X message (R498, R499) -/
  | msix (vector : Nat)
  /-- an event packet: subscriber, sequence number, loss count and record, with its bytes (R96, R97), which the
  PCIe event queue takes from `addr` on (R495) -/
  | event (sub addr : Nat) (seq : Word) (lost : Nat) (e : Event) (bytes : List Byte)
  /-- a packet of an egress flow on a path (R387): 0 A, 1 B, 2 both, 3 auxiliary; its length in bytes from the
  destination address through the FCS, its RTP sequence number, timestamp and marker, the flow settings that formed
  its headers (R374, R385), and what it carries -/
  | packet (flow path len seq stamp : Nat) (marker : Bool) (f : Fields) (load : Load)
  /-- a membership report on a port (R394): 2 leave, 3 join, 4 answer to a query; the versions of IGMP or MLD below
  the newest, the group, and its source filter or 0 -/
  | member (port kind older group filter : Nat)
  /-- a host packet (R393) -/
  | hostPacket (port : Nat) (tag : Nat)
  /-- firmware traffic: Delay_Req, ARP and echo answers, and the answer to a coefficient request (R136, R350,
  R395) -/
  | control (port kind : Nat) (what : Nat)
  /-- bytes a DMA run wrote to host memory (R446) or a FIFO -/
  | hostWrite (addr : Nat) (bytes : List Byte)
  /-- the completion of a BAR2 read (R408), poisoned or not (R432) -/
  | bar2 (offset : Nat) (bytes : List Byte) (poisoned : Bool)
  /-- the value a BAR0 read returned -/
  | regRead (offset : Nat) (value : Word)
  /-- an SDI output frame begins (R358): lane, composed frame, the blanking lines by which the frame that it ends was
  stretched (R359), the ST 352 payload identifier of each link, the time code (R274), the ancillary packets of the frame, and the
  sample times of the audio embedded in it, one list for each flow bound to the composition (R357) -/
  | sdiFrame (lane frame extra : Nat) (payloadId : List (BitVec 32)) (code : Sei) (anc : List AncPkt) (audio : List (List (List Nat)))
  /-- a rising or falling edge of PPS_OUT (R46) -/
  | pps (level : Bool)
  deriving DecidableEq, Repr

/-- A packet in a DRR queue (R392): counted length and what it is. -/
structure QPkt where
  len  : Nat
  what : Out
  stamp : Option Nat := none        -- its transmit timestamp tag, when requested (R393)
  excl : Bool := false              -- exclusive: the open gate's Turret sends it (R398)
  deriving DecidableEq, Repr

/-- A host packet sent with a launch time (R393): its port, media-class launch time, tag, timestamp request, and
counted length. -/
structure HostTimed where
  port   : Nat
  launch : Word
  tag    : Nat
  stamp  : Bool
  len    : Nat
  deriving DecidableEq, Repr

/-- A DRR queue (R392). -/
structure Drr where
  quantum : Nat := 1536
  enable : Bool := false
  deficit : Nat := 0
  pkts : List QPkt := []
  deriving DecidableEq, Repr

/-- A Turret's health (R396, R403): fields 2 to 11 of 0x0321, the failing conditions, GOOD. -/
structure Health where
  f : Fields := [4, 20, 0xFFFF, 0xFFFF, 0xFFFF, 0xFFFF, 0xFFFF, 0xFFFF, 0xFFFF, 0xFFFF]
  portFail : Bool := false
  fecFail : Bool := false
  sentFail : Bool := false
  /-- the tick since when every condition has held (R396) -/
  since : Option Nat := none
  good : Bool := false
  goodSince : Nat := 0
  /-- uncorrectable codewords of each port in the current 10 ms window -/
  fec : Tab Nat := []
  deriving DecidableEq, Repr

/-- Flow engines and Turrets. -/
structure Flows where
  /-- port identities: fields 2 to 17 of 0x0320, key port (R371) -/
  idents : Tab (Option Fields) := []
  /-- counted-length overheads and DSCP tables, fields 2 to 6 of 0x0324 (R373, R384) -/
  overA : Fields := [20, 0, 0, 0, 0]
  overB : Fields := [20, 0, 0, 0, 0]
  police : Tab (Option Police) := []
  ingress : Tab (Option IFlow) := []
  egress : Tab (Option EFlow) := []
  /-- DRR queues, key port * 1024 + queue (R392) -/
  drr : Tab Drr := []
  /-- the queue of each port's DRR round that was visited last (R392) -/
  visit : Tab Nat := []
  /-- egress flows deleted with a frame in flight, which completes (R401) -/
  tails : Tab (Option EFlow) := []
  /-- of each port, the instant at which its wire is free, in ps of the tick counter (R387) -/
  wire : Tab Nat := []
  /-- host packets sent with a launch time (R393) -/
  timed : List HostTimed := []
  /-- of each host tag, packets launched at once since its last LAUNCH_WINDOW event, and that event's tick
  (R391) -/
  hostWin : Tab (Nat × Option Nat) := []
  /-- memberships: path, group, source filter (R394), and those whose report is sent once more -/
  members : List (Nat × Nat × Nat) := []
  reports : List (Nat × Nat × Nat) := []
  /-- of each port, how many versions its querier is below IGMPv3 or MLDv2 (R394) -/
  older : Tab Nat := []
  /-- resolved neighbours: port and address (R386, R395) -/
  neigh : List (Nat × Nat) := []
  healthA : Health := {}
  healthB : Health := {}
  /-- the interlock flip-flop: true selects Turret B (R397) -/
  selB : Bool := false
  /-- primary, hold-off in s, command force (R399) -/
  lock : Fields := [0, 10, 0]
  lastCause : Nat := 0
  deriving DecidableEq, Repr

/-! ## Memory (spec/14) -/

/-- A tracked row (R419): its number, the activations of each port in the window, and whether it has
triggered. -/
structure RowTrack where
  row   : Nat
  ports : List (Nat × Nat)
  fired : Bool := false
  deriving DecidableEq, Repr

/-- A bank (R409, R410, R415, R418, R419), key rank * 32 + bank: open row, consecutive hits served while another
request waited on it, accumulated activations, refreshes postponed, its tracked rows, the tick of its last access or
close, and the tick until which a refresh holds it. -/
structure Bank where
  row  : Option Nat := none
  hits : Nat := 0
  raa  : Nat := 0
  postponed : Nat := 0
  rows : List RowTrack := []
  used : Nat := 0
  held : Nat := 0
  deriving DecidableEq, Repr

/-- A request of one burst that waits at a subchannel (R413, R415): the tick it came, and whether it has been counted
as urgent. -/
structure Waiting where
  req    : MemReq
  came   : Nat
  urgent : Bool := false
  deriving DecidableEq, Repr

/-- A subchannel, key rank (R415, R433): the requests that wait, oldest first, command slots since its last scrub, and
the patrol scrub's progress: bursts read and the tick the period began. -/
structure Subch where
  queue : List Waiting := []
  slots : Nat := 0
  scrubbed : Nat := 0
  period : Nat := 0
  deriving DecidableEq, Repr

/-- A channel (R422, R436): last ladder step, ticks of the last committed pass and of the last commit of
each training set, the corrected-error flag, power-down of its subchannels, a pass in GATHER. -/
structure Chan8 where
  step : Nat := 0
  passTick : Nat := 0
  ageHigh : Nat := 0
  ageLow : Nat := 0
  ceRate : Bool := false
  pd0 : Bool := false
  pd1 : Bool := false
  gather : Bool := false
  deriving DecidableEq, Repr

/-- A throttle (R420): port, rank, bank, whether it lasts one window more, tick of the last
activation. -/
structure Throttle where
  port : Nat
  rank : Nat
  bank : Nat
  more : Bool
  last : Nat
  row  : Nat
  count : Nat
  deriving DecidableEq, Repr

/-- The memory subsystem. -/
structure Mem where
  /-- module DRAM (R404, R406), by byte address -/
  dram : List Host.Cell := []
  /-- addresses of uncorrectable bursts held as failed (R431) -/
  bad : List Nat := []
  /-- page idle, power-down, scrub period, corrected-error threshold (R435) -/
  policy : Fields := [64, 1024, 24, 1000]
  /-- latency targets, key port (R412) -/
  targets : Tab (Option Nat) := []
  /-- row-disturbance threshold in force and throttle interval; the next window's threshold -/
  rh : Fields := [4000, 1000]
  rhNext : Int := 4000
  /-- set point selector of 0x0704 (R425), the set point in effect (0 high, 1 low) (R405) -/
  selector : Nat := 0
  setpoint : Nat := 0
  ladderHold : Bool := false
  engine : Engine := .idle
  /-- pending set-point request (R424) -/
  request : Option Nat := none
  degraded : List Nat := []
  raised : List Nat := []
  /-- the channel whose ladder runs (R427) -/
  ladder : Option Nat := none
  chans : Tab Chan8 := []
  banks : Tab Bank := []
  subs : Tab Subch := []
  throttles : List Throttle := []
  /-- corrected errors of each rank in a clock hour, and that hour (R430) -/
  ceHour : Tab Nat := []
  hour : Nat := 0
  /-- MEM_UE_INFO and address (R437) -/
  ueValid : Bool := false
  ueScrub : Bool := false
  ueOwner : Nat := 0
  uePort : Nat := 0
  ueMore : Nat := 0
  ueAddr : Nat := 0
  /-- the BAR2 base in GiB (R408) -/
  bar2 : Nat := 0
  deriving DecidableEq, Repr

/-! ## DMA and check units (spec/15) -/

/-- A DMA channel (R443, R464): fields 2 to 18 from field 1 on. -/
structure DmaChan where
  holder : Holder := .free
  f : Fields := []
  state : ChanState := .idle
  error : Nat := 0
  /-- a trigger is held (R445) -/
  trig : Bool := false
  /-- paused for a domain: 2 or 3 a tile, 4 host memory (R451, R454); paused by command (R438) -/
  domain : Option Nat := none
  paused : Bool := false
  /-- a run was begun and has not ended, and it has an element in host memory (R454) -/
  inRun : Bool := false
  hostRun : Bool := false
  /-- source element index, destination element index and bytes already written of it -/
  elem : Nat := 0
  dest : Nat := 0
  destOff : Nat := 0
  /-- the instant from which the timer's period counts, in eighths of a tick (R444) -/
  timer : Nat := 0
  deriving DecidableEq, Repr

/-- A check unit (R456 to R459, R465): its register, the bytes fed since it was opened or last closed, its
client and the object that the client works on (R461, R462). -/
structure Chk where
  holder : Holder := .free
  opened : Bool := false
  poly : Nat := 0
  crc : Word := 0
  bytes : Nat := 0
  object : Nat := 0xFFFF
  /-- writes accepted and not yet fed, the first of them in progress (R458) -/
  queue : List (List Byte) := []
  overrun : Bool := false
  widthErr : Bool := false
  client : Nat := 0
  result : Word := 0
  deriving DecidableEq, Repr

/-- DMA engine and check units. -/
structure Dma where
  chans : Tab DmaChan := []
  units : Tab Chk := []
  /-- drain timeout in microseconds (R438) -/
  drain : Nat := 100
  deriving DecidableEq, Repr

/-! ## Watchtower (spec/16) -/

/-- A junction sensor (R467 to R470): its last sample in 1/16 degree C, its rate of rise in 1/200 degree
C/s, its last healthy reading, fault kind (0 none, 1 range, 2 stuck, 3 self-check), runs of
consecutive samples, and its last 2,750 samples, newest first. -/
structure Sensor where
  temp : Int := 0
  rate : Int := 0
  healthy : Int := 0
  fault : Nat := 0
  /-- the last raw code, and how many samples in a row returned it -/
  raw  : Nat := 0
  same : Nat := 0
  /-- samples in a row out of range, and samples in a row at 115 degrees C or more -/
  range : Nat := 0
  hot  : Nat := 0
  /-- the last self-check was off by more than 3 degrees C; self-checks passed in a row -/
  selfBad : Bool := false
  passes : Nat := 0
  override : Bool := false
  hist : List Int := []
  /-- tick of the last sample that kept a governed Spire from stepping back (R473) -/
  warmAt : Option Nat := none
  deriving DecidableEq, Repr

/-- Watchtower. -/
structure Watch where
  sensors : Tab Sensor := []
  /-- profile in effect: 0 Full, 1 Balanced, 2 Cool (R18, R482) -/
  profile : Nat := 0
  /-- warn and act levels in degrees C (R483) -/
  warn : Nat := 105
  act  : Nat := 110
  /-- power cap and dip cap in W (R483) -/
  cap : Nat := 285
  dipCap : Nat := 200
  /-- thermal requests T_s, and the tick each was last lowered (R473) -/
  therm : Tab Nat := []
  lowered : Tab (Option Nat) := []
  /-- power request P, the tick it was last lowered -/
  power : Nat := 0
  powerLowered : Option Nat := none
  /-- input powers of the last telemetry frames in 0.0001 W with their ticks, newest first (R473) -/
  pins : List (Nat × Nat) := []
  /-- estimate of input power while telemetry is lost, in units of 0.0001 W / 92 (R477) -/
  estimate : Nat := 0
  vin : Nat := 0
  iin : Nat := 0
  pin : Nat := 0
  convTemp : Int := 0
  supplyWarn : Bool := false
  telLost : Bool := false
  /-- tick of the last frame below 38.5 V, or of the raise (R478) -/
  lowTick : Nat := 0
  /-- tick of the last telemetry frame -/
  lastFrame : Nat := 0
  /-- the converter is flagged at or above 105 degrees C (R480) -/
  convHot : Bool := false
  /-- the open dip record (R481) -/
  dip : Option Dip := none
  deriving DecidableEq, Repr

/-! ## The whole -/

/-- The state of the block. -/
structure State where
  supply : Supply := {}
  pins   : Pins := {}
  dev    : Dev := {}
  keep   : Keep := {}
  cmd    : CmdP := {}
  bel    : Belfry := {}
  ctxs   : Tab Ctx := []
  groups : Tab (Option Group) := []
  camp   : Camp := {}
  cup    : Cupola := {}
  lanes  : Lanes := {}
  flows  : Flows := {}
  mem    : Mem := {}
  dma    : Dma := {}
  watch  : Watch := {}
  /-- RCLR counters, keyed by BAR0 offset (R491, R501); an unlisted one reads 0 -/
  counters : Tab Nat := []
  /-- X_IRQ, X_IRQ_EN and X_ALERT_EN of each block, keyed by block id (R496) -/
  irq     : Tab Word := []
  irqEn   : Tab Word := []
  alertEn : Tab Word := [(0, 4), (2, 12), (6, 4), (8, 6), (10, 5), (13, 0x232)]
  /-- MSI-X enabled, its masked vectors and its pending vectors (R498); disabled at reset as PCIe lays
  down (PRESUMED, log entry 5) -/
  msix    : Bool := false
  msixMasked  : List Nat := []
  msixPending : List Nat := []
  /-- 625 MHz ticks since the model's reset: the base of every interval (R131) -/
  tick    : Nat := 0
  /-- the MODEL's counter of free values drawn (log entry 2) -/
  free    : Nat := 0
  /-- the MODEL's log of what the module has sent, newest first (log entry 4) -/
  out     : List Out := []
  /-- commands that wait, first in first out -/
  pending : List Instr := []
  deriving DecidableEq, Repr

/-- Why a step faults. No command of this block stops the model: nothing raises it. -/
inductive Fault where
  /-- reserved; raised by nothing (safe) -/
  | unreachable
  deriving DecidableEq, Repr

/-- Why a step refuses a command. -/
inductive Refusal where
  /-- a command without its meaning yet, by its mnemonic (safe) -/
  | notModelled (mnemonic : String)
  deriving DecidableEq, Repr

/-- The module right after power-on reset with RESET_N high (R44, R124): BOOT, supply reset as the
last reset, every field at the value its structure gives, nothing in memory, an empty queue. -/
def State.reset : State := {}

end Sys2Proof.Machine
end

