-- ==== Sys2Proof/Machine/Wire.lean ====
section
/-! DEFINITION. What the module puts on its transports, byte by byte: replies and clamp entries (R60, R61, R87),
event packets (R96, R97), completion records (R81), and the addresses in the rings and the event queue (R80, R495). -/

namespace Sys2Proof.Machine

/-! ## Codes (R61, R62) -/

/-- The code of a status (R62). -/
def statusCode : Status → Nat
  | .ok => 0x0000
  | .okClamped => 0x0001
  | .badOpcode => 0x0100
  | .badLength => 0x0101
  | .crcMismatch => 0x0102
  | .authFail => 0x0103
  | .replay => 0x0104
  | .noResource => 0x0200
  | .busy => 0x0201
  | .deferred => 0x0202
  | .badState => 0x0300
  | .notLocked => 0x0301
  | .refused => 0x0400
  | .internal => 0x0F00

/-- The code of a clamp entry's reason (R61). -/
def reasonCode : Reason → Nat
  | .belowMin => 0x01
  | .aboveMax => 0x02
  | .granule => 0x03
  | .crossField => 0x04
  | .selector => 0x05

/-! ## Replies (R60, R61, R87) -/

/-- The 12 bytes of a clamp entry (R61). -/
def clampBytes (c : Clamp) : List Byte :=
  leBytes 2 c.field ++ leBytes 4 c.requested.toNat ++ leBytes 4 c.applied.toNat ++
    [BitVec.ofNat 8 (reasonCode c.reason), 0]

/-- A packet of the layout of R60 without a trailer: bytes 0 to 19 of its header, its CRC, its clamp entries and its
result block. -/
def packetBytes (flags opcode status tag effect : Nat) (clamps : List Clamp) (result : List Byte) : List Byte :=
  let head := leBytes 2 0x5A48 ++ [0x01, BitVec.ofNat 8 flags] ++ leBytes 2 opcode ++ leBytes 2 status ++
    leBytes 4 tag ++ leBytes 2 (result.length / 4) ++ leBytes 2 clamps.length ++ leBytes 4 effect
  let body := clamps.flatMap clampBytes ++ result
  head ++ leBytes 4 (crc32 (head ++ body)).toNat ++ body

/-- The flags byte of a reply: EFFECT_VALID, FENCED, AUTH and TRUNCATED (R60). -/
def replyFlags (r : Reply) (truncated : Bool) : Nat :=
  b2n r.effect.isSome + 4 * b2n r.fenced + 8 * b2n r.auth.isSome + 16 * b2n truncated

/-- The whole of a reply: with AUTH a trailer that echoes the replay counter, and an HMAC under the request's key over
all before it and that counter (R87). -/
def replyWire (r : Reply) (truncated : Bool) : List Byte :=
  let p := packetBytes (replyFlags r truncated) r.opcode (statusCode r.status) r.tag.toNat (r.effect.getD 0).toNat
    r.clamps (ofWords r.result)
  match r.auth with
  | none => p
  | some (n, key) => p ++ leBytes 8 n ++ hmac key (p ++ leBytes 8 n)

/-- The length of a reply in bytes (R60). -/
def replyBytes (r : Reply) : Nat :=
  24 + 12 * r.clamps.length + 4 * r.result.length + (if r.auth.isSome then 40 else 0)

/-- A reply as a descriptor's reply address takes it: cut at the capacity, with TRUNCATED set, when it is longer
(R81). -/
def replyCut (capacity : Nat) (r : Reply) : List Byte :=
  if capacity < replyBytes r then (replyWire r true).take capacity else replyWire r false

/-! ## Events (R96, R97) -/

/-- An event record: the 16 bytes of R97 and the words that its event adds, the last one filled up with zeros. -/
def eventRecord (lost : Nat) (e : Event) : List Byte :=
  leBytes 6 e.sec.toNat ++ leBytes 2 lost ++ leBytes 4 e.ns.toNat ++ leBytes 2 e.ctx ++ leBytes 2 e.source ++
    e.bytes ++ List.replicate ((4 - e.bytes.length % 4) % 4) 0

/-- An event packet (R96): EVENT set, the event's code, its sequence number as the tag, and status 0x0F00 for INTERNAL
(R99). -/
def eventWire (seq : Word) (lost : Nat) (e : Event) : List Byte :=
  packetBytes 2 e.code (if e.code = 0x01E3 then 0x0F00 else 0) seq.toNat 0 [] (eventRecord lost e)

/-! ## Completion records and rings (R79 to R81, R495) -/

/-- The 16 bytes of a completion record (R81). -/
def completionWire (ring : Nat) (tag : Word) (st : Status) (clamps consumer : Nat) (phase : Bool) (len : Nat) :
    List Byte :=
  leBytes 4 tag.toNat ++ leBytes 2 (statusCode st) ++ leBytes 2 clamps ++ leBytes 2 consumer ++
    [BitVec.ofNat 8 ring, BitVec.ofNat 8 (b2n phase)] ++ leBytes 4 len

/-- The slot of a free-running index in a ring (R80). -/
def ringSlot (g : Ring) (index : BitVec 16) : Nat := index.toNat % 2 ^ g.sizeLog2

/-- The host address of the descriptor at a free-running index (R79, R80). -/
def descAddr (g : Ring) (index : BitVec 16) : Nat := g.baseHi.toNat * 2 ^ 32 + g.baseLo.toNat + 32 * ringSlot g index

/-- The host address of the completion record at a free-running index (R81). -/
def recordAddr (g : Ring) (index : BitVec 16) : Nat := g.cqHi.toNat * 2 ^ 32 + g.cqLo.toNat + 16 * ringSlot g index

/-- The host address of a slot of the PCIe event queue (R495). -/
def eventAddr (q : Evq) (slot : Nat) : Nat := q.baseHi.toNat * 2 ^ 32 + q.baseLo.toNat + 128 * slot

/-- What a ring descriptor's bytes give: packet address, packet length, reply capacity and reply address (R79). -/
def descFields (d : List Byte) : Nat × Nat × Nat × Nat :=
  (ofLe (slice d 0 8), ofLe (slice d 8 4), ofLe (slice d 12 4), ofLe (slice d 16 8))

end Sys2Proof.Machine
end

