-- ==== Sys2Proof/Machine/Ops.lean ====
section
/-! DEFINITION. Operations every subsystem shares: the local clock and the rasters, counters,
interrupt lines and MSI-X, event subscribers, ports and next hops, module DRAM, free values. -/

namespace Sys2Proof.Machine

/-! ## The local clock and intervals (R130, R131) -/

/-- The local clock in whole nanoseconds since the epoch. -/
def clockNs (s : State) : Nat := s.bel.clock.sec.toNat * 1000000000 + s.bel.clock.ns.toNat

/-- One nanosecond in the units of a raster correction: 2^-32 ns / 10,000, so that 100 ppm of a tick
(R158) is a whole number of units. -/
def nsUnits : Int := 4294967296 * 10000

/-- The local clock in units of a raster correction. -/
def clockUnits (s : State) : Int :=
  ((clockNs s : Int) * 4294967296 + s.bel.clock.frac.toNat) * 10000

/-- A clock that reads `ns` whole nanoseconds and the fraction `frac`. -/
def clockOf (ns : Nat) (frac : BitVec 32) : Clock :=
  { sec := BitVec.ofNat 48 (ns / 1000000000), ns := BitVec.ofNat 32 (ns % 1000000000), frac := frac }

/-- The clock after one tick (R131). -/
def clockTick (c : Clock) (incr : BitVec 40) : Clock :=
  let f := c.frac.toNat + incr.toNat
  clockOf (c.sec.toNat * 1000000000 + c.ns.toNat + f / 4294967296) (BitVec.ofNat 32 f)

/-- A number of 625 MHz ticks that is at least `us` microseconds long. -/
def ticksUs (us : Nat) : Nat := us * 625

/-- At least `us` microseconds have passed since tick `t`. -/
def elapsed (s : State) (t us : Nat) : Bool := decide (t + ticksUs us ≤ s.tick)

/-- The difference of two media-class times, as a signed 32-bit value (R148). -/
def diff32 (a b : Int) : Int := (BitVec.ofInt 32 (a - b)).toInt

/-- The media-class time of an instant in ns (R148). -/
def mediaClass (ns : Nat) : Word := natWord ns

/-! ## Rates, formats and rasters (R151 to R153) -/

/-- The exact frame rate of a rate selector, as numerator and denominator; none out of its set. -/
def rateOf : Nat → Option (Nat × Nat)
  | 0 => some (24000, 1001)
  | 1 => some (24, 1)
  | 2 => some (25, 1)
  | 3 => some (30000, 1001)
  | 4 => some (30, 1)
  | 5 => some (48000, 1001)
  | 6 => some (48, 1)
  | 7 => some (50, 1)
  | 8 => some (60000, 1001)
  | 9 => some (60, 1)
  | 10 => some (100, 1)
  | 11 => some (120000, 1001)
  | 12 => some (120, 1)
  | _ => none

/-- Numerator and denominator of a rate selector in its set. -/
def rateN (r : Nat) : Nat × Nat := (rateOf r).getD (1, 1)

/-- Active width, active height, total lines and first active line of a format selector (R152). -/
def formatOf : Nat → Nat × Nat × Nat × Nat
  | 0 => (1280, 720, 750, 25)
  | 1 => (1920, 1080, 1125, 41)
  | 2 => (1920, 1080, 1125, 20)
  | 3 => (3840, 2160, 2250, 82)
  | _ => (7680, 4320, 4500, 164)

/-- Total samples per line of a format selector at a rate selector (R152), none where the table has
a dash; an interlaced format takes only rates of 30 frames/s or less (R153). -/
def samplesOf (format rate : Nat) : Option Nat :=
  let fam (a b c : Nat) : Option Nat :=
    if rate ∈ [3, 4, 8, 9, 11, 12] then some a
    else if rate ∈ [2, 7, 10] then some b
    else if rate ∈ [0, 1, 5, 6] then some c
    else none
  match format with
  | 0 => fam 1650 1980 4125
  | 1 => fam 2200 2640 2750
  | 2 => if rate ∈ [3, 4] then some 2200 else if rate = 2 then some 2640 else none
  | 3 => fam 4400 5280 5500
  | 4 => fam 8800 10560 11000
  | _ => none

/-- A configured timebase. -/
def tbOf (s : State) (tb : Nat) : Option Timebase := tget none s.bel.tbs tb

/-- Timebase `tb`, or an idle one. -/
def tbD (s : State) (tb : Nat) : Timebase := (tbOf s tb).getD { rate := 0, format := 0 }

/-- The ideal frame count at `t` ns (R151). -/
def idealCount (rate : Nat) (t : Int) : Int :=
  let (num, den) := rateN rate
  (t * num) / (den * 1000000000)

/-- The ideal frame alignment point A(n) in ns (R151). -/
def alignPoint (rate : Nat) (n : Int) : Int :=
  let (num, den) := rateN rate
  iceil (n * den * 1000000000) num

/-- A correction of one frame period or more in magnitude waits for a re-phase (R158, R159). -/
def rephaseDue (t : Timebase) : Bool :=
  let (num, den) := rateN t.rate
  decide ((den * 1000000000 : Int) * nsUnits ≤ t.corr.natAbs * num)

/-- k = ceil(c / P) of a re-phase (R159). -/
def rephaseK (t : Timebase) : Int :=
  let (num, den) := rateN t.rate
  iceil (t.corr * num) (den * 1000000000 * nsUnits)

/-- The timebase as its boundaries from the next one on fall: a re-phase that is due counts as done. -/
def rephased (t : Timebase) : Timebase :=
  if rephaseDue t then { t with offset := t.offset - rephaseK t, corr := 0 } else t

/-- The extra time of a re-phase in ns, r = k P - c rounded up (R159). -/
def rephaseNs (t : Timebase) : Nat :=
  let (num, den) := rateN t.rate
  (iceil (rephaseK t * (den * 1000000000 * nsUnits) - t.corr * num) (num * nsUnits)).toNat

/-- The raster time at which the next boundary would fall without the re-phase that delays it. -/
def nextPoint (t : Timebase) : Int := alignPoint t.rate ((t.last.getD 0 : Int) + 1 - t.offset)

/-- Raster time of a timebase, in whole ns: the local time less its correction (R158). -/
def rasterNs (s : State) (t : Timebase) : Int := (clockUnits s - t.corr) / nsUnits

/-- Raster time as positions and launches meet it (R155, R156): while a re-phase waits, it stands before the boundary
that is delayed. -/
def heldNs (s : State) (t : Timebase) : Int :=
  if rephaseDue t then min (rasterNs s t) (nextPoint t - 1) else rasterNs s t

/-- The raster frame count now, from the mapping that the next boundaries follow. -/
def countNow (s : State) (t : Timebase) : Int :=
  let t := rephased t
  idealCount t.rate (rasterNs s t) + t.offset

/-- The raster frame count that BELF_TBt_FC shows (R154): during a wait for a re-phase the count of
the last boundary stands. -/
def rasterCount (s : State) (tb : Nat) : Int :=
  let t := tbD s tb
  if rephaseDue t then (t.last.getD 0 : Int) else countNow s t

/-- The instant of boundary `n` of a timebase on the local clock, in correction units. -/
def boundaryAt (s : State) (tb : Nat) (n : Int) : Int :=
  let t := rephased (tbD s tb)
  alignPoint t.rate (n - t.offset) * nsUnits + t.corr

/-- The raster time in ns of boundary `n` of a timebase. -/
def boundaryNs (s : State) (tb : Nat) (n : Int) : Int :=
  let t := rephased (tbD s tb)
  alignPoint t.rate (n - t.offset)

/-- The first boundary of a timebase at or after a local instant in correction units. -/
def boundaryAfter (s : State) (tb : Nat) (at' : Int) : Int :=
  let t := rephased (tbD s tb)
  let ns := iceil (at' - t.corr) nsUnits
  idealCount t.rate (ns - 1) + 1 + t.offset

/-- The time in ns of a line and sample offset of ideal frame `n` (R152), rounded up. For the
interlaced format, active lines from 540 on lie in the second field. -/
def positionNs (t : Timebase) (n line sample : Int) : Int :=
  let (num, den) := rateN t.rate
  let (_, _, ltot, voff) := formatOf t.format
  let stot := (samplesOf t.format t.rate).getD 1
  let l := if t.format = 2 ∧ 540 ≤ line then 583 + (line - 540) else voff + line
  alignPoint t.rate n + iceil ((l * stot + sample) * den * 1000000000) (num * ltot * stot)

/-- The lowest-numbered configured timebase. -/
def lowestTb (s : State) : Option Nat := (List.range 16).find? fun i => (tbOf s i).isSome

/-- The servo holds valid time (R138). -/
def validTime (s : State) : Bool :=
  match s.bel.ptp.servo with
  | .track | .locked | .holdover | .requalify => true
  | .unset | .acquire => false

/-! ## Free values and the output log -/

/-- The next free value and the state that has drawn it (log entry 2). -/
def draw (s : State) : Nat × State := (Config.freeValue s.free, { s with free := s.free + 1 })

/-- The state with `o` sent to the outside. -/
def send (o : Out) (s : State) : State := { s with out := o :: s.out }

/-! ## Counters (R10, R11, R501) -/

/-- What one count of the counter at a BAR0 offset stands for (R245, R281, R464): 1,024 cycles, bins, bits or
bytes, 64 KiB of fetches, else one. The table of counters holds the finer number. -/
def counterUnit (off : Nat) : Nat :=
  if 0x40000 ≤ off ∧ off < 0x50000 then
    (match off % 0x1000 with
      | 0x8 | 0xC | 0x10 => 1024
      | 0x28 => 65536
      | _ => 1)
  else if (0x50000 ≤ off ∧ off < 0x5C000) ∨ (0xB1000 ≤ off ∧ off < 0xB1400 ∧ off % 0x10 = 8) then 1024
  else 1

/-- The largest value of the counter at a BAR0 offset: 16 bits for OVF_COUNT, else 32. -/
def counterMax (off : Nat) : Nat := if off = 0x20108 ∨ off = 0x20114 then 0xFFFF else 0xFFFFFFFF

/-- A counter's value. -/
def counter (s : State) (off : Nat) : Nat := tget 0 s.counters off / counterUnit off

/-- A counter advanced by `n`, saturating (R11). -/
def bump (off n : Nat) (s : State) : State :=
  let v := min (counterMax off * counterUnit off) (tget 0 s.counters off + n)
  { s with counters := tset 0 s.counters off v }

/-! ## Interrupts and MSI-X (R496 to R500) -/

/-- The sources of X_IRQ that mirror flags held elsewhere (R496). -/
def irqMirror (s : State) (b : Nat) : Nat :=
  match b with
  | 6 => if s.cup.images.any (fun (_, i) => i.any (·.damaged)) then 4 else 0
  | 7 => b2n s.lanes.refLost
  | 10 => b2n s.mem.ueValid + 2 * b2n (s.mem.chans.any fun (_, c) => c.ceRate)
  | 12 => 2 * b2n (s.dma.units.any fun (_, u) => u.overrun) +
      4 * b2n (s.dma.units.any fun (_, u) => u.widthErr)
  | _ => 0

/-- X_IRQ of block `b`. -/
def irqWord (s : State) (b : Nat) : Word := tget 0 s.irq b ||| natWord (irqMirror s b)

/-- Every source of block `b`, as a mask (R496). -/
def irqSources : Nat → Word
  | 0 => 0x7
  | 1 => 0x3FF
  | 2 => 0x1F
  | 3 => 0x7
  | 6 => 0xF
  | 7 => 0xF
  | 8 => 0x7
  | 9 => 0xF
  | 10 => 0xF
  | 11 => 0x3
  | 12 => 0x7
  | 13 => 0x3FF
  | 14 => 0x7
  | _ => 0

/-- The interrupt line of block `b` is set. -/
def lineOf (s : State) (b : Nat) : Bool := decide (irqWord s b &&& tget 0 s.irqEn b ≠ 0)

/-- The alert line of block `b` is set. -/
def alertOf (s : State) (b : Nat) : Bool := decide (irqWord s b &&& tget 0 s.alertEn b ≠ 0)

/-- The state with source `i` of block `b` set. -/
def raise (b i : Nat) (s : State) : State :=
  { s with irq := tset 0 s.irq b (tget 0 s.irq b ||| natWord (2 ^ i)) }

/-- An MSI-X message: sent when MSI-X is enabled and the vector is not masked; a masked vector becomes
pending (R498). -/
def sendMsix (v : Nat) (s : State) : State :=
  if !s.msix then s
  else if v ∈ s.msixMasked then
    (if v ∈ s.msixPending then s else { s with msixPending := s.msixPending ++ [v] })
  else send (.msix v) s

/-- A message for each interrupt line that rose from `s0` to `s` (R498). -/
def sendLines (s0 s : State) : State :=
  (List.range 15).foldl (fun t b => if lineOf s b && !lineOf s0 b then sendMsix (9 + b) t else t) s

/-! ## Ports and next hops (R346, R371, R386) -/

/-- The layout selector of a Turret, 0 A or 1 B. -/
def layoutOf (s : State) (t : Nat) : Nat :=
  fnat (if t = 0 then s.lanes.layoutA else s.lanes.layoutB) 1

/-- Lanes in a port of a layout (R346). -/
def lanesPerPort : Nat → Nat
  | 1 => 8
  | 2 => 4
  | _ => 1

/-- Lane offset `l` of a Turret is a port's first lane under layout `layout` (R346). -/
def portStart (layout l : Nat) : Bool :=
  decide (layout ≠ 0 ∧ l < 8 ∧ l % lanesPerPort layout = 0)

/-- The first lane of the port that network lane `n` belongs to, under the layouts in force. -/
def portOfLane (s : State) (n : Nat) : Nat :=
  n - n % lanesPerPort (layoutOf s (n / 8))

/-- The port whose first lane is `key` is up; 32 is the management port (R351, R369). -/
def portUp (s : State) (key : Nat) : Bool :=
  if key = 32 then s.dev.mgmtUp else decide ((tget {} s.lanes.ports key).phase = .up)

/-- An address is a group address. -/
def isGroup (v6 : Bool) (addr : Nat) : Bool :=
  if v6 then decide (addr / 2 ^ 120 = 0xFF) else decide (addr / 2 ^ 28 = 0xE)

/-- A 128-bit number from four words, most significant first, starting at field `i`. -/
def addr128 (f : Fields) (i : Nat) : Nat :=
  ((fnat f i * 2 ^ 32 + fnat f (i + 1)) * 2 ^ 32 + fnat f (i + 2)) * 2 ^ 32 + fnat f (i + 3)

/-- The identity of port `key`: fields 2 to 17 of 0x0320 from field 1 on, at their defaults when the
command was never sent (R371). -/
def identOf (s : State) (key : Nat) : Fields :=
  let mac := s.keep.mac.toNat + key
  (tget none s.flows.idents key).getD
    [mac / 2 ^ 32 % 2 ^ 16, mac % 2 ^ 32, 0, 24, 0, 0, 0, 0, 0, 64, 0, 0, 0, 0, 0, 5]

/-- The neighbour through which port `key` reaches a unicast address: itself inside the prefix, the
port's gateway outside it (R386). -/
def nextHop (s : State) (key : Nat) (v6 : Bool) (addr : Nat) : Nat :=
  let f := identOf s key
  if v6 then
    let sh := 2 ^ (128 - fnat f 10)
    if addr / sh = addr128 f 6 / sh then addr else addr128 f 11
  else
    let sh := 2 ^ (32 - fnat f 4)
    if addr / sh = fnat f 3 / sh then addr else fnat f 5

/-- A destination is resolved on a port: a group needs no resolution (R386). -/
def resolved (s : State) (key : Nat) (v6 : Bool) (addr : Nat) : Bool :=
  isGroup v6 addr || decide ((key, nextHop s key v6 addr) ∈ s.flows.neigh)

/-- The fields of a Turret's layout in force: layout, FEC, training, auto-negotiation, precoding. -/
def layoutFields (s : State) (t : Nat) : Fields := if t = 0 then s.lanes.layoutA else s.lanes.layoutB

/-- Port `key` is NRZ (R346, R360). -/
def portNrz (s : State) (key : Nat) : Bool := decide (16 ≤ key ∨ layoutOf s (key / 8) = 4)

/-- RS(528,514) or RS(544,514) runs on port `key`. -/
def portFec (s : State) (key : Nat) : Bool :=
  if key < 16 then !portNrz s key || decide (fnat (layoutFields s (key / 8)) 2 = 1)
  else decide (fnat (tget {} s.lanes.lanes key).media 5 = 1)

/-- The TX and RX corrections of a port's mode to the pins in 0.1 ns (R134); 32 is the management port. -/
def pinCorrections (s : State) (port : Nat) : Nat × Nat :=
  if port = 32 then (2120, 3184)
  else if portNrz s port then (if portFec s port then (739, 2317) else (614, 845))
  else match layoutOf s (port / 8) with
    | 1 => (716, 1392)
    | 2 => (660, 1483)
    | _ => (582, 1648)

/-- The correction of a transmit timestamp (R134). -/
def txCorrection (s : State) (port : Nat) : Nat := (pinCorrections s port).1

/-- What a receive timestamp of a delimiter on lane `carrier` of the port's Turret is brought back by: the RX
correction and, on a multi-lane port, the deskew hold of that lane, in 0.1 ns (R134, R352). -/
def rxCorrection (s : State) (port carrier : Nat) : Nat :=
  (pinCorrections s port).2 +
    (if port < 16 ∧ 1 < lanesPerPort (layoutOf s (port / 8)) then
      10 * (tget {} s.lanes.lanes (port / 8 * 8 + carrier)).skew else 0)

/-! ## Events (R96 to R98, R101, R495) -/

/-- The mask bit of an event code (R98). -/
def eventBit : Nat → Nat
  | 0x01E0 => 0
  | 0x01E1 => 1
  | 0x01E2 => 2
  | 0x01E3 => 3
  | 0x02E0 => 4
  | 0x02E1 => 5
  | 0x03E0 => 6
  | 0x04E0 => 7
  | 0x05E0 => 8
  | 0x05E1 => 9
  | 0x05E2 => 10
  | 0x05E3 => 11
  | 0x05E4 => 12
  | 0x06E0 => 13
  | 0x07E0 => 14
  | 0x07E1 => 15
  | 0x08E0 => 16
  | 0x09E0 => 17
  | 0x09E1 => 18
  | 0x0AE0 => 19
  | _ => 32

/-- A subscriber takes an event: its event-mask bit, and for a per-context event its context's bit.
Fields 2 to 19 of 0x0102 are numbered from 1 here. -/
def wants (sub : Sub) (e : Event) : Bool :=
  bit (fnat sub.f 10) (eventBit e.code) &&
    (e.ctx = 0xFFFF || bit (fnat sub.f (11 + e.ctx / 32)) (e.ctx % 32))

/-- The subscriber with one more event lost, saturating (R97). -/
def loseEvent (sub : Sub) : Sub := { sub with lost := min 0xFFFF (sub.lost + 1) }

/-- The slots of the PCIe event queue (R495). -/
def evqSlots (q : Evq) : Nat := 2 ^ q.sizeLog2

/-- The PCIe event queue is full (R495). -/
def evqFull (q : Evq) : Bool := decide ((q.tail + 1) % evqSlots q = q.head % evqSlots q)

/-- The destination address of a UDP subscriber. -/
def subAddr (sub : Sub) : Nat := if fnat sub.f 2 = 1 then addr128 sub.f 3 else fnat sub.f 3

/-- The port that a UDP subscriber's events take, while it can send (R101): the management port for kind 2; for kind
3 the port at field 10's lane of the Turret that field 9 names. -/
def subRoute (s : State) (sub : Sub) : Option Nat :=
  let t := match fnat sub.f 8 with
    | 0 => 0
    | 1 => 1
    | _ => b2n s.flows.selB
  let key := if fnat sub.f 1 = 2 then 32 else 8 * t + fnat sub.f 9
  let starts := decide (key = 32) || portStart (layoutOf s t) (fnat sub.f 9)
  if starts && portUp s key then some key else none

/-- A UDP subscriber's destination is resolved on port `p` (R101, R386). -/
def subResolved (s : State) (p : Nat) (sub : Sub) : Bool := resolved s p (fnat sub.f 2 = 1) (subAddr sub)

/-- The port a UDP subscriber's event leaves on (R101), none when the event is lost. -/
def subPort (s : State) (sub : Sub) : Option Nat := (subRoute s sub).filter fun p => subResolved s p sub

/-- The firmware asks for the neighbour of a UDP subscriber whose destination is not resolved (R101, R386). -/
def askSub (sub : Sub) (s : State) : State :=
  match (subRoute s sub).filter fun p => !subResolved s p sub with
  | some p => send (.control p 5 (nextHop s p (fnat sub.f 2 = 1) (subAddr sub))) s
  | none => s

/-- The state with subscriber `i` as given. -/
def setSub (i : Nat) (sub : Sub) (s : State) : State :=
  { s with cmd := { s.cmd with subs := tset none s.cmd.subs i (some sub) } }

/-- One event offered to subscriber `i`. -/
def offer (e : Event) (i : Nat) (sub : Sub) (s : State) : State :=
  if !wants sub e then s
  else if fnat sub.f 1 = 1 then
    let q := s.cmd.evq
    if !q.enable || evqFull q then
      raise 1 8 (bump 0x10414 1 (setSub i (loseEvent sub) s))
    else
      let s := send (.event i (eventAddr q q.tail) sub.seq sub.lost e (eventWire sub.seq sub.lost e)) s
      let s := setSub i { sub with seq := sub.seq + 1, lost := 0 } s
      let s := { s with cmd := { s.cmd with evq := { q with tail := (q.tail + 1) % evqSlots q } } }
      if q.head % evqSlots q = q.tail then sendMsix 8 s else s
  else
    match subPort s sub with
    | none => askSub sub (setSub i (loseEvent sub) s)
    | some p =>
      if 256 ≤ sub.queue.length then setSub i (loseEvent sub) s
      else setSub i { sub with queue := sub.queue ++ [(p, e)] } s

/-- An event: stamped with the local clock and offered to every subscriber (R96, R97). -/
def emit (code ctx source : Nat) (bytes : List Byte) (s : State) : State :=
  let e : Event := { code, sec := s.bel.clock.sec, ns := s.bel.clock.ns, ctx, source, bytes }
  (List.range 16).foldl (fun t i =>
    match tget none t.cmd.subs i with
    | some sub => offer e i sub t
    | none => t) s

/-- The bytes that an INTERNAL record adds (R99). -/
def internalRecord (kind core opcode : Nat) (tag : Word) (detail : Nat) : List Byte :=
  [BitVec.ofNat 8 kind, BitVec.ofNat 8 core] ++ leBytes 2 opcode ++ leBytes 4 tag.toNat ++ leBytes 4 detail ++ leBytes 4 0

/-- A firmware fault (R62, R99): it is logged, its interrupt is raised, and an INTERNAL event tells it, with the
context of the command concerned; the source of a core that is not known, 0xFF, is 0xFFFF. The detail is a free
value. -/
def internalEvent (kind core ctx opcode : Nat) (tag : Word) (s : State) : State :=
  let (d, s) := draw s
  let s := { s with keep := { s.keep with faults := (kind, core, opcode, tag, d) :: s.keep.faults } }
  emit 0x01E3 ctx (if core = 0xFF then 0xFFFF else core) (internalRecord kind core opcode tag d) (raise 0 2 s)

/-! ## Module DRAM (R404) -/

/-- Installed module DRAM in bytes (R5). -/
def dramBytes (s : State) : Nat := if s.dev.variant = 1 then 256 * 2 ^ 30 else 128 * 2 ^ 30

/-- A byte of module DRAM; a byte that nothing has written reads 0 (DESIGN CHOICE, log entry 6). -/
def memByte (s : State) (a : Nat) : Byte := tget 0#8 s.mem.dram a

/-- `n` bytes of module DRAM from address `a`. -/
def memRead (s : State) (a : Nat) : Nat → List Byte
  | 0 => []
  | n + 1 => memByte s a :: memRead s (a + 1) n

/-- The memory with bytes written from address `a` on. -/
def cellsWrite (m : List Host.Cell) (a : Nat) : List Byte → List Host.Cell
  | [] => m
  | b :: t => cellsWrite (tset 0#8 m a b) (a + 1) t

/-- The canonical form of memory: addresses strictly rising and no listed byte 0. -/
abbrev Memory.wf (m : List Host.Cell) : Bool := tabWf 0#8 none m

/-- The state with bytes written to module DRAM. -/
def memWrite (a : Nat) (l : List Byte) (s : State) : State :=
  { s with mem := { s.mem with dram := cellsWrite s.mem.dram a l } }

/-! ## The variant (R5, R18, R23) -/

/-- Spires present. -/
def spireCount (s : State) : Nat := if s.dev.variant = 3 then 8 else 16

/-- Domes present. -/
def domeCount (s : State) : Nat := if s.dev.variant = 3 then 6 else 12

end Sys2Proof.Machine
end

