-- ==== Sys2Proof/Machine/Operands.lean ====
section
/-! DEFINITION. Parameter fields: their permitted values, clamping (R68, R69, R506), and the shape of
an opcode's action, from which `Engine.lean` runs every opcode row. -/

namespace Sys2Proof.Machine

/-- The permitted values of a field (R68, R69, R506). -/
inductive Kind where
  /-- any 32-bit value, read as signed or not -/
  | any (signed : Bool := false)
  /-- a selector with its permitted set -/
  | sel (ok : List Nat)
  /-- a number marked "not clamped" -/
  | fixed (lo hi : Int)
  /-- a clampable number: the multiples of the step within the range -/
  | num (lo hi : Int) (step : Int := 1) (signed : Bool := false)
  /-- a clampable number with a list of levels, in rising order -/
  | levels (l : List Int)
  /-- a clampable number from 0 to `hi` that is clamped down to a multiple of its step (R503) -/
  | down (hi step : Int)
  /-- 0, or a clampable number from `lo` on -/
  | zeroOr (lo hi : Int)
  /-- a number marked "not clamped" whose permitted values a predicate gives -/
  | pred (ok : Int → Bool)

/-- A field of an opcode: its permitted values and the adjustment that its relations with earlier
fields and with values in effect require. -/
structure Spec where
  kind : Kind
  cross : Int → Int := id

/-- The nearest multiple of `step` to `v`, a value exactly halfway rounded down, inside the range (R68
step 2). -/
def granule (lo hi step v : Int) : Int :=
  let down := v / step * step
  let near := if 2 * (v - down) ≤ step then down else down + step
  if near < lo then iceil lo step * step
  else if hi < near then hi / step * step
  else near

/-- The nearest of a list of levels, the lower one when exactly halfway. -/
def nearestLevel (v : Int) : List Int → Int
  | [] => v
  | [a] => a
  | a :: b :: t => if 2 * v ≤ a + b then a else nearestLevel v (b :: t)

/-- The outcome of a field's own range and step: its value, and the reason of an adjustment. -/
def inRange (k : Kind) (v : Int) : Int × Option Reason :=
  match k with
  | .num lo hi step _ =>
    let c := clip lo hi v
    let r : Option Reason := if v < lo then some .belowMin else if hi < v then some .aboveMax else none
    let g := granule lo hi step c
    (g, if g = c then r else some .granule)
  | .levels l =>
    let lo := l.headD 0
    let hi := l.getLastD 0
    let c := clip lo hi v
    let r : Option Reason := if v < lo then some .belowMin else if hi < v then some .aboveMax else none
    let g := nearestLevel c l
    (g, if g = c then r else some .granule)
  | .down hi step =>
    if hi < v then (hi, some .aboveMax)
    else
      let g := v / step * step
      (g, if g = v then none else some .granule)
  | .zeroOr lo hi =>
    if hi < v then (hi, some .aboveMax)
    else if v = 0 ∨ lo ≤ v then (v, none)
    else (if 2 * v ≤ lo then 0 else lo, some .granule)
  | _ => (v, none)

/-- A selector or unclamped field outside its permitted set (R69, R506). -/
def outOfSet (k : Kind) (v : Int) : Bool :=
  match k with
  | .sel ok => decide (v.toNat ∉ ok)
  | .fixed lo hi => decide (v < lo ∨ hi < v)
  | .pred ok => !ok v
  | _ => false

/-- A field is carried in two's complement (R61). -/
def isSigned : Kind → Bool
  | .any sg => sg
  | .num _ _ _ sg => sg
  | .fixed lo _ => decide (lo < 0)
  | .levels _ => false
  | .zeroOr _ _ => false
  | .down _ _ => false
  | .sel _ => false
  | .pred _ => false

/-- A field clamped: its final value and its clamp entry (R68). -/
def clampField (id : Nat) (w : Word) (sp : Spec) : Int × Option Clamp :=
  let v := wordInt (isSigned sp.kind) w
  let (g, r) := inRange sp.kind v
  let x := sp.cross g
  let r := if x = g then r else some .crossField
  (x, r.map fun r => { field := id, requested := w, applied := intWord x, reason := r })

/-- The outcome of stage 13: applied fields with clamp entries, or a refusal with the entries made. -/
inductive Checked where
  | ok (f : Fields) (clamps : List Clamp)
  | refused (clamps : List Clamp)

/-- Stage 13 of R63 over the fields from `id` on; `acc` holds the applied values of the earlier ones. -/
def checkFields (id : Nat) (acc : Fields) (cl : List Clamp) :
    List (Fields → Spec) → List Word → Checked
  | sp :: sps, w :: ws =>
    let p := sp acc
    if outOfSet p.kind (wordInt (isSigned p.kind) w) then
      .refused (cl ++ [{ field := id, requested := w, applied := 0xFFFFFFFF, reason := .selector }])
    else
      let (x, c) := clampField id w p
      checkFields (id + 1) (acc ++ [x]) (cl ++ c.toList) sps ws
  | _, _ => .ok acc cl

/-- A field that does not depend on earlier ones. -/
def fixedSpec (k : Kind) : Fields → Spec := fun _ => { kind := k }

/-- Shorthands for field tables: any value, a selector, a number 0 or 1, a number not clamped, a clamped one. -/
def pAny : Fields → Spec := fixedSpec (.any)
def pSel (ok : List Nat) : Fields → Spec := fixedSpec (.sel ok)
def pFlag : Fields → Spec := fixedSpec (.num 0 1)
def pFix (lo hi : Int) : Fields → Spec := fixedSpec (.fixed lo hi)
def pNum (lo hi : Int) (step : Int := 1) (signed : Bool := false) : Fields → Spec :=
  fixedSpec (.num lo hi step signed)

/-- A clamped number with a relation to earlier fields. -/
def pCross (lo hi : Int) (step : Int) (x : Fields → Int → Int) (signed : Bool := false) :
    Fields → Spec :=
  fun f => { kind := .num lo hi step signed, cross := x f }

/-- A field that is checked only when an earlier field asks for it; otherwise any value stands. -/
def pWhen (c : Fields → Bool) (p : Fields → Spec) : Fields → Spec :=
  fun f => if c f then p f else { kind := .any }

/-- What an action gives: the state, result words, and a status other than OK. -/
structure Res where
  s : State
  words : List Word := []
  status : Option Status := none

/-- An opcode: its class (R59), its parameter block, its checks and its action. The checks of stages 9
and 14 that look at fields and objects are in `post`, which R78 judges again at the effect boundary;
refusals that its chapter gives beside them are in `once`. -/
structure Op where
  opcode : Nat
  framed : Bool := false
  background : Bool := false
  /-- it only reads (R112 "read only") -/
  reads : Bool := false
  /-- stage 9: the context id is one the opcode takes; by default it must be device-wide -/
  ctxOk : Cmd → State → Bool := fun c _ => decide (c.ctx = 0xFFFF)
  /-- stage 9: what it asks of its own context as it stands, no pending command counted (R193) -/
  now : Cmd → State → Bool := fun _ _ => true
  /-- the timebase of the context or composition it names (R72); none for a device-wide command -/
  target : Cmd → State → Option Nat := fun _ _ => none
  needsTime : Cmd → State → Bool := fun _ _ => false
  specs : Cmd → State → List (Fields → Spec) := fun _ _ => []
  /-- words beyond the fields: a chunk, a wrapped key, stored packets -/
  extra : Cmd → Nat → Bool := fun _ n => n == 0
  once : Cmd → Fields → State → Option Status := fun _ _ _ => none
  post : Cmd → Fields → State → Option Status := fun _ _ _ => none
  busy : Cmd → Fields → State → Bool := fun _ _ _ => false
  /-- the media tile that has to close first (R451); none when the command acts at once -/
  park : Cmd → Fields → State → Option Nat := fun _ _ _ => none
  /-- what acceptance reserves at once, before the effect (R157, R192) -/
  accept : Cmd → Fields → State → State := fun _ _ s => s
  apply : Cmd → Fields → State → Res
  /-- what follows the reply -/
  after : Cmd → Fields → State → State := fun _ _ s => s

end Sys2Proof.Machine
end

