-- ==== Sys2Proof/Machine/Units.lean ====
section
/-! DEFINITION. Raster event units: their positions and firing, and the units that the firmware holds
(R155 to R157). -/

namespace Sys2Proof.Machine

/-- Event unit `i`. -/
def unitOf (s : State) (i : Nat) : EvUnit := tget {} s.bel.units i

/-- The state with event unit `i` set. -/
def setUnit (i : Nat) (u : EvUnit) (s : State) : State :=
  { s with bel := { s.bel with units := tset {} s.bel.units i u } }

/-- The largest frame count of a timebase whose position at a line and sample, plus a delay, has come. -/
def reached (s : State) (tb : Nat) (line sample delay : Int) : Int :=
  let t := tbD s tb
  let now := heldNs s t - delay
  let n := idealCount t.rate now
  let m := if positionNs t (n + 1) line sample ≤ now then n + 1
    else if positionNs t n line sample ≤ now then n else n - 1
  m + t.offset

/-- The newest frame a unit's fields call for that has come (R155): every frame, every k-th at its phase,
or the one frame named. Fields 2 to 11 of 0x0220 are numbered from 1 here. -/
def unitFrame (s : State) (f : Fields) : Option Int :=
  let n := reached s (fnat f 1) (fld f 2) (fld f 3) (fld f 8)
  let c : Int := fld f 6 + fld f 7 * 2 ^ 32
  match fnat f 4 with
  | 0 => some n
  | 1 => some (n - (n - c) % max 1 (fld f 5))
  | _ => if c ≤ n then some c else none

/-- The frame a unit has to fire for now, once (R156). -/
def unitDue (s : State) (u : EvUnit) : Option Int :=
  match unitFrame s u.f with
  | none => none
  | some n => match u.fired with
    | none => some n
    | some m => if m < n then some n else none

/-- The ticks by which a unit that has to fire is late (R155), none for one that has not. -/
def unitLate (s : State) (u : EvUnit) : Option Nat :=
  if u.holder = .free ∨ (tbOf s (fnat u.f 1)).isNone then none
  else (unitDue s u).map fun n =>
    let t := tbD s (fnat u.f 1)
    let at' := positionNs t (n - t.offset) (fld u.f 2) (fld u.f 3) + fld u.f 8
    ((clockUnits s - t.corr - at' * nsUnits) / (s.bel.incr.toNat * 10000)).toNat

/-- A unit put behind those that are as late or later. -/
def insLate (x : Nat × Nat) : List (Nat × Nat) → List (Nat × Nat)
  | [] => [x]
  | y :: t => if y.2 < x.2 then x :: y :: t else y :: insLate x t

/-- The units that have to fire, in the order of their ticks, and those of one tick in ascending index (R156). -/
def fireOrder (s : State) : List Nat :=
  ((s.bel.units.filterMap fun (i, u) => (unitLate s u).map fun l => (i, l)).foldl (fun l x => insLate x l) []).map (·.1)

/-- A unit's fields set now: frames whose position has already passed do not fire. -/
def armUnit (s : State) (h : Holder) (f : Fields) (targets : List Nat) : EvUnit :=
  { holder := h, f := f, targets := targets, fired := unitFrame s f }

/-- The fields of a unit that the firmware sets to fire every frame: from field 2 on. -/
def fwFields (tb : Nat) (line : Int) (delay : Nat) (action : Nat) : Fields :=
  [tb, line, 0, 0, 1, 0, 0, delay, action, 0]

/-- The firmware's unit with these fields, when it holds one. -/
def fwShared (s : State) (f : Fields) : Option Nat :=
  (List.range 256).find? fun i => (unitOf s i).holder = .firmware && (unitOf s i).f = f

/-- The highest-numbered free unit (R157). -/
def fwFree (s : State) : Option Nat :=
  ((List.range 256).reverse).find? fun i => (unitOf s i).holder = .free

/-- The firmware takes a unit for a target, shared with every target of the same position and action; none
when no unit is free (R155, R157). -/
def fwTake (f : Fields) (target : Nat) (s : State) : Option State :=
  match fwShared s f with
  | some i =>
    let u := unitOf s i
    some (setUnit i { u with targets := if target ∈ u.targets then u.targets else u.targets ++ [target] } s)
  | none => (fwFree s).map fun i => setUnit i (armUnit s .firmware f [target]) s

/-- The firmware no longer needs, for a context, any unit of its release or launch-time set but those with the fields
`keep`; a unit without targets is released (R155, R156). -/
def fwDropBut (keep : List Fields) (c : Nat) (s : State) : State :=
  { s with bel := { s.bel with units := tmap {} s.bel.units fun _ u =>
      if u.holder = .firmware ∧ (fnat u.f 9 = 2 ∨ fnat u.f 9 = 5) ∧ u.f ∉ keep then
        let ts := u.targets.filter (· ≠ c)
        if ts = [] then {} else { u with targets := ts }
      else u } }

/-- The firmware no longer needs the units of a context. -/
def fwDropCtx (c : Nat) (s : State) : State := fwDropBut [] c s

end Sys2Proof.Machine
end

