-- ==== Sys2Proof/Machine/Engine.lean ====
section
/-! DEFINITION. The command processor: the stages of R63, timing (R72 to R78), pending commands (R488,
R489), replies, completion records and kept records. The table of opcodes is an argument, so that
`Commands.lean` can give it once every chapter's opcodes are defined. -/

namespace Sys2Proof.Machine

/-- The opcode table. -/
abbrev OpTable := Nat → Option Op

/-- A transport's code: field 2 of R103. -/
def viaCode : Via → Nat
  | .ring r => r
  | .mgmt => 8
  | .inband => 9
  | .store _ => 10

/-- The packet comes from the startup store. -/
def isStored : Via → Bool
  | .store _ => true
  | _ => false

/-- The ring whose commands a transport's commands wait behind (R83, R88, R117). -/
def viaRing : Via → Nat
  | .ring r => r
  | .mgmt => 7
  | .inband => 6
  | .store _ => 0

/-- The family of an opcode (R59). -/
def family (opcode : Nat) : Nat := opcode / 256

/-- The device state allows the opcode (R112); while the recovery image runs, only the System,
Diagnostics and Firmware and Keep families are taken (R115). -/
def stateAllows (op : Op) (s : State) : Bool :=
  let fam := family op.opcode
  let all := fam ∈ [0x01, 0x0F]
  (if s.dev.image = 2 then decide (fam ∈ [0x01, 0x0B, 0x0F]) else true) &&
  match s.dev.state with
  | .off | .boot => false
  | .train => all || decide (fam ∈ [0x02, 0x03]) || (decide (fam = 0x0B) && op.reads)
  | .standby | .run | .degraded => true
  | .safe => all || decide (fam = 0x0B) || (decide (fam = 0x09) && op.reads)

/-! ## Pending commands (R76 to R78, R488, R489, R507) -/

/-- The effect of a pending command on the state. -/
def applyPend (ops : OpTable) (p : Pend) (s : State) : State :=
  match ops p.opcode with
  | some op => (op.apply p.cmd p.f s).s
  | none => s

/-- The state that a check of stage 9 or 14 sees (R488): the given pending commands, in acceptance
order, count as in effect. A profile is no object that R488 counts: R21 has its own rule. -/
def project (ops : OpTable) (ps : List Pend) (s : State) : State :=
  (ps.filter fun p => p.opcode ≠ 0x0901).foldl (fun t p => applyPend ops p t) s

/-- A pending close of the context that a Contexts command names, at the boundary of that command: the command
still applies (R220). Opens and closes are judged by what the close leaves. -/
def meetsClose (op : Op) (c : Cmd) (at' : Int) (p : Pend) : Bool :=
  p.opcode = 0x0502 && p.cmd.ctx = c.ctx && p.at' = at' && decide (family op.opcode = 5) &&
    decide (op.opcode ∉ [0x0501, 0x0502, 0x0540])

/-- The pending commands that R488 counts for a command's effect at local instant `at'`. -/
def counted (op : Op) (c : Cmd) (s : State) (at' : Int) : List Pend :=
  s.cmd.pend.filter fun p => p.at' ≤ at' && !meetsClose op c at' p

/-- The clock has reached a pending command's effect boundary. -/
def boundaryReached (s : State) (p : Pend) : Bool := decide ((p.frame : Int) ≤ countNow s (tbD s p.tb))

/-- The CMD_CANCELLED record of a pending command (R507). -/
def cancelRecord (p : Pend) (cause : Nat) : List Byte :=
  leBytes 2 p.opcode ++ [BitVec.ofNat 8 (viaCode p.cmd.via), BitVec.ofNat 8 cause] ++
    leBytes 4 p.cmd.tag.toNat ++ leBytes 8 p.frame ++ leBytes 2 p.tb ++ leBytes 2 0

/-- The pending commands that depend on any of `ids`, directly or through others: one pass a command is
enough, since a command only relies on commands accepted before it (R489). -/
def dependents (ids : List Nat) (ps : List Pend) : List Nat :=
  ps.foldl (fun acc p => if p.relied.any (· ∈ acc) then acc ++ [p.id] else acc) ids

/-- An open command is cancelled: its context returns to CLOSED (R202). -/
def undoOpen (p : Pend) (s : State) : State :=
  if (p.opcode = 0x0501 ∨ p.opcode = 0x0540) ∧ (tget {} s.ctxs p.cmd.ctx).st = .opening then
    fwDropCtx p.cmd.ctx { s with ctxs := tset {} s.ctxs p.cmd.ctx {} }
  else s

/-- One pending command cancelled: removed and reported. -/
def cancelOne (p : Pend) (cause : Nat) (s : State) : State :=
  undoOpen p <| emit 0x01E2 p.cmd.ctx (viaCode p.cmd.via) (cancelRecord p cause)
    { s with cmd := { s.cmd with pend := s.cmd.pend.filter fun q => q.id ≠ p.id } }

/-- The pending commands that satisfy `sel` cancelled with the given cause, and with them those that
relied on them, cause 4 (R78, R489). -/
def cancelPend (sel : Pend → Bool) (cause : Nat) (s : State) : State :=
  let first := (s.cmd.pend.filter sel).map (·.id)
  let all := dependents first s.cmd.pend
  s.cmd.pend.foldl (fun t p =>
    if p.id ∈ first then cancelOne p cause t
    else if p.id ∈ all then cancelOne p 4 t
    else t) s

/-- How many commands `cancelPend` would cancel. -/
def cancelCount (sel : Pend → Bool) (s : State) : Nat :=
  let all := dependents ((s.cmd.pend.filter sel).map (·.id)) s.cmd.pend
  (s.cmd.pend.filter fun p => p.id ∈ all).length

/-- A close of its context is pending that takes effect at or before a pending open (R202). -/
def closeFirst (p : Pend) (s : State) : Bool :=
  (p.opcode = 0x0501 || p.opcode = 0x0540) &&
    s.cmd.pend.any fun q => q.opcode = 0x0502 && q.cmd.ctx = p.cmd.ctx && q.at' ≤ p.at'

/-- A pending command taken out of the table. -/
def dropPend (sel : Pend → Bool) (s : State) : State :=
  { s with cmd := { s.cmd with pend := s.cmd.pend.filter fun q => !sel q } }

/-- A Contexts command whose context closed at its own boundary before its turn (R220). -/
def afterClose (p : Pend) (s : State) : Bool :=
  decide (family p.opcode = 5) && decide (p.opcode ∉ [0x0501, 0x0502, 0x0540]) &&
    decide ((p.cmd.ctx, p.at') ∈ s.cmd.closed)

/-- A pending command takes effect, or is cancelled with cause 5 when a check of stage 9 or 14 that it
passed at acceptance would now fail (R78). An open that a close meets is cancelled, and a close of the same
boundary has then taken effect (R202). A command that meets the close of its context applies all the same, where
anything of the context is left (R220). -/
def effectPend (ops : OpTable) (p : Pend) (s : State) : State :=
  match ops p.opcode with
  | none => s
  | some op =>
    if closeFirst p s then
      dropPend (fun q => q.opcode = 0x0502 && q.cmd.ctx = p.cmd.ctx && q.at' = p.at')
        (cancelPend (fun q => q.id = p.id) 1 s)
    else if afterClose p s then
      if (tget {} s.ctxs p.cmd.ctx).st = .closed then dropPend (fun q => q.id = p.id) s
      else (op.apply p.cmd p.f (dropPend (fun q => q.id = p.id) s)).s
    else if op.ctxOk p.cmd s && (op.post p.cmd p.f s).isNone && stateAllows op s then
      (op.apply p.cmd p.f (dropPend (fun q => q.id = p.id) s)).s
    else cancelPend (fun q => q.id = p.id) 5 s

/-- The pending commands of boundary `n` of timebase `tb`, in acceptance order. -/
def dueAt (tb : Nat) (n : Int) (s : State) : List Pend :=
  s.cmd.pend.filter fun p => p.tb = tb ∧ (p.frame : Int) ≤ n

/-- Every command due at a boundary takes effect in acceptance order (R77); one that an earlier one's
cancellation took away does nothing. -/
def effectAll (ops : OpTable) (tb : Nat) (n : Int) (s : State) : State :=
  (dueAt tb n s).foldl (fun t p => if t.cmd.pend.any (·.id = p.id) then effectPend ops p t else t) s

/-! ## Timing (R72 to R75) -/

/-- Where a framed command takes effect: at once, or at boundary `n` of a timebase. -/
inductive Effect where
  | now
  | at' (tb : Nat) (n : Int)

/-- One millisecond in correction units. -/
def oneMs : Int := 1000000 * nsUnits

/-- The effect of a framed command (R72 to R74), none where its header's timebase fails stage 10 of R63;
`all` is the state with every pending command in effect, where the own timebase of an object that only they
configure is found. -/
def effectOf (op : Op) (c : Cmd) (all s : State) : Option Effect :=
  if !op.framed then some .now
  else if c.applyAt then
    if c.tb < 16 ∧ (tbOf s c.tb).isSome then
      let tb := (op.target c all).getD c.tb
      some (.at' tb (boundaryAfter s tb (boundaryAt s c.tb c.frame)))
    else none
  else
    let own := (op.target c all).getD 0
    match (if (tbOf s own).isSome then some own else lowestTb s) with
    | none => some .now
    | some tb => some (.at' tb (boundaryAfter s tb (clockUnits s + oneMs)))

/-- Stages 11 and 12 of R63: valid time where the opcode or APPLY_AT needs it, and the window of R74. -/
def timingFails (op : Op) (c : Cmd) (e : Effect) (s : State) : Option Status :=
  let timed := op.framed && c.applyAt
  if (timed || op.needsTime c s) && !validTime s then some .notLocked
  else match e with
    | .now => none
    | .at' tb n =>
      let t := boundaryAt s tb n
      let last := countNow s (tbD s c.tb) + 2147483648
      if timed && !decide (clockUnits s + oneMs ≤ t ∧ t ≤ boundaryAt s c.tb last) then some .refused else none

/-- The local instant of an effect. -/
def effectInstant (s : State) : Effect → Int
  | .now => clockUnits s
  | .at' tb n => boundaryAt s tb n

/-! ## Judging a packet that has passed stages 1 to 7 -/

/-- The outcome of stages 8 to 15. -/
inductive Verdict where
  | fail (st : Status) (clamps : List Clamp)
  | pass (f : Fields) (clamps : List Clamp) (e : Effect)

/-- The checks of stages 9 and 14 on a state. -/
def objectCheck (op : Op) (c : Cmd) (f : Fields) (t : State) : Option Status :=
  if !op.ctxOk c t then some .badState else op.post c f t

/-- The pending commands without which the checks fail (R489). -/
def reliedOn (ops : OpTable) (op : Op) (c : Cmd) (f : Fields) (ps : List Pend) (s : State) : List Nat :=
  (ps.filter fun p =>
    (objectCheck op c f (project ops (ps.filter fun q => q.id ≠ p.id) s)).isSome).map (·.id)

/-- A pending profile command that one with change boundary `at'` replaces (R21). Boundaries of two timebases at one
local instant count as one change boundary (DESIGN CHOICE, log entry 89). -/
def replacedBy (opcode : Nat) (at' : Int) (p : Pend) : Bool :=
  decide (opcode = 0x0901 ∧ p.opcode = 0x0901 ∧ p.at' = at')

/-- The pending commands that stay when a command with effect instant `at'` joins them. -/
def standing (opcode : Nat) (at' : Int) (s : State) : List Pend :=
  s.cmd.pend.filter fun p => !replacedBy opcode at' p

/-- Stages 13 to 15. -/
def judgeFields (ops : OpTable) (op : Op) (c : Cmd) (e : Effect) (s : State) : Verdict :=
  let t := project ops (counted op c s (effectInstant s e)) s
  match checkFields 1 [] [] (op.specs c t) c.params with
  | .refused cl => .fail .refused cl
  | .ok f cl =>
    match op.once c f t with
    | some st => .fail st []
    | none =>
      match objectCheck op c f t with
      | some st => .fail st []
      | none =>
        match e with
        | .at' _ _ =>
          if 1024 ≤ (standing op.opcode (effectInstant s e) s).length then .fail .noResource []
          else if op.busy c f s || (op.background && decide (2 ≤ s.cmd.jobs.length)) then .fail .busy []
          else .pass f cl e
        | .now =>
          if op.busy c f s || (op.background && decide (2 ≤ s.cmd.jobs.length)) then .fail .busy []
          else .pass f cl e

/-- Stages 8 to 15 of R63, in order. Stage 9 counts the pending commands whose boundaries lie at or before
that of the command (R488); it and stage 10 fail with one status. -/
def judge (ops : OpTable) (op : Op) (c : Cmd) (s : State) : Verdict :=
  let n := (op.specs c s).length
  if c.params.length < n || !op.extra c (c.params.length - n) then .fail .badLength []
  else if !stateAllows op s then .fail .badState []
  else
    match effectOf op c (project ops s.cmd.pend s) s with
    | none => .fail .badState []
    | some e =>
      if !op.now c s || !op.ctxOk c (project ops (counted op c s (effectInstant s e)) s) then .fail .badState []
      else
        match timingFails op c e s with
        | some st => .fail st []
        | none => judgeFields ops op c e s

/-! ## Replies (R60, R67, R71, R81, R84, R87) -/

/-- The reply of a command, before any transport. -/
def replyOf (op : Nat) (c : Cmd) (st : Status) (cl : List Clamp) (eff : Option Word)
    (words : List Word) : Reply :=
  { opcode := op, status := st, tag := c.tag, effect := eff, fenced := c.fence
    auth := if c.auth then some (c.counter, c.key) else none, clamps := cl, result := words }

/-- NO_REPLY met status OK (R67). -/
def suppressed (c : Cmd) (r : Reply) : Bool := c.noReply && decide (r.status = .ok)

/-- The kept record of the packet filled with its reply (R84). -/
def keepReply (c : Cmd) (r : Reply) (s : State) : State :=
  { s with cmd := { s.cmd with kept := s.cmd.kept.map fun k =>
      if k.src = c.src ∧ k.tag = c.tag ∧ k.crc = c.crc ∧ k.reply = none then { k with reply := some r }
      else k } }

/-- The CLAMPED event of a reply (R71, R508). -/
def clampedEvent (c : Cmd) (r : Reply) (s : State) : State :=
  if r.status = .okClamped then
    emit 0x01E0 c.ctx (viaCode c.via)
      (leBytes 2 r.opcode ++ [BitVec.ofNat 8 (viaCode c.via), 0] ++ leBytes 4 c.tag.toNat ++
        leBytes 2 r.clamps.length ++ leBytes 2 0) s
  else s

/-- The reply sent on the command's transport. A stored packet's reply goes to the startup log
alone (R117); a ring's reply goes to the descriptor's reply address, cut at its capacity (R81). -/
def sendReply (c : Cmd) (r : Reply) (s : State) : State :=
  if suppressed c r then s
  else
    match c.via with
    | .store _ => s
    | .ring _ =>
      if c.capacity = 0 then s
      else send (.reply c.via c.src c.replyAddr r (replyCut c.capacity r)) s
    | _ => send (.reply c.via c.src 0 r (replyWire r false)) (keepReply c r s)

/-- The reply and its CLAMPED event. -/
def deliver (c : Cmd) (r : Reply) (s : State) : State := sendReply c r (clampedEvent c r s)

/-! ## Running a packet -/

/-- The status of an accepted command: clamps first, then a status its action gives. -/
def acceptStatus (cl : List Clamp) (st : Option Status) : Status :=
  if cl = [] then st.getD .ok else .okClamped

/-- A background command handed to its control core; it blocks its ring (R89). -/
def startJob (op : Op) (c : Cmd) (f : Fields) (cl : List Clamp) (s : State) : State :=
  let id := s.cmd.nextId
  let r := viaRing c.via
  { s with cmd := { s.cmd with
      nextId := id + 1
      jobs := s.cmd.jobs ++ [{ id, opcode := op.opcode, cmd := c, f, clamps := cl }]
      rings := tmod {} s.cmd.rings r fun g => { g with blocked := some id } } }

/-- A lane command that waits for a tile's DMA channels to pause (R451); it blocks its ring. -/
def parkJob (tile : Nat) (op : Op) (c : Cmd) (f : Fields) (cl : List Clamp) (s : State) : State :=
  let id := s.cmd.nextId
  let j : Job := { id, opcode := op.opcode, cmd := c, f, clamps := cl }
  { s with
    cmd := { s.cmd with
      nextId := id + 1
      rings := tmod {} s.cmd.rings (viaRing c.via) fun g => { g with blocked := some id } }
    lanes := { s.lanes with closing := s.lanes.closing ++ [(tile, s.tick, j)] } }

/-- A command placed in the pending table (R76); a profile command takes the place of one with the same change
boundary (R21). -/
def pushPend (ops : OpTable) (op : Op) (c : Cmd) (f : Fields) (tb : Nat) (n : Int) (s : State) : State :=
  let at' := boundaryAt s tb n
  let p : Pend := { id := s.cmd.nextId, opcode := op.opcode, cmd := c, f, tb, frame := n.toNat, at'
                    relied := reliedOn ops op c f (counted op c s at') s }
  let s := op.accept c f s
  { s with cmd := { s.cmd with nextId := s.cmd.nextId + 1, pend := standing op.opcode at' s ++ [p] } }

/-- What the action of an accepted command gives, its reply, and what follows it. -/
def act (op : Op) (c : Cmd) (f : Fields) (cl : List Clamp) (s : State) : State × Reply :=
  let r := op.apply c f s
  (r.s, replyOf op.opcode c (acceptStatus cl r.status) cl none r.words)

/-- A firmware fault strikes a command on control core `core` (R62, R99): it is logged and told, nothing of the
command is applied, and it is answered INTERNAL. -/
def faulted (op : Op) (c : Cmd) (core : Nat) (s : State) : State × Option Reply × (State → State) :=
  (internalEvent 1 core c.ctx op.opcode c.tag s, some (replyOf op.opcode c .internal [] none []), id)

/-- An accepted background command is handed over: its fault, if one strikes it, comes when it finishes. -/
def handedOver (op : Op) : Effect → Bool
  | .now => op.background
  | .at' _ _ => false

/-- Stages 8 to 15, the effect and the reply of a packet that has passed stages 1 to 7: the state
before anything is sent, the reply if one is due now, and what follows the reply. -/
def runOp (ops : OpTable) (op : Op) (c : Cmd) (s : State) : State × Option Reply × (State → State) :=
  match judge ops op c s with
  | .fail st cl => (s, some (replyOf op.opcode c st cl none []), id)
  | .pass f cl e =>
    match (if handedOver op e then none else c.fault) with
    | some core => faulted op c core s
    | none =>
    match e with
    | .at' tb n =>
      (pushPend ops op c f tb n s,
        some (replyOf op.opcode c (acceptStatus cl none) cl (some (BitVec.ofInt 32 n)) []), id)
    | .now =>
      if op.background then (startJob op c f cl (op.accept c f s), none, id)
      else
        match op.park c f s with
        | some t => (parkJob t op c f cl s, none, id)
        | none =>
          let (t, r) := act op c f cl (op.accept c f s)
          (t, some r, op.after c f)

/-- A packet run and its reply delivered. -/
def runCmd (ops : OpTable) (op : Op) (c : Cmd) (s : State) : State :=
  let (t, r, k) := runOp ops op c s
  match r with
  | none => t
  | some r => k (deliver c r t)

/-! ## Packets as bytes (R55 to R58, R63 stages 1 to 7) -/

/-- The 16-bit field at a byte offset. -/
def le16 (l : List Byte) (i : Nat) : Nat := ofLe (slice l i 2)

/-- The command a packet's bytes spell, with its transport's particulars. -/
def packetCmd (via : Via) (src : Endpoint) (path capacity replyAddr : Nat) (l : List Byte) : Cmd :=
  let flags := (l.getD 3 0).toNat
  let len := le16 l 6
  { via, src, path
    auth := bit flags 0, noReply := bit flags 1, fence := bit flags 2, applyAt := bit flags 3
    counter := ofLe (slice l (32 + 4 * len) 8)
    tag := natWord (ofLe (slice l 8 4)), ctx := le16 l 12, tb := le16 l 14
    frame := ofLe (slice l 16 8)
    capacity, replyAddr, crc := natWord (ofLe (slice l 28 4))
    params := toWords (slice l 32 (4 * len)) }

/-- Stage 1 of R63: at least 32 bytes and the magic number. -/
def stage1 (l : List Byte) : Bool := decide (32 ≤ l.length ∧ le16 l 0 = 0x5A48)

/-- The largest packet of a transport (R58). -/
def largest : Via → Nat
  | .mgmt | .inband => 65504
  | _ => 65536

/-- Stage 2 of R63: the size agrees with Length and AUTH and is within R58. -/
def stage2 (via : Via) (l : List Byte) : Bool :=
  let n := 32 + 4 * le16 l 6 + (if bit (l.getD 3 0).toNat 0 then 40 else 0)
  decide (l.length = n ∧ n ≤ largest via)

/-- Stage 3 of R63. -/
def stage3 (l : List Byte) : Bool :=
  decide (crc32 (l.take 28 ++ slice l 32 (4 * le16 l 6)) = natWord (ofLe (slice l 28 4)))

/-- The command key of a family (R85). -/
def keyOf (k : Keep) (fam : Nat) : Key :=
  if fam = 0x0A then k.lantern else if fam = 0x0F then k.firmware else k.general

/-- AUTH is required by the family (R59) or by the transport's policy (R129). -/
def authRequired (k : Keep) (via : Via) (fam : Nat) : Bool :=
  decide (fam = 0x0A ∨ fam = 0x0F) ||
    match via with
    | .ring _ => k.authPcie
    | .mgmt => k.authMgmt
    | .inband => k.authInband
    | .store _ => false

/-- Stage 5 of R63. -/
def stage5 (k : Keep) (via : Via) (l : List Byte) : Bool :=
  let fam := (l.getD 5 0).toNat
  if bit (l.getD 3 0).toNat 0 then
    match (keyOf k fam).key with
    | none => false
    | some key =>
      let n := 40 + 4 * le16 l 6
      decide (hmac key (l.take n) = slice l n 32)
  else !authRequired k via fam

/-- Stage 6 of R63: the counter is above the last accepted one of its key (R85). -/
def stage6 (k : Keep) (l : List Byte) : Bool :=
  !bit (l.getD 3 0).toNat 0 ||
    decide ((keyOf k (l.getD 5 0).toNat).counter < ofLe (slice l (32 + 4 * le16 l 6) 8))

/-- The stored counter of the packet's key advanced (R85). -/
def acceptCounter (l : List Byte) (s : State) : State :=
  let fam := (l.getD 5 0).toNat
  let n := ofLe (slice l (32 + 4 * le16 l 6) 8)
  if !bit (l.getD 3 0).toNat 0 then s
  else if fam = 0x0A then
    { s with keep := { s.keep with lantern := { s.keep.lantern with counter := n } } }
  else if fam = 0x0F then
    { s with keep := { s.keep with firmware := { s.keep.firmware with counter := n } } }
  else { s with keep := { s.keep with general := { s.keep.general with counter := n } } }

/-- A packet's reply for a failure of stages 2 to 7; only a packet that passed stage 5 is answered
as authenticated (R87). -/
def earlyReply (c : Cmd) (l : List Byte) (st : Status) (auth : Bool) : Reply :=
  let r := replyOf (le16 l 4) c st [] none []
  if auth then r else { r with auth := none }

/-- Stages 2 to 15 of a packet in bytes, its effect and reply; none of the reply while a background
command runs. Stored packets pass stages 5 and 6 unchecked, and those of families 0x0A and 0x0F are
not executed, whatever else is wrong with them (R117). -/
def runBytes (ops : OpTable) (c : Cmd) (l : List Byte) (s : State) :
    State × Option Reply × (State → State) :=
  let no (s : State) (st : Status) (auth : Bool) : State × Option Reply × (State → State) :=
    (s, some (earlyReply c l st auth), id)
  let stored := isStored c.via
  let fam := (l.getD 5 0).toNat
  let c := { c with key := (keyOf s.keep fam).key.getD [] }
  if stored && decide (fam = 0x0A ∨ fam = 0x0F) then no s .refused false
  else if !stage2 c.via l then no s .badLength false
  else if !stage3 l then no s .crcMismatch false
  else if l.getD 2 0 ≠ 1 then no s .badOpcode false
  else if !stored && !stage5 s.keep c.via l then
    no (raise 14 0 (bump 0xE0008 1 s)) .authFail false
  else if !stored && !stage6 s.keep l then
    no (raise 14 1 (bump 0xE000C 1 s)) .replay true
  else
    let s := if stored then s else acceptCounter l s
    let c := if stored then { c with auth := false } else c
    match ops (le16 l 4) with
    | none => no s .badOpcode true
    | some op => runOp ops op c s

/-! ## The startup store (R105, R117, R118) -/

/-- The low word of timebase 0's frame count, or 0 when it is not configured (R105). -/
def logFrame (s : State) : Word :=
  if (tbOf s 0).isSome then BitVec.ofInt 32 (rasterCount s 0) else 0

/-- A log entry put in place of an earlier one of its position. -/
def logPut (e : LogEntry) (s : State) : State :=
  { s with cmd := { s.cmd with log := s.cmd.log.filter (fun x => x.pos ≠ e.pos) ++ [e] } }

/-! ## Command rings (R79 to R81, R88) -/

/-- A ring. -/
def ringOf (s : State) (r : Nat) : Ring := tget {} s.cmd.rings r

/-- The state with ring `r` changed. -/
def modRing (r : Nat) (f : Ring → Ring) (s : State) : State :=
  { s with cmd := { s.cmd with rings := tmod {} s.cmd.rings r f } }

/-- The highest-numbered ring that has a command waiting and is not blocked (R88, R89). -/
def topRing (s : State) : Option Nat :=
  [7, 6, 5, 4, 3, 2, 1, 0].find? fun r =>
    (ringOf s r).blocked.isNone && !(ringOf s r).queue.isEmpty

/-- A completion record and the ring's MSI-X message (R81): the consumer index moves on, and the phase
bit inverts at the end of each pass. -/
def completeRing (r : Nat) (tag : Word) (st : Status) (clamps len : Nat) (s : State) : State :=
  let g := ringOf s r
  let cons := g.consumer + 1
  let s := send (.completion r (recordAddr g g.consumer)
    (completionWire r tag st clamps cons.toNat g.phase len)) s
  let s := modRing r (fun g => { g with
    consumer := cons
    phase := if cons.toNat % 2 ^ g.sizeLog2 = 0 then !g.phase else g.phase }) s
  if g.msix then sendMsix r s else s

/-! ## The startup store's run (R117, R118) -/

/-- The packets of the startup store from position `i` on placed in ring 0's queue. -/
def queueStore (i : Nat) (s : State) : State :=
  let items := ((List.range s.keep.store.length).drop i).map fun j => QItem.stored j (s.keep.store.getD j [])
  modRing 0 (fun g => { g with queue := g.queue ++ items }) { s with cmd := { s.cmd with paused := none } }

/-- A stored packet that has not run. -/
def QItem.isStored : QItem → Bool
  | .stored _ _ => true
  | _ => false

/-- The store pauses at position `i`: the packets after it leave the queue until it resumes (R118). -/
def pauseStore (i : Nat) (s : State) : State :=
  modRing 0 (fun g => { g with queue := g.queue.filter fun q => !q.isStored })
    { s with cmd := { s.cmd with paused := some i } }

/-- The log entry of a stored packet that has run (R105), and the pause at one answered NOT_LOCKED (R118). -/
def logStored (i : Nat) (c : Cmd) (r : Reply) (s : State) : State :=
  let s := logPut { pos := i, opcode := r.opcode, tag := c.tag, status := r.status
                    clamps := r.clamps.length, frame := logFrame s } s
  if r.status = .notLocked then pauseStore i s else s

/-- What a finished command owes beside its reply: the completion record of a PCIe ring (R81), the log entry of a
stored packet (R117). -/
def finishCmd (c : Cmd) (r : Reply) (s : State) : State :=
  match c.via with
  | .ring n => completeRing n c.tag r.status r.clamps.length
      (if suppressed c r then 0 else replyBytes r) s
  | .store i => logStored i c r s
  | _ => s

/-- The ring that command `j` blocked still waits for it: a reset of the PCIe rings forgets it (R120). -/
def ringHolds (j : Job) (s : State) : Bool := decide ((ringOf s (viaRing j.cmd.via)).blocked = some j.id)

/-- Command `j`'s ring goes on. -/
def unblock (j : Job) (s : State) : State :=
  if ringHolds j s then modRing (viaRing j.cmd.via) (fun g => { g with blocked := none }) s else s

/-- The answer of a command that blocked its ring, which gets its reply and its record while the ring waits for
it. -/
def answerJob (held : Bool) (c : Cmd) (r : Reply) (s : State) : State :=
  if held then finishCmd c r (deliver c r s) else clampedEvent c r s

end Sys2Proof.Machine
end

