-- ==== Sys2Proof/Machine/Device.lean ====
section
/-! DEFINITION. Device states and their transitions (R106 to R111), the resets (R119 to R124), the
interlock (R397), and what every step settles before it ends. -/

namespace Sys2Proof.Machine

/-- The outcome of a command that runs: the next state. -/
abbrev Ran := Host.Outcome State Fault Refusal

/-- The code of a device state (R106). -/
def stateCode : DevState → Nat
  | .off => 0
  | .boot => 1
  | .train => 2
  | .standby => 3
  | .run => 4
  | .degraded => 5
  | .safe => 6

/-! ## Sensors as R468 and R469 read them -/

/-- Sensor `n`. -/
def sensorOf (s : State) (n : Nat) : Sensor := tget {} s.watch.sensors n

/-- The hottest healthy sensor of a group, the lowest-numbered of equals: index, reading and rate. -/
def hottest (s : State) (group : List Nat) : Option (Nat × Int × Int) :=
  group.foldl (fun best n =>
    let x := sensorOf s n
    if x.fault ≠ 0 then best
    else match best with
      | none => some (n, x.temp, x.rate)
      | some (_, t, _) => if t < x.temp then some (n, x.temp, x.rate) else best) none

/-- The group of a sensor (R466). -/
def groupOf (n : Nat) : List Nat := if n < 16 then List.range 16 else (List.range 16).map (· + 16)

/-- The reading in force, in 1/16 degree C, and the rate of rise in force: a faulted sensor reads 110.0
degrees C with rate 0, or the hottest healthy sensor of its group with the override on. -/
def inForce (s : State) (n : Nat) : Int × Int :=
  let x := sensorOf s n
  if x.fault = 0 then (x.temp, x.rate)
  else if x.override then
    match hottest s (groupOf n) with
    | some (_, t, r) => (t, r)
    | none => (1760, 0)
  else (1760, 0)

/-- How many sensors are faulted. -/
def faultedCount (s : State) : Nat := ((List.range 32).filter fun n => (sensorOf s n).fault ≠ 0).length

/-! ## Profiles and Spire steps (R18, R472) -/

/-- The maximum input power of a profile in W (R18). -/
def profileMax (s : State) (p : Nat) : Nat :=
  match spireCount s, p with
  | 16, 0 => 285
  | 16, 1 => 220
  | 16, _ => 150
  | _, 0 => 205
  | _, 1 => 165
  | _, _ => 120

/-- The Spires a profile powers (R18): a count from Spire 0. -/
def profileSpires (s : State) (p : Nat) : Nat := if p = 2 then spireCount s / 2 else spireCount s

/-- The Spire clock of a profile in MHz (R18). -/
def profileClock (p : Nat) : Nat := if p = 0 then 1500 else 1250

/-- The rated budget of a profile in luma samples/s: capacity at Balanced effort times 8/9, rounded down
(R17, R18). -/
def profileBudget (s : State) (p : Nat) : Nat :=
  profileSpires s p * profileClock p * 1500000 * 8 / 9

/-- The throttle step of Spire `i` (R473). -/
def spireStep (s : State) (i : Nat) : Nat := min 6 (max (tget 0 s.watch.therm i) s.watch.power)

/-- The sixteenths of the profile clock that a step leaves (R472). -/
def stepSixteenths : Nat → Nat
  | 0 => 16
  | 1 => 14
  | 2 => 12
  | 3 => 10
  | 4 => 8
  | 5 => 6
  | _ => 4

/-- Spire `i` is powered. -/
def spirePowered (s : State) (i : Nat) : Bool := (tget {} s.camp.spires i).powered

/-- The steps of the powered Spires. -/
def stepsInForce (s : State) : List Nat :=
  (List.range (spireCount s)).map fun i => if spirePowered s i then spireStep s i else 15

/-- The highest step of a powered Spire. -/
def topStep (s : State) : Nat :=
  (List.range (spireCount s)).foldl (fun m i => if spirePowered s i then max m (spireStep s i) else m) 0

/-! ## Device states (R107 to R109) -/

/-- The conditions of R109: time, sensor, path and memory, in that order. -/
def degradedBy (s : State) : Bool × Bool × Bool × Bool :=
  (validTime s && decide (s.bel.ptp.servo ≠ .locked),
   decide (faultedCount s ≠ 0),
   (decide (layoutOf s 0 ≠ 0) && !s.flows.healthA.good) ||
     (decide (layoutOf s 1 ≠ 0) && !s.flows.healthB.good),
   !s.mem.degraded.isEmpty)

/-- Any condition of R109 holds. -/
def impaired (s : State) : Bool :=
  let (a, b, c, d) := degradedBy s
  a || b || c || d

/-- A STATE_CHANGE event (R107): previous state, new state, cause. -/
def stateEvent (x : DevState × DevState × Nat) (s : State) : State :=
  emit 0x01E1 0xFFFF 0 [BitVec.ofNat 8 (stateCode x.1), BitVec.ofNat 8 (stateCode x.2.1),
    BitVec.ofNat 8 x.2.2] s

/-- A change of device state (R107): its interrupt flags and its event; changes made while the command
processor is stopped are owed until it starts, and a change to OFF sends none. -/
def changeState (new : DevState) (cause : Nat) (s : State) : State :=
  let prev := s.dev.state
  if prev = new then s
  else
    let s := raise 0 0 { s with dev := { s.dev with state := new } }
    let s := if new = .degraded then raise 0 1 s else s
    match new with
    | .off => s
    | .boot => { s with dev := { s.dev with owed := s.dev.owed ++ [(prev, new, cause)] } }
    | _ =>
      let owed := s.dev.owed ++ [(prev, new, cause)]
      owed.foldl (fun t x => stateEvent x t) { s with dev := { s.dev with owed := [] } }

/-- Row 8 of R107. -/
def settleDegraded (s : State) : State :=
  if s.dev.state = .run ∧ impaired s then changeState .degraded 8 s else s

/-- Row 9 of R107: judged when the instant is over, so that a condition that clears as another arises leaves
DEGRADED without an event (R108). -/
def settleRecovered (s : State) : State :=
  if s.dev.state = .degraded ∧ !impaired s then changeState .run 9 s else s

/-- A healthy sensor reads the act level or more. -/
def tripHot (s : State) : Bool :=
  (List.range 32).any fun n => (sensorOf s n).fault = 0 && decide (16 * (s.watch.act : Int) ≤ (sensorOf s n).temp)

/-- The refusal of a warm reset after a thermal trip ends once every healthy sensor reads below the act level (R111,
R475). -/
def settleTrip (s : State) : State :=
  if s.dev.tripped && !tripHot s then { s with dev := { s.dev with tripped := false } } else s

/-- Rows 6 and 7 of R107: the first context has opened, or the last one has closed, at its effect boundary
(R108). -/
def settleOpen (s : State) : State :=
  let active := s.ctxs.any fun (_, x) => x.st = .active
  match s.dev.state with
  | .standby => if active then changeState .run 6 s else s
  | .run | .degraded => if active then s else changeState .standby 7 s
  | _ => s

/-! ## The interlock (R397, R400) -/

/-- A Turret's health. -/
def healthOf (s : State) (t : Nat) : Health := if t = 0 then s.flows.healthA else s.flows.healthB

/-- The state with a Turret's health changed. -/
def modHealth (t : Nat) (f : Health → Health) (s : State) : State :=
  if t = 0 then { s with flows := { s.flows with healthA := f s.flows.healthA } }
  else { s with flows := { s.flows with healthB := f s.flows.healthB } }

/-- A health byte of the PATH_SWITCH record (R400). -/
def healthByte (h : Health) : Byte :=
  BitVec.ofNat 8 (b2n h.good + 2 * b2n h.portFail + 4 * b2n h.fecFail + 8 * b2n h.sentFail)

/-- A PATH_SWITCH event (R400). -/
def pathEvent (turret cause : Nat) (s : State) : State :=
  emit 0x03E0 0xFFFF turret
    [BitVec.ofNat 8 (b2n s.flows.selB), BitVec.ofNat 8 cause, healthByte s.flows.healthA,
      healthByte s.flows.healthB] s

/-- The row of R397 that sets the flip-flop: the Turret it selects and its cause. -/
def interlockRow (s : State) : Option (Bool × Nat) :=
  let force := fnat s.flows.lock 3
  let cur := b2n s.flows.selB
  let other := 1 - cur
  let primary := fnat s.flows.lock 1
  let holdUs := fnat s.flows.lock 2 * 1000000
  if s.pins.pathForce then some (true, 3)
  else if force = 1 then some (false, 4)
  else if force = 2 then some (true, 4)
  else if !(healthOf s cur).good && (healthOf s other).good then some (!s.flows.selB, 1)
  else if cur ≠ primary ∧ (healthOf s primary).good ∧ elapsed s (healthOf s primary).goodSince holdUs
  then some (decide (primary = 1), 2)
  else none

/-- The interlock re-evaluated: outside BOOT (R48), the first row that matches sets the flip-flop; a
change raises PATH_SWITCH and sends its event. -/
def interlock (s : State) : State :=
  if s.dev.state = .boot ∨ s.dev.state = .off then s
  else
    match interlockRow s with
    | none => s
    | some (b, cause) =>
      if b = s.flows.selB then s
      else
        pathEvent (b2n b) cause (bump 0x80004 1 <| raise 8 0
          { s with flows := { s.flows with selB := b, lastCause := cause } })

/-! ## What an ingress flow asks of its path (R377, R394) -/

/-- The address of family `v6` that starts at field `i` (R377). -/
def flowAddr (f : Fields) (v6 : Bool) (i : Nat) : Nat := if v6 then addr128 f i else fnat f i

/-- The membership of a path, 0 A, 1 B, else an auxiliary port, for a destination and a source filter: none for
a unicast destination. -/
def memberOf (f : Fields) (path dst src : Nat) : List (Nat × Nat × Nat) :=
  let v6 := decide (fnat f 5 = 1)
  if isGroup v6 (flowAddr f v6 dst) then [(path, flowAddr f v6 dst, flowAddr f v6 src)] else []

/-- The memberships that an ingress flow's fields ask for (R377, R394). -/
def flowMembers (f : Fields) : List (Nat × Nat × Nat) :=
  match fnat f 3 with
  | 0 => memberOf f 0 6 10 ++ memberOf f 1 15 19
  | 1 => memberOf f 0 6 10
  | 2 => memberOf f 1 6 10
  | 3 => memberOf f (16 + fnat f 4) 6 10
  | _ => []

/-! ## Path health (R396) -/

/-- The Turret the PTP port is on, 0 A or 1 B (R136). -/
def ptpPath (s : State) : Nat :=
  match fnat s.bel.ptp.f 3 with
  | 1 => 0
  | 2 => 1
  | _ => b2n s.flows.selB

/-- A selection of Turrets, 0 A, 1 B, else both, takes in the Turret of port `key`. -/
def onTurret (sel key : Nat) : Bool := decide (2 ≤ sel ∨ sel = key / 8)

/-- Port `key` carries an enabled egress flow: protected and exclusive flows name a lane of both Turrets. -/
def carriesEgress (s : State) (key : Nat) : Bool :=
  s.flows.egress.any fun (_, x) => match x with
    | some x => fnat x.f 1 = 1 && fnat x.f 4 = key % 8 && match fnat x.f 3 with
      | 1 => onTurret 0 key
      | 2 => onTurret 1 key
      | 4 => false
      | _ => true
    | none => false


/-- Port `key` carries an enabled ingress flow, or the membership of one that is disabled: a packet of it has
arrived there (R396). -/
def carriesIngress (s : State) (key : Nat) : Bool :=
  s.flows.ingress.any fun (_, x) => match x with
    | some x => (decide (fnat x.f 1 = 1) || flowMembers x.f ≠ []) && decide (key ∈ x.ports)
    | none => false

/-- Port `key` carries a kind 3 subscriber (R101). -/
def carriesSub (s : State) (key : Nat) : Bool :=
  s.cmd.subs.any fun (_, x) => match x with
    | some x => fnat x.f 1 = 3 && fnat x.f 9 = key % 8 && onTurret (fnat x.f 8) key
    | none => false

/-- Port `key` carries something whose loss counts for its Turret's health (R396). -/
def carries (s : State) (key : Nat) : Bool :=
  carriesEgress s key || carriesIngress s key || carriesSub s key ||
    decide (key = 8 * ptpPath s + fnat s.bel.ptp.f 10)

/-- Condition 1 of R396 fails on Turret `t`. -/
def portsFail (s : State) (t : Nat) : Bool :=
  (List.range 8).any fun l =>
    portStart (layoutOf s t) l && carries s (8 * t + l) && !portUp s (8 * t + l)

/-- Every condition of R396 holds on Turret `t`; one whose layout is off is BAD. -/
def healthHolds (s : State) (t : Nat) : Bool :=
  let h := healthOf s t
  decide (layoutOf s t ≠ 0) && !h.portFail && !h.fecFail && !h.sentFail

/-- Condition 1 of Turret `t` as it stands, and since when every condition has held (R396). -/
def refreshTurret (t : Nat) (s : State) : State :=
  let s := modHealth t (fun h => { h with portFail := portsFail s t }) s
  let since := if healthHolds s t then some ((healthOf s t).since.getD s.tick) else none
  modHealth t (fun h => { h with since := since }) s

/-- The Turrets that are GOOD against their conditions. -/
def failing (s : State) : List Nat := [0, 1].filter fun t => (healthOf s t).good && !healthHolds s t

/-- Turret `t` reported BAD: its flag and its event (R396, R400). -/
def reportBad (t : Nat) (s : State) : State := pathEvent t 5 (raise 8 (1 + t) s)

/-- Both Turrets' health brought in line with their conditions (R396): those that fail fall to BAD together, and
then the interlock follows (R397), which with both BAD keeps its selection (R401). -/
def settleTurrets (s : State) : State :=
  let s := refreshTurret 1 (refreshTurret 0 s)
  let bad := failing s
  if bad = [] then s
  else
    let s := bad.foldl (fun s t => modHealth t (fun h => { h with good := false }) s) s
    interlock (bad.foldl (fun s t => reportBad t s) s)

/-! ## Memberships (R394) -/

/-- The memberships of the configured ingress flows, each once. -/
def wantedMembers (s : State) : List (Nat × Nat × Nat) :=
  (s.flows.ingress.flatMap fun (_, x) => match x with
    | some x => flowMembers x.f
    | none => []).eraseDups

/-- The ports of a membership's path that are up. -/
def pathPorts (s : State) (path : Nat) : List Nat :=
  if path < 2 then ((List.range 8).filter fun l => portStart (layoutOf s path) l && portUp s (8 * path + l)).map (8 * path + ·)
  else if portUp s path then [path] else []

/-- A report of a membership on a port: 2 a leave, 3 a join, 4 an answer to a query. Towards an older querier the
group is joined without a filter, so it is left with its last membership (R394). -/
def reportOn (kind p : Nat) (m : Nat × Nat × Nat) (s : State) : State :=
  let older := tget 0 s.flows.older p
  if older = 0 then send (.member p kind 0 m.2.1 m.2.2) s
  else if kind = 2 ∧ (wantedMembers s).any (fun w => w.1 = m.1 && w.2.1 = m.2.1) then s
  else send (.member p kind older m.2.1 0) s

/-- A report of a membership on every port of its path. -/
def report (kind : Nat) (m : Nat × Nat × Nat) (s : State) : State :=
  (pathPorts s m.1).foldl (fun s p => reportOn kind p m s) s

/-- A pending command's effect boundary has been reached, and the command has not applied yet. -/
def effectDue (s : State) : Bool := s.cmd.pend.any (boundaryReached s)

/-- Joins and leaves since the last step reported (R394), each to be repeated once. They wait for the commands of
a boundary that has been reached, so that a leave and a join at one boundary send nothing. -/
def settleMembers (s : State) : State :=
  let new := wantedMembers s
  let old := s.flows.members
  if new = old ∨ effectDue s then s
  else
    let gone := old.filter (· ∉ new)
    let came := new.filter (· ∉ old)
    let s := gone.foldl (fun s m => report 2 m s) s
    let s := came.foldl (fun s m => report 3 m s) s
    let rest := s.flows.reports.filter fun m => m ∉ gone ∧ m ∉ came
    { s with flows := { s.flows with members := new, reports := rest ++ gone ++ came } }

/-- The events of a UDP subscriber whose port is no longer up: they are lost, never held for it (R101). -/
def dropEvents (i : Nat) (s : State) : State :=
  match tget none s.cmd.subs i with
  | none => s
  | some sub =>
    let dead := (sub.queue.filter fun x => !portUp s x.1).length
    if dead = 0 then s
    else setSub i { sub with lost := min 0xFFFF (sub.lost + dead), queue := sub.queue.filter fun x => portUp s x.1 } s

/-- Every subscriber's queued events (R101). -/
def settleEvents (s : State) : State := (List.range 16).foldl (fun t i => dropEvents i t) s

/-- What every step settles before it ends: memberships (R394), both Turrets' health (R396), rows 6 to 8 of R107
(R108), the end of a trip's refusal (R111), queued events (R101), then the MSI-X messages of the interrupt lines that
rose (R498). -/
def settle (s0 s : State) : State :=
  sendLines s0 (settleEvents (settleTrip (settleDegraded (settleOpen (settleTurrets (settleMembers s))))))

/-- The end of a step that ran from `s0` to `s`. -/
def ran (s0 s : State) : Ran := .next (settle s0 s)

/-! ## The servo's states and the frequency held (R138, R141) -/

/-- The state with the servo's record changed. -/
def modPtp (f : Ptp → Ptp) (s : State) : State :=
  { s with bel := { s.bel with ptp := f s.bel.ptp } }

/-- The increment at which the clock follows FREQ10M_IN: the nominal one scaled by the frequency of
FREQ10M_IN against the TCXO, within the range of R132. -/
def freqIncr (ppb : Int) : BitVec 40 :=
  let x := nearDiv (0x019999999A * (1000000000 + ppb)) 1000000000
  BitVec.ofInt 40 (clip 6870573285 6873322063 x)

/-- FREQ10M_IN agreed with the PTP-steered frequency during the last 64 s in LOCKED (R141). -/
def freqAgreed (p : Ptp) : Bool := !p.lockSegs.isEmpty && p.lockSegs.all fun (_, _, ok) => ok

/-- A time in LOCKED added to the last 64 s, older parts dropped. -/
def addLock (n : Nat) (incr : Nat) (ok : Bool) (l : List (Nat × Nat × Bool)) : List (Nat × Nat × Bool) :=
  let rec trim : Nat → List (Nat × Nat × Bool) → List (Nat × Nat × Bool)
    | _, [] => []
    | left, (n, i, b) :: t => if left = 0 then [] else (min n left, i, b) :: trim (left - min n left) t
  trim (ticksUs 64000000) ((n, incr, ok) :: l)

/-- FREQ10M_IN agrees with the increment in force within 0.05 ppm (R141). -/
def freqAgrees (s : State) : Bool :=
  s.pins.freq10m && decide (((freqIncr s.pins.freqPpb).toNat - (s.bel.incr.toNat : Int)).natAbs * 20000000 ≤
    0x019999999A)

/-- The time in LOCKED up to now added to its record (R141). -/
def accrue (s : State) : State :=
  if s.bel.ptp.servo = .locked then
    modPtp (fun p => { p with
      segTick := s.tick
      lockSegs := addLock (s.tick - p.segTick) s.bel.incr.toNat (freqAgrees s) p.lockSegs }) s
  else s

/-- The mean increment over the last 64 s in LOCKED, or the nominal one (R141). -/
def heldIncr (p : Ptp) : BitVec 40 :=
  let t := (p.lockSegs.map (·.1)).sum
  if t = 0 then 0x019999999A
  else BitVec.ofNat 40 ((p.lockSegs.map fun (n, i, _) => n * i).sum / t)

/-- Holdover follows FREQ10M_IN when it is present, selected, and agreed during lock (R141). -/
def followFreq (s : State) : State :=
  let p := s.bel.ptp
  if (p.servo = .holdover ∨ p.servo = .requalify) ∧ s.pins.freq10m ∧ fld p.f 9 = 1 ∧ freqAgreed p then
    { s with bel := { s.bel with incr := freqIncr s.pins.freqPpb, ptp := { p with freqUsed := true } } }
  else { s with bel := { s.bel with ptp := { p with freqUsed := false } } }

/-- The servo's state changed; leaving LOCKED raises LOCK_LOST (R496). -/
def setServo (v : Servo) (s : State) : State :=
  let s := accrue s
  let s' := modPtp (fun p => { p with servo := v, segTick := s.tick }) s
  if s.bel.ptp.servo = .locked ∧ v ≠ .locked then raise 2 3 s' else s'

/-- HOLDOVER or REQUALIFY entered: the increment is held, or follows FREQ10M_IN (R141). -/
def hold (v : Servo) (s : State) : State :=
  let s := setServo v s
  followFreq { s with bel := { s.bel with incr := heldIncr s.bel.ptp } }

/-! ## Resets (R119 to R124) -/

/-- The rank of a reset by the width of its effect (R120, R123). -/
def resetRank : ResetKind → Nat
  | .pcie => 0
  | .warm => 1
  | .external => 2
  | .supply => 3

/-- A background or waiting command came in on a PCIe ring. -/
def pcieJob (s : State) (id : Nat) : Bool :=
  (s.cmd.jobs ++ s.lanes.closing.map (·.2.2)).any fun j => decide (j.id = id) && match j.cmd.via with
    | .ring _ => true
    | _ => false

/-- The command rings and the PCIe event queue cleared, the kind 1 subscriber with them (R120, R101). -/
def clearRings (s : State) : State :=
  let udp := s.cmd.rings.filterMap fun (r, g) =>
    let q := g.queue.filter (· ≠ .desc)
    let g' : Ring := { queue := q, blocked := g.blocked.filter fun id => !pcieJob s id }
    if g' = {} then none else some (r, g')
  { s with cmd := { s.cmd with
      rings := udp, evq := {}
      subs := tmap none s.cmd.subs fun _ x => x.filter fun sub => fnat sub.f 1 ≠ 1 } }

/-- What Belfry keeps through a reset (R120, R140): a warm reset keeps the clock counting and holds valid
time as holdover, at the frequency that R141 gives for holdover: the time in LOCKED before the reset counts (DESIGN
CHOICE, log entry 90). -/
def belfryAfter (k : ResetKind) (s : State) : Belfry :=
  match k with
  | .warm =>
    if validTime s then
      let b := (hold .holdover (modPtp (fun p => { p with f := ({} : Ptp).f }) s)).bel
      { clock := b.clock, stepped := b.stepped, incr := b.incr
        ptp := { servo := .holdover, tracked := b.ptp.tracked, lockSegs := b.ptp.lockSegs
                 freqUsed := b.ptp.freqUsed } }
    else { clock := s.bel.clock, stepped := s.bel.stepped }
  | _ => {}

/-- What the memory subsystem keeps (R120, R427): contents are lost; a warm reset keeps the degraded
marks, raised scrubbing and the ladder hold, and a ladder in progress ends held. -/
def memAfter (k : ResetKind) (m : Mem) : Mem :=
  match k with
  | .warm =>
    let held := m.ladderHold || m.ladder.isSome
    { degraded := m.degraded
      raised := m.raised ++ (m.ladder.toList.filter (· ∉ m.raised))
      ladderHold := held, setpoint := if held then m.setpoint else 0 }
  | _ => {}

/-- What Watchtower keeps: samples, telemetry and the dip in progress; its settings return to their
defaults (R482 to R484). -/
def watchAfter (s : State) : Watch :=
  { sensors := tmap {} s.watch.sensors fun _ x => { x with override := false }
    cap := profileMax s 0, pins := s.watch.pins, estimate := s.watch.estimate
    vin := s.watch.vin, iin := s.watch.iin, pin := s.watch.pin, convTemp := s.watch.convTemp
    supplyWarn := s.watch.supplyWarn, telLost := s.watch.telLost, lowTick := s.watch.lowTick
    lastFrame := s.watch.lastFrame, convHot := s.watch.convHot, dip := s.watch.dip }

/-- The state that a reset other than a PCIe reset leaves (R120): everything at its reset value but what
the table keeps; the device in BOOT with row `cause` of R107 to be reported. What R120 does not name is the model's
choice (log entry 87): the filtered PATH_FORCE_IN, the last PPS_IN edge and the watchdog resets of the last 600 s
stay, the last second that gave a pulse stays through a warm reset only, the startup log goes. -/
def cleared (k : ResetKind) (last : Nat) (s : State) : State :=
  let valid := validTime s
  { supply := s.supply
    pins := { held := s.pins.held, pathForce := s.pins.pathForce, perstLow := s.pins.perstLow
              freq10m := s.pins.freq10m, freqPpb := s.pins.freqPpb, ppsIn := s.pins.ppsIn, ppsPresent := s.pins.ppsPresent
              ppsHigh := if k = .warm ∧ valid then s.pins.ppsHigh else none
              ppsLast := if k = .warm then s.pins.ppsLast else none }
    dev := { variant := s.dev.variant, state := s.dev.state, lastReset := last, owed := s.dev.owed
             inProgress := some k, wdRecent := s.dev.wdRecent
             safeBoot := decide (last = 3) && s.dev.safeBoot
             tripped := decide (k = .warm) && s.dev.tripped, warmBoot := decide (k = .warm) }
    keep := s.keep
    bel := belfryAfter k s
    mem := memAfter k s.mem
    watch := watchAfter s
    tick := s.tick, free := s.free, out := s.out, pending := s.pending }

/-- A reset of kind `k` recorded as `last` (R119, R123): merged into one in progress of equal or wider
effect. The device enters BOOT by row 11; a supply reset leaves OFF to its caller. -/
def resetAs (k : ResetKind) (last : Nat) (s : State) : State :=
  match s.dev.inProgress with
  | some j => if resetRank k ≤ resetRank j then s else cleared k last s
  | none => changeState .boot 11 (cleared k last s)

/-- SAFE entered (R110): contexts close, every engine and transmitter stops, the servo stops with the
clock counting, and the firmware's event units are released (R156). -/
def enterSafeState (cause : Nat) (s : State) : State :=
  let s := cancelPend (fun p => p.cmd.ctx ≠ 0xFFFF) 1 s
  let s := if validTime s then hold .holdover s else setServo .unset s
  let s := { s with
    ctxs := [], camp := {}, cup := {}, dma := { drain := s.dma.drain }
    lanes := { s.lanes with ports := [], lanes := tmap {} s.lanes.lanes fun _ l =>
      { l with tx := false, pll := false, cdr := false, block := false, am := false, trs := false } }
    flows := { s.flows with
      ingress := [], egress := [], drr := [], visit := [], tails := [], timed := [], members := [], reports := [] }
    bel := { s.bel with
      units := tmap {} s.bel.units fun _ u => if u.holder = Holder.firmware then {} else u } }
  changeState .safe cause { s with dev := { s.dev with inProgress := none } }

end Sys2Proof.Machine
end

