-- ==== Sys2Proof/Machine/Rings.lean ====
section
/-! DEFINITION. The command rings, the PCIe event queue and command datagrams as they arrive: spec/03
Transports and spec/18 R494, R495. -/

namespace Sys2Proof.Machine

/-- BAR0 and the rings are usable (R116). -/
def barUp (s : State) : Bool := s.pins.pcieReady

/-! ## Doorbells (R80, R112) -/

/-- A doorbell acted on: ignored with RING_ERR when it is further ahead of the consumer than the ring
is long or behind the producer; else the producer advances and the new descriptors wait in order. -/
def ringBell (r : Nat) (p : BitVec 16) (s : State) : State :=
  let g := ringOf s r
  if !g.enable then s
  else
    let ahead := (p - g.consumer).toNat
    let have' := (g.producer - g.consumer).toNat
    if 2 ^ g.sizeLog2 < ahead ∨ ahead < have' then raise 1 r s
    else modRing r (fun g => { g with
      producer := p, queue := g.queue ++ List.replicate (ahead - have') .desc }) s

/-- A write to a ring's doorbell register (R80): held until TRAIN when rung before (R112). -/
def bellWrite (r : Nat) (value : Word) (s : State) : State :=
  let p : BitVec 16 := value.setWidth 16
  if 8 ≤ r then s
  else if s.dev.state = .boot then modRing r (fun g => { g with heldBells := g.heldBells ++ [p] }) s
  else if barUp s then ringBell r p s
  else s

/-- CMD_RING_DOORBELL (R80). -/
def execCmdRingDoorbell (r : Nat) (value : Word) (s : State) : Ran := ran s (bellWrite r value s)

/-- The doorbells held before TRAIN, served in order on each ring (R112). -/
def serveBells (s : State) : State :=
  (List.range 8).foldl (fun t r =>
    let bells := (ringOf t r).heldBells
    let t := modRing r (fun g => { g with heldBells := [] }) t
    bells.foldl (fun u p => ringBell r p u) t) s

/-! ## Enables (R494, R495) -/

/-- The size field of a ring's control word. -/
def ctrlSize (value : Word) (bits : Nat) : Nat := value.toNat % 2 ^ bits

/-- A write to CMD_RINGr_CTRL that sets ENABLE. Setting it resets both indices and the phase; a size
outside 4 to 12 or an address off 4 KiB leaves it 0 and sets RING_ERR. While ENABLE is already 1 the
size field is ignored. -/
def enableRing (r : Nat) (value : Word) (s : State) : State :=
  let g := ringOf s r
  let msix := bit value.toNat 30
  if g.enable then modRing r (fun g => { g with msix := msix }) s
  else
    let n := ctrlSize value 4
    let s := modRing r (fun g => { g with msix := msix, sizeLog2 := n }) s
    if 4 ≤ n ∧ n ≤ 12 ∧ g.baseLo.toNat % 4096 = 0 ∧ g.cqLo.toNat % 4096 = 0 then
      modRing r (fun g => { g with enable := true, producer := 0, consumer := 0, phase := true
                                   queue := g.queue.filter (· ≠ .desc) }) s
    else raise 1 r s

/-- A write to CMD_RINGr_CTRL that clears ENABLE: no further descriptor is fetched. -/
def disableRing (r : Nat) (value : Word) (s : State) : State :=
  let g := ringOf s r
  modRing r (fun g => { g with
    enable := false, msix := bit value.toNat 30
    queue := g.queue.filter (· ≠ .desc) }) (if g.enable then s
      else modRing r (fun g => { g with sizeLog2 := ctrlSize value 4 }) s)

/-- CMD_RING_ENABLE (R494). -/
def execCmdRingEnable (r : Nat) (value : Word) (s : State) : Ran :=
  ran s (if barUp s && decide (r < 8) && bit value.toNat 31 then enableRing r value s else s)

/-- CMD_RING_DISABLE (R494). -/
def execCmdRingDisable (r : Nat) (value : Word) (s : State) : Ran :=
  ran s (if barUp s && decide (r < 8) && !bit value.toNat 31 then disableRing r value s else s)

/-- The state with the PCIe event queue changed. -/
def modEvq (f : Evq → Evq) (s : State) : State := { s with cmd := { s.cmd with evq := f s.cmd.evq } }

/-- A write to CMD_EVQ_CTRL that sets ENABLE (R495). -/
def enableEvq (value : Word) (s : State) : State :=
  let q := s.cmd.evq
  if q.enable then s
  else
    let k := ctrlSize value 5
    if 6 ≤ k ∧ k ≤ 16 ∧ q.baseLo.toNat % 4096 = 0 then
      modEvq (fun q => { q with enable := true, sizeLog2 := k, head := 0, tail := 0 }) s
    else raise 1 9 (modEvq (fun q => { q with sizeLog2 := k }) s)

/-- EVENT_QUEUE_ENABLE (R495). -/
def execEventQueueEnable (value : Word) (s : State) : Ran :=
  ran s (if barUp s && bit value.toNat 31 then enableEvq value s else s)

/-- A write to CMD_EVQ_CTRL that clears ENABLE (R495). -/
def disableEvq (value : Word) (s : State) : State :=
  if s.cmd.evq.enable then modEvq (fun q => { q with enable := false }) s
  else modEvq (fun q => { q with sizeLog2 := ctrlSize value 5 }) s

/-- EVENT_QUEUE_DISABLE (R495). -/
def execEventQueueDisable (value : Word) (s : State) : Ran :=
  ran s (if barUp s && !bit value.toNat 31 then disableEvq value s else s)

/-- A write to CMD_EVQ_HEAD: vector 8 is sent again when unread slots remain. -/
def evqHead (value : Word) (s : State) : State :=
  let s := modEvq (fun q => { q with head := value.toNat % 65536 }) s
  let q := s.cmd.evq
  if q.enable && decide (q.head % evqSlots q ≠ q.tail) then sendMsix 8 s else s

/-- EVENT_QUEUE_HEAD_WRITE (R495). -/
def execEventQueueHeadWrite (value : Word) (s : State) : Ran :=
  ran s (if barUp s then evqHead value s else s)

/-! ## Counted lengths and privileged policers (R373, R376) -/

/-- The Turret table a port uses: its own Turret's, or Turret A's for auxiliary and management ports (R384; for
the overhead log entry 44). -/
def turretTable (s : State) (port : Nat) : Fields :=
  if 8 ≤ port ∧ port < 16 then s.flows.overB else s.flows.overA

/-- The counted length of a frame on a port (R373). -/
def countedLen (s : State) (port len : Nat) : Nat := len + fnat (turretTable s port) 1

/-- One byte in the units of a bucket: a tick at 1 kb/s brings one unit. -/
def byteUnits : Nat := 5000000

/-- Rate and burst of a privileged policer before any command (R376). -/
def policeDefault : Nat → Police
  | 0 | 1 | 6 | 7 => { rate := 2000, burst := 16000, bucket := 16000 * byteUnits }
  | 2 | 8 | 14 => { rate := 50000, burst := 262144, bucket := 262144 * byteUnits }
  | 5 | 11 | 13 => { rate := 500, burst := 4000, bucket := 4000 * byteUnits }
  | _ => { rate := 1000, burst := 8000, bucket := 8000 * byteUnits }

/-- Privileged policer `p`, refilled up to now. -/
def policerNow (s : State) (p : Nat) : Police :=
  let x := (tget none s.flows.police p).getD (policeDefault p)
  { x with bucket := min (x.burst * byteUnits) (x.bucket + (s.tick - x.tick) * x.rate), tick := s.tick }

/-- The state with privileged policer `p` set. -/
def setPolicer (p : Nat) (x : Police) (s : State) : State :=
  { s with flows := { s.flows with police := tset none s.flows.police p (some x) } }

/-- The policer of a class of frame on a port (R376), none where the port carries no such class. -/
def policerOf (port : Nat) (c : FrameClass) : Option Nat :=
  if port < 16 then
    let b := 6 * (port / 8)
    match c with
    | .ptpEvent => some b
    | .ptpGeneral => some (b + 1)
    | .command => some (b + 2)
    | .neighbour => some (b + 3)
    | .group => some (b + 4)
    | .echo => some (b + 5)
    | .media => none
  else if port = 32 then
    match c with
    | .command => some 14
    | .neighbour | .echo => some 15
    | _ => none
  else
    match c with
    | .neighbour => some 12
    | .echo => some 13
    | _ => none

/-- A frame meets a privileged policer: dropped and counted, or passed. -/
def police (p counted : Nat) (s : State) : Bool × State :=
  let x := policerNow s p
  let need := counted * byteUnits
  if x.bucket < need then (false, raise 9 2 (bump (0x90100 + 4 * p) 1 (setPolicer p x s)))
  else (true, setPolicer p { x with bucket := x.bucket - need } s)

/-! ## Command datagrams (R83, R84, R102) -/

/-- An allow-list entry matches a source: enabled, of its family, equal in its first prefix-length bits.
Fields 2 to 8 of 0x0103 are numbered from 1 here. -/
def allows (f : Fields) (e : Endpoint) : Bool :=
  let width := if e.v6 then 128 else 32
  let addr := if e.v6 then addr128 f 3 else fnat f 3
  let sh := 2 ^ (width - min width (fnat f 7))
  decide (fnat f 1 = 1 ∧ fnat f 2 = b2n e.v6 ∧ e.addr / sh = addr / sh)

/-- An in-band source is in the allow-list (R83). -/
def allowed (s : State) (e : Endpoint) : Bool :=
  s.cmd.allow.any fun (_, x) => match x with
    | some f => allows f e
    | none => false

/-- A kept record still counts: it is at most 2 s old (R84). -/
def keptLive (s : State) (k : Kept) : Bool := !elapsed s k.tick 2000000

/-- The kept record of a packet, by source, host tag and CRC (R84). -/
def keptOf (s : State) (src : Endpoint) (tag crc : Word) : Option Kept :=
  s.cmd.kept.find? fun k => k.src = src && k.tag = tag && k.crc = crc && keptLive s k

/-- The kept records with one more: the last 64 of each source, none older than 2 s. -/
def keepRecord (k : Kept) (s : State) : State :=
  let same := (s.cmd.kept.filter fun x => x.src = k.src ∧ keptLive s x).take 63
  let rest := s.cmd.kept.filter fun x => x.src ≠ k.src ∧ keptLive s x
  { s with cmd := { s.cmd with kept := k :: same ++ rest } }

/-- The datagrams of a transport that wait in its ring. -/
def udpWaiting (via : Via) (g : Ring) : Nat :=
  (g.queue.filter fun
    | .udp v _ _ _ => v = via
    | .desc | .stored _ _ => false).length

/-- The Turret that an in-band datagram came in on. -/
def datagramTurret (d : Datagram) : Nat := d.port / 8

/-- A complete datagram: discarded and counted when it fails stage 1 of R63 or its transport's queue of
64 is full; answered from a kept record; else queued. A repeat whose first packet has not been answered yet is
neither run nor answered, and a packet discarded on a full queue leaves no record (DESIGN CHOICE, log entry
80). -/
def takeDatagram (d : Datagram) (s : State) : State :=
  let r := viaRing d.via
  if !stage1 d.bytes then bump 0x10418 1 s
  else
    let c := packetCmd d.via d.src (datagramTurret d) 0 0 d.bytes
    match keptOf s d.src c.tag c.crc with
    | some k => (match k.reply with
      | some x => send (.reply d.via d.src 0 x (replyWire x false)) s
      | none => s)
    | none =>
      if 64 ≤ udpWaiting d.via (ringOf s r) then bump 0x10418 1 s
      else
        modRing r (fun g => { g with queue := g.queue ++ [.udp d.via d.src (datagramTurret d) d.bytes] })
          (keepRecord { src := d.src, tag := c.tag, crc := c.crc, tick := s.tick, reply := none } s)

/-- The state with one reassembly ended. -/
def endReasm (src : Endpoint) (ident : Nat) (s : State) : State :=
  { s with cmd := { s.cmd with reasm := s.cmd.reasm.filter (· ≠ (src, ident)) } }

/-- A datagram that has passed its policer (R83): nothing is taken before TRAIN (R112), nor in-band while the
recovery image runs (R115) or from a source that no entry allows; a fragment joins or begins a reassembly, of
which 16 may be in progress: one more is dropped, uncounted (DESIGN CHOICE, log entry 81). -/
def takeCommand (d : Datagram) (s : State) : State :=
  if s.dev.state = .off ∨ s.dev.state = .boot then s
  else if d.via = .inband ∧ (s.dev.image = 2 ∨ !allowed s d.src) then s
  else
    match d.frag with
    | none => takeDatagram d s
    | some i =>
      if d.whole then
        (if (d.src, i) ∈ s.cmd.reasm then takeDatagram d (endReasm d.src i s) else s)
      else if (d.src, i) ∈ s.cmd.reasm ∨ 16 ≤ s.cmd.reasm.length ∨ d.src.v6 then s
      else { s with cmd := { s.cmd with reasm := s.cmd.reasm ++ [(d.src, i)] } }

/-- The port that a datagram of a transport can come in on: a Turret's for in-band, the management port. -/
def portTakes (d : Datagram) : Bool :=
  match d.via with
  | .inband => decide (d.port < 16)
  | .mgmt => decide (d.port = 32)
  | _ => false

/-- COMMAND_UDP_PACKET (R83): a datagram, or a fragment of one, on a port that is up meets the port's policer for
commands (R376) and is taken. -/
def execCommandUdpPacket (d : Datagram) (s : State) : Ran :=
  ran s (if !portTakes d || !portUp s d.port then s
    else match policerOf d.port .command with
      | none => s
      | some p =>
        let (pass, s) := police p (countedLen s d.port d.len) s
        if pass then takeCommand d s else s)

/-- REASSEMBLY_TIMEOUT (R83). -/
def execReassemblyTimeout (src : Endpoint) (ident : Nat) (s : State) : Ran :=
  ran s (endReasm src ident s)

/-- MSIX_REENABLE (R498): MSI-X enabled with the given vectors masked; each vector whose line is set
sends one message, and so does a pending vector that is no longer masked. -/
def execMsixReenable (vectors : List Nat) (s : State) : Ran :=
  ran s (if !s.pins.pcieReady then s
    else
      let due := s.msixPending.filter (· ∉ vectors)
      let lines := ((List.range 15).filter (lineOf s ·)).map (· + 9)
      let s := { s with msix := true, msixMasked := vectors
                        msixPending := s.msixPending.filter (· ∈ vectors) }
      (lines ++ due.filter (· ∉ lines)).foldl (fun t v => sendMsix v t) s)

end Sys2Proof.Machine
end

