-- ==== Sys2Proof/Machine/Check.lean ====
section
/-! DEFINITION. Check units (R439, R456 to R462): polynomials, feeding, results, and what a mismatch
reports. -/

namespace Sys2Proof.Machine

/-- Check unit `n`. -/
def chkOf (s : State) (n : Nat) : Chk := tget {} s.dma.units n

/-- The state with check unit `n` set. -/
def setChk (n : Nat) (u : Chk) (s : State) : State :=
  { s with dma := { s.dma with units := tset {} s.dma.units n u } }

/-- The initial value of a polynomial selector (R456). -/
def polyInit : Nat → Nat
  | 0 | 1 => 0xFFFFFFFF
  | 2 => 0xFFFF
  | _ => 0

/-- One bit of an unreflected CRC of `width` bits. -/
def crcBitHigh (width poly x : Nat) : Nat :=
  if bit x (width - 1) then (x * 2 % 2 ^ width) ^^^ poly else x * 2 % 2 ^ width

/-- One byte of an unreflected CRC. -/
def crcByteHigh (width poly x : Nat) (b : Byte) : Nat :=
  (List.range 8).foldl (fun y _ => crcBitHigh width poly y) (x ^^^ (b.toNat * 2 ^ (width - 8)))

/-- One 10-bit word of the SDI CRC-18, least significant bit first (ST 292-1): the reflected polynomial of
x^18 + x^5 + x^4 + 1. -/
def crc18Word (x w : Nat) : Nat := (List.range 10).foldl (fun y _ => crcBit 0x23000 y) (x ^^^ (w % 1024))

/-- The register of a unit on a polynomial after one byte. -/
def polyByte (poly x : Nat) (b : Byte) : Nat :=
  match poly with
  | 0 => crcByte 0xEDB88320 x b
  | 1 => crcByte 0x82F63B78 x b
  | 2 => crcByteHigh 16 0x1021 x b
  | _ => crcByteHigh 8 0x07 x b

/-- The register after the bytes of one write: on selector 4 its two bytes are one 10-bit word (R457). -/
def polyWrite (poly x : Nat) (l : List Byte) : Nat :=
  if poly = 4 then crc18Word x (ofLe l) else l.foldl (polyByte poly) x

/-- The result that a register stands for (R456). -/
def polyResult (poly x : Nat) : Word := natWord (if poly < 2 then x ^^^ 0xFFFFFFFF else x)

/-- The CRC of a whole byte list. -/
def polyOf (poly : Nat) (l : List Byte) : Word := polyResult poly (polyWrite poly (polyInit poly) l)

/-- A unit fed with one accepted write, or a channel's bytes. -/
def feedUnit (l : List Byte) (u : Chk) : Chk :=
  { u with crc := natWord (polyWrite u.poly u.crc.toNat l), bytes := u.bytes + l.length }

/-- Every accepted write fed. -/
def drainAll (u : Chk) : Chk := { u.queue.foldl (fun u l => feedUnit l u) u with queue := [] }

/-- One cycle of a unit (R457, R458): a byte of the write in progress; a 10-bit word goes whole. -/
def drainCycle (u : Chk) : Chk :=
  match u.queue with
  | [] => u
  | l :: t =>
    if u.poly = 4 then { feedUnit l u with queue := t }
    else match l with
      | [] => { u with queue := t }
      | b :: r => { feedUnit [b] u with queue := if r = [] then t else r :: t }

/-- A unit at its initial value (R459). -/
def loadUnit (u : Chk) : Chk := { u with crc := natWord (polyInit u.poly), bytes := 0, queue := [] }

/-- Writes that wait behind the one in progress (R465). -/
def queuedWrites (u : Chk) : Nat := u.queue.length - 1

/-- A CRC_MISMATCH (R460, R462): its flag, its counter and its event. -/
def mismatch (n : Nat) (u : Chk) (expected computed : Word) (s : State) : State :=
  emit 0x08E0 0xFFFF n ([BitVec.ofNat 8 u.poly, BitVec.ofNat 8 u.client] ++ leBytes 2 u.object ++
    leBytes 4 expected.toNat ++ leBytes 4 computed.toNat ++ leBytes 8 u.bytes)
    (raise 12 0 (bump 0xC0000 1 s))

/-- The highest-numbered free unit, which the firmware takes (R439). -/
def freeUnit (s : State) : Option Nat :=
  ((List.range 16).reverse).find? fun n => (chkOf s n).holder = .free && !(chkOf s n).opened

/-- The firmware takes a unit on CRC-32C for a client and its object. -/
def holdUnit (client object : Nat) (s : State) : State :=
  match freeUnit s with
  | some n =>
    setChk n { (chkOf s n) with
      holder := .firmware, opened := true, poly := 1, crc := natWord (polyInit 1), bytes := 0, queue := []
      client := client, object := object } s
  | none => s

/-- The unit that the firmware holds for a client and its object. -/
def heldUnit (s : State) (client object : Nat) : Option Nat :=
  (List.range 16).find? fun n =>
    let u := chkOf s n
    u.holder = .firmware && u.client = client && u.object = object

/-- The firmware's client checks bytes on the unit it holds against a CRC-32C, and gives the unit up
(R461): whether they agree, and the state. -/
def firmwareCheck (client object : Nat) (l : List Byte) (expected : Word) (s : State) : Bool × State :=
  let x := polyOf 1 l
  match heldUnit s client object with
  | none => (decide (x = expected), s)
  | some n =>
    let u := { chkOf s n with bytes := l.length }
    let s := setChk n { result := x, overrun := u.overrun, widthErr := u.widthErr } s
    if x = expected then (true, s) else (false, mismatch n u expected x s)

/-- Host memory is lost (R454): no further host request; a run with a host element is abandoned, to be made
again from its start, and its check unit is reloaded (R463). -/
def loseHost (s : State) : State :=
  let hit (x : DmaChan) : Bool := x.state = .running && x.hostRun
  let attached (n : Nat) : Bool := s.dma.chans.any fun (_, x) => hit x && fnat x.f 14 = n
  { s with
    pins := { s.pins with hostUp := false }
    dma := { s.dma with
      chans := tmap {} s.dma.chans fun _ x => if hit x then { x with state := .paused, domain := some 4 } else x
      units := tmap {} s.dma.units fun n u => if attached n then loadUnit u else u } }

end Sys2Proof.Machine
end

