-- ==== Sys2Proof/Machine/Power.lean ====
section
/-! DEFINITION. Supply, pins and power-up: the rows of spec/02, with the supply reset of R54 and the
dip record it closes (R481). -/

namespace Sys2Proof.Machine

/-! ## The dip record (R481, R485) -/

/-- The cap in force in W (R476). -/
def capInForce (s : State) : Nat :=
  min (min s.watch.cap (profileMax s s.watch.profile))
    (if s.watch.supplyWarn then s.watch.dipCap else s.watch.cap)

/-- A new dip record, opened now (R481). Its device state is that of the raise, as the record's own table says
(log entry 83). -/
def newDip (vin : Nat) (s : State) : Dip :=
  { sec := s.bel.clock.sec, ns := s.bel.clock.ns, tick := s.tick, minimum := vin, micros := 0
    outcome := 0, step := topStep s, state := s.dev.state, valid := validTime s, lost := false }

/-- The dip record in progress closed into the log, its duration counted in whole microseconds. -/
def closeDip (outcome : Nat) (s : State) : State :=
  match s.watch.dip with
  | none => s
  | some d =>
    let d := { d with outcome := outcome, micros := (s.tick - d.tick) / 625 }
    { s with
      keep := { s.keep with dips := (d :: s.keep.dips).take 64 }
      watch := { s.watch with dip := none } }

/-- The SUPPLY_WARN record (R485). -/
def supplyRecord (kind step minimum micros cap : Nat) : List Byte :=
  [BitVec.ofNat 8 kind, BitVec.ofNat 8 step] ++ leBytes 2 minimum ++ leBytes 4 micros ++
    leBytes 2 cap ++ leBytes 2 0

/-! ## The supply reset (R54) -/

/-- A supply reset at input voltage `vin` (10 mV): the dip record is written with its outcome, the event
of kind `kind` is owed to the next boot, PWR_GOOD falls, the transmitters are squelched, and the device
goes to OFF (row 12 of R107). -/
def supplyDown (vin outcome kind : Nat) (s : State) : State :=
  let s := match s.watch.dip with
    | some d => { s with watch := { s.watch with dip := some { d with minimum := min d.minimum vin } } }
    | none => { s with watch := { s.watch with dip := some (newDip vin s) } }
  let s := closeDip outcome s
  let owed := match s.keep.dips with
    | d :: _ => [(kind, d.step, d.minimum, d.micros)]
    | [] => []
  let s := { s with keep := { s.keep with owedSupply := s.keep.owedSupply ++ owed } }
  let s := changeState .off 12 (cleared .supply 0 s)
  { s with
    supply := { s.supply with pwrGood := false, squelched := true }
    pins := { s.pins with held := false }
    watch := { s.watch with supplyWarn := false, telLost := false } }

/-- A start of the converter meets its conditions (R30, R35, R36, R480): VIN_48 at or above 37.5 V and below the
lockout, the hold-up capacitor within 1.0 V of it; after a lockout VIN_48 has fallen to 64.0 V, and after a
temperature stop the converter to 100 degrees C. -/
def startAllowed (x : Start) (s : State) : Bool :=
  !s.supply.pwrGood && decide (3750 ≤ x.vin ∧ x.vin < 6600 ∧ x.gap ≤ 100) &&
    (!s.supply.ovLock || decide (x.lowVin ≤ 6400)) && (!s.supply.hotStop || decide (x.lowTemp ≤ 1600))

/-- A start of the converter (R35, R53): with every rail in regulation PWR_GOOD rises and the module is
held in reset until RESET_N is released (R44), PCIE_PERST_N counting as low until a release (R42); else the
converter stops and tries again 1 s later. -/
def startConverter (x : Start) (s : State) : State :=
  if x.railsOk then
    { s with
      supply := { converter := true, pwrGood := true, goodTick := s.tick, aux := true }
      pins := { s.pins with held := true, gpio := [], perstLow := true }
      watch := { s.watch with supplyWarn := false } }
  else { s with supply := { s.supply with converter := false, aux := false, retry := some s.tick } }

/-- CONVERTER_START (R35): the start condition comes to hold, after a failed start too (log entry 82). -/
def execConverterStart (x : Start) (s : State) : Ran :=
  ran s (if startAllowed x s then startConverter x s else s)

/-- CONVERTER_RETRY (R53): 1 s after a rail failed to regulate, while the start condition still holds. -/
def execConverterRetry (x : Start) (s : State) : Ran :=
  ran s (match s.supply.retry with
    | some t => if startAllowed x s && elapsed s t 1000000 then startConverter x s else s
    | none => s)

/-- OVER_VOLTAGE_LOCKOUT (R30, R36): at 66.0 V or more the lockout trips, whether or not the converter runs; a
running one stops with a supply reset. -/
def execOverVoltageLockout (vin : Nat) (s : State) : Ran :=
  ran s (if 6600 ≤ vin then
      let s := if s.supply.pwrGood then supplyDown vin 2 3 s else s
      { s with supply := { s.supply with converter := false, aux := false, ovLock := true } }
    else s)

/-- SUPPLY_RESET (R54): VIN_48 at or below 33.0 V while PWR_GOOD is high. -/
def execSupplyReset (vin : Nat) (s : State) : Ran :=
  ran s (if s.supply.pwrGood && decide (vin ≤ 3300) then supplyDown vin 2 3 s else s)

/-- CONVERTER_STOP (R36): VIN_48 at or below 30.0 V; a supply reset that did not come first comes with
it, and the rails fall. -/
def execConverterStop (vin : Nat) (s : State) : Ran :=
  ran s (if s.supply.converter && decide (vin ≤ 3000) then
      let s := if s.supply.pwrGood then supplyDown vin 2 3 s else s
      { s with supply := { s.supply with converter := false, aux := false } }
    else s)

/-! ## RESET_N (R44) -/

/-- EXTERNAL_RESET (R44): with PWR_GOOD high, the whole system-on-chip is held in reset. -/
def execExternalReset (s : State) : Ran :=
  ran s (if s.supply.pwrGood && !s.pins.held then
      let s := resetAs .external 1 s
      { s with pins := { s.pins with held := true } }
    else s)

/-- RESET_N_RELEASE (R44): the module leaves reset and enters BOOT, by row 1 of R107 out of OFF. -/
def execResetNRelease (s : State) : Ran :=
  ran s (if s.supply.pwrGood && s.pins.held then
      let s := { s with pins := { s.pins with held := false } }
      if s.dev.state = .off then changeState .boot 1 s else s
    else s)

/-! ## PCIe pins (R42, R116, R119) -/

/-- PCIE_RESET (R119, R120): the endpoint, the rings and the PCIe event queue with its subscriber are
cleared, debug access locks, and MSI-X is disabled as PCIe lays down; all else is kept. -/
def execPcieReset (cause : PcieCause) (s : State) : Ran :=
  ran s (if s.supply.pwrGood then
      let s := loseHost (clearRings s)
      { s with
        pins := { s.pins with pcieReady := false
                              perstLow := s.pins.perstLow || decide (cause = .perst) }
        dev := { s.dev with debug := false }
        msix := false, msixMasked := [], msixPending := [] }
    else s)

/-- PCIE_PERST_N_RELEASE (R42). -/
def execPciePerstNRelease (s : State) : Ran :=
  ran s (if s.supply.pwrGood then { s with pins := { s.pins with perstLow := false } } else s)

/-- PCIE_PERST_N_DEEMED_RELEASE (R42): the pin was high when PWR_GOOD rose, and 100 ms have passed since. -/
def execPciePerstNDeemedRelease (s : State) : Ran :=
  ran s (if s.supply.pwrGood && s.pins.perstLow && elapsed s s.supply.goodTick 100000 then
      { s with pins := { s.pins with perstLow := false } }
    else s)

/-! ## Timing pins (R45 to R47, R141, R147) -/

/-- The system-on-chip is out of reset. -/
def socUp (s : State) : Bool :=
  s.supply.pwrGood && !s.pins.held && decide (s.dev.state ≠ .off)

/-- PPS_IN_EDGE (R45): accepted, with its phase from the last whole second, or ignored and counted within
500 ms of the last accepted edge. -/
def execPpsInEdge (s : State) : Ran :=
  ran s (if !socUp s then s
    else
      let early := match s.pins.ppsIn with
        | some t => !elapsed s t 500000
        | none => false
      if early then bump 0x20208 1 s
      else { s with
        pins := { s.pins with ppsIn := some s.tick, ppsPresent := true }
        bel := { s.bel with ppsPhase := s.bel.clock.ns.toNat } })

/-- PPS_IN_PRESENT_EXPIRY (R147): 1.5 s without an accepted edge. -/
def execPpsInPresentExpiry (s : State) : Ran :=
  ran s (match s.pins.ppsIn with
    | some t => if elapsed s t 1500000 then { s with pins := { s.pins with ppsPresent := false } } else s
    | none => s)

/-- The signed ns from the nearest boundary of timebase 0 to now, the earlier one when halfway. A pending re-phase
delays the next boundary (R159). -/
def frameRefPhase (s : State) : Int :=
  let t := tbD s 0
  let now := rasterNs s t
  let n := if rephaseDue t then (t.last.getD 0 : Int) - t.offset else idealCount t.rate now
  let a := alignPoint t.rate n
  let b := alignPoint t.rate (n + 1) + (if rephaseDue t then (rephaseNs t : Int) else 0)
  if now - a ≤ b - now then now - a else now - b

/-- FRAME_REF_IN_EDGE (R45, R133). -/
def execFrameRefInEdge (s : State) : Ran :=
  ran s (if socUp s && (tbOf s 0).isSome then
      { s with bel := { s.bel with frefPhase := frameRefPhase s } }
    else s)

/-- FREQ10M_PRESENCE_CHANGE (R47): present with at least 0.4 V and within 5 ppm; when it goes during
holdover the increment stays (R141). -/
def execFreq10mPresenceChange (mv : Nat) (ppb : Int) (s : State) : Ran :=
  ran s (if socUp s then
      let here := decide (400 ≤ mv ∧ ppb.natAbs ≤ 5000)
      followFreq { s with pins := { s.pins with freq10m := here, freqPpb := ppb } }
    else s)

/-- PPS_OUT_RISE (R46): with valid time, the clock has just counted, and not been stepped, to a whole second later
than the last one that gave a pulse. -/
def execPpsOutRise (s : State) : Ran :=
  let c := s.bel.clock
  let first := decide (c.ns.toNat * 4294967296 + c.frac.toNat < s.bel.incr.toNat)
  let later := match s.pins.ppsLast with
    | some n => decide (n < c.sec.toNat)
    | none => true
  ran s (if socUp s && validTime s && !s.bel.stepped && first && later then
      send (.pps true)
        { s with pins := { s.pins with ppsHigh := some s.tick, ppsLast := some c.sec.toNat } }
    else s)

/-- PPS_OUT_FALL (R46): 100 ms of ticks after the rise. -/
def execPpsOutFall (s : State) : Ran :=
  ran s (match s.pins.ppsHigh with
    | some t =>
      if elapsed s t 100000 then send (.pps false) { s with pins := { s.pins with ppsHigh := none } } else s
    | none => s)

/-! ## PATH_FORCE_IN and GPIO (R48, R104) -/

/-- PATH_FORCE_ASSERT (R48): the filtered level is kept in BOOT and applies when BOOT is left. -/
def execPathForceAssert (s : State) : Ran :=
  ran s (if s.supply.pwrGood then interlock { s with pins := { s.pins with pathForce := true } } else s)

/-- PATH_FORCE_DEASSERT (R48). -/
def execPathForceDeassert (s : State) : Ran :=
  ran s (if s.supply.pwrGood then interlock { s with pins := { s.pins with pathForce := false } } else s)

/-- GPIO `g`. -/
def gpioOf (s : State) (g : Nat) : Gpio := tget {} s.pins.gpio g

/-- The state with GPIO `g` changed. -/
def modGpio (g : Nat) (f : Gpio → Gpio) (s : State) : State :=
  { s with pins := { s.pins with gpio := tmod {} s.pins.gpio g f } }

/-- The level that GPIO `g` drives, none for an input (R104). -/
def gpioDrive (s : State) (g : Nat) : Option Bool :=
  let x := gpioOf s g
  match fnat x.f 1 with
  | 1 => some (decide (fld x.f 2 = 1))
  | 2 => some (decide (fld x.f 2 = 1) == x.pulse.isSome)
  | _ => none

/-- The ticks of a pulse width in ns, rounded up to whole 1.6 ns ticks (R104). -/
def pulseTicks (ns : Nat) : Nat := ceilDiv (ns * 5) 8

/-- GPIO_PULSE_END (R104): the pulse width has passed since the last firing. -/
def execGpioPulseEnd (g : Nat) (s : State) : Ran :=
  ran s (match (gpioOf s g).pulse with
    | some t =>
      if t + pulseTicks (fnat (gpioOf s g).f 3) ≤ s.tick then modGpio g (fun x => { x with pulse := none }) s
      else s
    | none => s)

end Sys2Proof.Machine
end

