-- ==== Sys2Proof/Machine/Watch.lean ====
section
/-! DEFINITION. Watchtower: sensors, telemetry, dips, the throttle requests and the hard trip (spec/16).
The control tick itself, whose steps reach the frames of Campanile, is in `Frames.lean`. -/

namespace Sys2Proof.Machine

/-- The state with sensor `n` changed. -/
def modSensor (n : Nat) (f : Sensor → Sensor) (s : State) : State :=
  { s with watch := { s.watch with sensors := tmod {} s.watch.sensors n f } }

/-- The sensors that govern Spire `i` (R466). -/
def governs (i : Nat) : List Nat := i :: (List.range 16).map (· + 16)

/-- A reading and a rate call for throttling (R470): at or above act, or at rate act. -/
def atAct (act : Nat) (x : Int × Int) : Bool :=
  decide (16 * (act : Int) ≤ x.1) || decide (3000 ≤ x.2 ∧ 16 * ((act : Int) - 15) ≤ x.1)

/-- A reading and a rate that let throttling step back (R473): below act less 3 degrees C and below 5
degrees C/s. -/
def isCool (act : Nat) (x : Int × Int) : Bool :=
  decide (x.1 < 16 * ((act : Int) - 3) ∧ x.2 < 1000)

/-- The flags of WT_IRQ that a change of a sensor's reading or rate raises (R470, R487): each level that
it now reaches and did not reach before. -/
def levelFlags (n : Nat) (s0 s : State) : State :=
  let a := inForce s0 n
  let b := inForce s n
  let w : Int := 16 * s.watch.warn
  let c : Int := 16 * s.watch.act
  let up (i : Nat) (p q : Bool) (t : State) : State := if q && !p then raise 13 i t else t
  let rateAct (x : Int × Int) : Bool := decide (3000 ≤ x.2 ∧ c - 240 ≤ x.1)
  up 0 (decide (w ≤ a.1)) (decide (w ≤ b.1)) (up 1 (decide (c ≤ a.1)) (decide (c ≤ b.1))
    (up 2 (decide (1000 ≤ a.2)) (decide (1000 ≤ b.2)) (up 3 (rateAct a) (rateAct b) s)))

/-- The rate of rise in 1/200 degree C/s (R467): the sum of the last 250 samples less that of the 250
that ended 50 ms earlier; 0 until that many samples exist. -/
def riseOf (hist : List Int) : Int :=
  if hist.length < 2750 then 0 else (hist.take 250).sum - (slice hist 2500 250).sum

/-- A sample taken into a sensor (R467, R468). -/
def takeSample (act tick : Nat) (raw : Nat) (t : Int) (x : Sensor) : Sensor :=
  let hist := (t :: x.hist).take 2750
  let out := decide (t < -960 ∨ 2400 < t)
  let rate := riseOf hist
  { x with
    temp := t, rate := rate, hist := hist
    healthy := if x.fault = 0 && !out then t else x.healthy
    same := if raw = x.raw ∧ x.hist ≠ [] then x.same + 1 else 1
    raw := raw
    range := if out then x.range + 1 else 0
    hot := if !out && x.fault = 0 && decide (1840 ≤ t) then x.hot + 1 else 0
    passes := if out then 0 else x.passes
    warmAt := if isCool act (t, rate) then x.warmAt else some tick }

/-- SENSOR_SAMPLE (R467): taken from PWR_GOOD on. -/
def execSensorSample (n raw : Nat) (t : Int) (s : State) : Ran :=
  ran s (if s.supply.pwrGood && decide (n < 32) then
      levelFlags n s (modSensor n (takeSample s.watch.act s.tick raw t) s)
    else s)

/-- The fault a sensor meets, in the order of R468's table: 0 none. -/
def sensorFaultOf (x : Sensor) : Nat :=
  if 3 ≤ x.range then 1 else if 50000 ≤ x.same then 2 else if x.selfBad then 3 else 0

/-- A SENSOR_FAULT event (R486). -/
def sensorEvent (n kind : Nat) (s : State) : State :=
  let x := sensorOf s n
  emit 0x09E1 0xFFFF n ([BitVec.ofNat 8 kind, BitVec.ofNat 8 (b2n x.override)] ++
    leBytes 2 (BitVec.ofInt 16 x.healthy).toNat ++ leBytes 4 0) s

/-- A sensor faulted with a kind (R468): it reads 110.0 degrees C from now on. -/
def faultSensor (n kind : Nat) (s : State) : State :=
  let t := modSensor n (fun x => { x with fault := kind, passes := 0, hot := 0 }) s
  sensorEvent n kind (raise 13 4 (levelFlags n s t))

/-- SENSOR_FAULT (R468): a healthy sensor that meets a fault. -/
def execSensorFault (n : Nat) (s : State) : Ran :=
  let x := sensorOf s n
  ran s (if s.supply.pwrGood && decide (n < 32 ∧ x.fault = 0 ∧ sensorFaultOf x ≠ 0) then
      faultSensor n (sensorFaultOf x) s
    else s)

/-- SENSOR_SELF_CHECK (R468): off by more than 3 degrees C faults a healthy sensor; the tenth check
passed in a row, with no range or stuck fault in that time, returns a faulted one to service. -/
def execSensorSelfCheck (n : Nat) (error : Int) (s : State) : Ran :=
  let x := sensorOf s n
  let good := decide (error.natAbs ≤ 48)
  ran s (if !(s.supply.pwrGood && decide (n < 32)) then s
    else if x.fault = 0 then
      (let s := modSensor n (fun x => { x with selfBad := !good, passes := if good then x.passes + 1 else 0 }) s
       if good then s else faultSensor n 3 s)
    else if !good || decide (3 ≤ x.range ∨ 50000 ≤ x.same) then
      modSensor n (fun x => { x with passes := 0, selfBad := !good }) s
    else if x.passes + 1 < 10 then modSensor n (fun x => { x with passes := x.passes + 1, selfBad := false }) s
    else
      sensorEvent n 4 (modSensor n (fun x =>
        { x with fault := 0, passes := 0, selfBad := false, hot := 0, warmAt := some s.tick }) s))

/-- The condition of the hard trip (R475). -/
def tripDue (s : State) : Bool :=
  decide (16 < faultedCount s) ||
    (List.range 32).any fun n => (sensorOf s n).fault = 0 && decide (3 ≤ (sensorOf s n).hot)

/-- HARD_TRIP (R475): logged with the sensor, its reading and the steps in force; the module enters SAFE. -/
def execHardTrip (s : State) : Ran :=
  ran s (if socUp s && tripDue s && decide (s.dev.state ≠ .safe) then
      let n := ((List.range 32).find? fun n =>
        (sensorOf s n).fault = 0 && decide (3 ≤ (sensorOf s n).hot)).getD 0xFF
      let s := { s with
        keep := { s.keep with trips := (n, (inForce s n).1, stepsInForce s) :: s.keep.trips }
        dev := { s.dev with tripped := true } }
      enterSafeState 10 s
    else s)

/-! ## Telemetry and dips (R477 to R480) -/

/-- A SUPPLY_WARN event of the dip in progress (R485). -/
def supplyEvent (kind : Nat) (s : State) : State :=
  match s.watch.dip with
  | none => s
  | some d =>
    let us := if kind = 1 ∨ kind = 4 then 0 else (s.tick - d.tick) / 625
    emit 0x09E0 0xFFFF 0 (supplyRecord kind d.step d.minimum us (capInForce s)) s

/-- SUPPLY_WARN raised with an event of a kind (R478, R485): the dip cap applies, the dip is counted and
its record opens. -/
def raiseWarn (vin kind : Nat) (s : State) : State :=
  let s := { s with watch := { s.watch with
    supplyWarn := true, lowTick := s.tick
    dip := some (s.watch.dip.getD (newDip vin s)) } }
  supplyEvent kind (raise 13 5 (bump 0xD001C 1 s))

/-- Input power of a frame in units of 0.0001 W. -/
def powerOf (f : TelFrame) : Nat := f.vin * f.iin

/-- The measurements of a telemetry frame. -/
def measure (f : TelFrame) (s : State) : State :=
  let w := s.watch
  let gap := w.telLost && decide (w.lastFrame + ticksUs 100 ≤ s.tick)
  { s with watch := { w with
    vin := f.vin, iin := f.iin, pin := powerOf f / 1000, convTemp := f.temp
    pins := (powerOf f, s.tick) :: w.pins.filter fun p => !elapsed s p.2 1000
    lastFrame := s.tick
    lowTick := if f.vin < 3850 ∨ gap then s.tick else w.lowTick
    convHot := decide (1680 ≤ f.temp)
    dip := w.dip.map fun d => { d with minimum := min d.minimum f.vin } } }

/-- TELEMETRY_FRAME (R477): the measurements; SUPPLY_WARN at or below 37.0 V (R478); CONV_TEMP from 105
degrees C, and at 125 degrees C the supply reset that R480 gives. -/
def execTelemetryFrame (f : TelFrame) (s : State) : Ran :=
  ran s (if !s.supply.pwrGood then s
    else
      let t := measure f s
      let t := if f.vin ≤ 3700 ∧ !s.watch.supplyWarn then raiseWarn f.vin 1 t else t
      let t := if t.watch.convHot && !s.watch.convHot then raise 13 9 t else t
      if 2000 ≤ f.temp then
        let t := supplyDown f.vin 3 5 t
        { t with supply := { t.supply with hotStop := true } }
      else t)

/-- TELEMETRY_LOST (R477): the estimate starts from the last mean measured; outside a dip the loss raises
SUPPLY_WARN with kind 0x04 alone (R485). -/
def execTelemetryLost (s : State) : Ran :=
  ran s (if !s.supply.pwrGood || s.watch.telLost || !elapsed s s.watch.lastFrame 100 then s
    else
      let last := match s.watch.pins with
        | (p, _) :: _ => p
        | [] => 0
      let s := raise 13 8 { s with watch := { s.watch with
        telLost := true, estimate := 92 * last, lowTick := s.tick
        dip := s.watch.dip.map fun d => { d with lost := true } } }
      if s.watch.supplyWarn then supplyEvent 4 s
      else
        let s := raiseWarn s.watch.vin 4 s
        { s with watch := { s.watch with dip := s.watch.dip.map fun d => { d with lost := true } } })

/-- TELEMETRY_RECOVERED (R477): good frames for 10 ms, each at or above 38.5 V. -/
def execTelemetryRecovered (s : State) : Ran :=
  ran s (if s.watch.telLost && decide (s.watch.lowTick + ticksUs 10000 ≤ s.watch.lastFrame) then
      { s with watch := { s.watch with telLost := false } }
    else s)

/-- SUPPLY_WARN_CLEAR (R478): every frame for 10 ms at or above 38.5 V, telemetry present; the dip cap
lifts and the dip record closes as recovered. -/
def execSupplyWarnClear (s : State) : Ran :=
  ran s (if s.watch.supplyWarn && !s.watch.telLost &&
      decide (s.watch.lowTick + ticksUs 10000 ≤ s.watch.lastFrame) then
      let lost := match s.watch.dip with
        | some d => d.lost
        | none => false
      let s := { s with watch := { s.watch with supplyWarn := false } }
      closeDip (if lost then 4 else 1) (raise 13 6 (supplyEvent 2 s))
    else s)

/-! ## The throttle controller (R473) -/

/-- The mean input power of the frames of the last `us` microseconds is above `cap` W (the last frame
alone when none is that new); while telemetry is lost the estimate stands for it. -/
def powerAbove (s : State) (us cap : Nat) : Bool :=
  if s.watch.telLost then decide (cap * 920000 < s.watch.estimate)
  else
    let l := s.watch.pins.filter fun p => !elapsed s p.2 us
    let l := if l = [] then s.watch.pins.take 1 else l
    decide (cap * 10000 * l.length < (l.map (·.1)).sum)

/-- A request that may step: raised, lowered or held, with the tick of its last lowering. -/
def stepRequest (s : State) (up down : Bool) (v : Nat) (low : Option Nat) : Nat × Option Nat :=
  let rested := match low with
    | some t => elapsed s t 1000
    | none => true
  if up then (min 6 (v + 1), low)
  else if down && rested && decide (0 < v) then (v - 1, some s.tick)
  else (v, low)

/-- The thermal request of Spire `i` after a tick. -/
def thermalRequest (s : State) (i : Nat) : Nat × Option Nat :=
  let up := (governs i).any fun n => atAct s.watch.act (inForce s n)
  let rest (n : Nat) : Bool := match (sensorOf s n).warmAt with
    | some t => elapsed s t 1000
    | none => true
  let down := (governs i).all fun n => isCool s.watch.act (inForce s n) && rest n
  stepRequest s up down (tget 0 s.watch.therm i) (tget none s.watch.lowered i)

/-- The power request after a tick. -/
def powerRequest (s : State) : Nat × Option Nat :=
  let cap := capInForce s
  stepRequest s (powerAbove s 20 cap) (!powerAbove s 1000 (cap - 15)) s.watch.power s.watch.powerLowered

/-- The requests after a control tick, the estimate following the steps while telemetry is lost (R477),
the highest step of an open dip, and the tick counters. -/
def throttle (s : State) : State :=
  let p := powerRequest s
  let on := (List.range (spireCount s)).filter fun i => spirePowered s i
  let w := on.foldl (fun (w : Watch) i =>
    let t := thermalRequest s i
    { w with therm := tset 0 w.therm i t.1, lowered := tset none w.lowered i t.2 }) s.watch
  let t := { s with watch := { w with power := p.1, powerLowered := p.2 } }
  let delta : Int := (on.map fun i =>
    (stepSixteenths (spireStep t i) : Int) - stepSixteenths (spireStep s i)).sum
  let est := if s.watch.telLost then ((s.watch.estimate : Int) + delta * 312500).toNat else s.watch.estimate
  let t := { t with watch := { t.watch with
    estimate := est, dip := t.watch.dip.map fun d => { d with step := max d.step (topStep t) } } }
  let t := if s.watch.power = 0 ∧ 0 < p.1 then raise 13 7 t else t
  let t := if 0 < topStep t then bump 0xD0020 1 t else t
  if 0 < p.1 then bump 0xD0024 1 t else t

/-! ## Opcodes 0x0902 to 0x0911 (R482, R483) -/

/-- 0x0902: warn and act levels. -/
def opThermalLevels : Op where
  opcode := 0x0902
  specs := fun _ _ => [pNum 90 110, pCross 95 110 1 fun f v => max v (fld f 1)]
  apply := fun _ f s => { s := { s with watch := { s.watch with warn := fnat f 1, act := fnat f 2 } } }

/-- 0x0903: power cap and dip cap. -/
def opPowerCaps : Op where
  opcode := 0x0903
  specs := fun _ s => [pCross 100 285 1 fun _ v => min v (profileMax s s.watch.profile),
    pCross 100 285 1 fun f v => min v (fld f 1)]
  apply := fun _ f s => { s := { s with watch := { s.watch with cap := fnat f 1, dipCap := fnat f 2 } } }

/-- 0x0904: a sensor's override. -/
def opSensorOverride : Op where
  opcode := 0x0904
  specs := fun _ _ => [pFix 0 31, pSel [0, 1]]
  apply := fun _ f s =>
    { s := levelFlags (fnat f 1) s (modSensor (fnat f 1) (fun x => { x with override := fld f 2 = 1 }) s) }

/-- WT_SENSn (R487). -/
def sensReg (s : State) (n : Nat) : Word :=
  let x := sensorOf s n
  let (t, r) := inForce s n
  natWord (b2n (x.fault ≠ 0) * 2 ^ 31 + x.fault * 2 ^ 28 + (BitVec.ofInt 12 (r / 100)).toNat * 2 ^ 16 +
    (BitVec.ofInt 16 t).toNat)

/-- A profile change is pending (R21, R487). -/
def profilePending (s : State) : Bool := s.cmd.pend.any (·.opcode = 0x0901)

/-- WT_STAT (R487). -/
def wtStat (s : State) : Word :=
  let w := s.watch
  natWord (b2n w.supplyWarn * 2 ^ 31 + b2n w.telLost * 2 ^ 30 + b2n (0 < w.power) * 2 ^ 29 +
    b2n w.supplyWarn * 2 ^ 28 + b2n (profilePending s) * 2 ^ 27 + w.profile * 2 ^ 24 +
    faultedCount s * 2 ^ 8 +
    (match hottest s (List.range 32) with
      | some (n, _, _) => n
      | none => 0))

/-- WT_SPIRE_STEP_LO for `base` 0, WT_SPIRE_STEP_HI for `base` 8 (R487): 0xF for an unpowered Spire, and the reset
value 0 until TRAIN. -/
def stepReg (s : State) (base : Nat) : Word :=
  if s.dev.state = .off ∨ s.dev.state = .boot then 0
  else natWord ((List.range 8).foldl (fun a i =>
    a + (if spirePowered s (base + i) then spireStep s (base + i) else 15) * 16 ^ i) 0)

/-- 0x0910: telemetry. -/
def opReadTelemetry : Op where
  opcode := 0x0910
  reads := true
  apply := fun _ _ s =>
    let w := s.watch
    { s := s
      words := (List.range 32).map (sensReg s) ++
        [natWord w.vin, natWord w.iin, natWord w.pin, natWord (BitVec.ofInt 16 w.convTemp).toNat,
         stepReg s 0, stepReg s 8, wtStat s, natWord w.warn, natWord w.act,
         natWord (min w.cap (profileMax s w.profile)), natWord w.dipCap] }

/-- The bytes of a dip record (R481). -/
def dipBytes (d : Dip) : List Byte :=
  leBytes 6 d.sec.toNat ++ leBytes 4 d.ns.toNat ++ leBytes 2 d.minimum ++ leBytes 4 d.micros ++
    [BitVec.ofNat 8 d.outcome, BitVec.ofNat 8 d.step, BitVec.ofNat 8 (stateCode d.state),
     BitVec.ofNat 8 (b2n d.valid)] ++ List.replicate 12 0

/-- 0x0911: the dip log. -/
def opReadDipLog : Op where
  opcode := 0x0911
  reads := true
  specs := fun _ _ => [pNum 0 63]
  apply := fun _ f s => { s := s, words := toWords ((slice s.keep.dips (fnat f 1) 16).flatMap dipBytes) }

end Sys2Proof.Machine
end

