-- ==== Sys2Proof/Machine/System.lean ====
section
/-! DEFINITION. The System family (R100 to R105, R497) and the Firmware and Keep family (R125 to R129),
with the SYS_ and KEEP_ registers (R124, R492, R493). -/

namespace Sys2Proof.Machine

/-! ## Registers -/

/-- Slot `i`, 0 A or 1 B. -/
def slotOf (k : Keep) (i : Nat) : Slot := if i = 0 then k.slotA else k.slotB

/-- The store with slot `i` replaced. -/
def setSlot (i : Nat) (x : Slot) (k : Keep) : Keep :=
  if i = 0 then { k with slotA := x } else { k with slotB := x }

/-- What the checks of R114 find in a slot: the image it held, with the chunks written over it since. -/
def foundImage (x : Slot) : Image :=
  if x.chunks = [] then x.base
  else
    let m := x.base
    let (h, g, b, v, w) := Config.imageCheck (m.headerOk, m.sigOk, m.hashOk, m.secver, m.version) x.chunks
    { headerOk := h, sigOk := g, hashOk := b, secver := v, version := w }

/-- The image in slot `i`. -/
def slotImage (k : Keep) (i : Nat) : Image := foundImage (slotOf k i)

/-- The running image. -/
def runningImage (s : State) : Image := if s.dev.image < 2 then slotImage s.keep s.dev.image else s.keep.recovery

/-- SYS_STATE (R124). -/
def sysState (s : State) : Word :=
  let d := s.dev
  let (t, n, p, m) := degradedBy s
  natWord (d.lastReset * 2 ^ 20 + b2n d.trialReverted * 2 ^ 19 + b2n d.trial * 2 ^ 18 + d.image * 2 ^ 16 +
    b2n t * 2 ^ 11 + b2n n * 2 ^ 10 + b2n p * 2 ^ 9 + b2n m * 2 ^ 8 + stateCode d.state)

/-- SYS_VARIANT (R492). -/
def sysVariant (s : State) : Word :=
  natWord (s.dev.variant * 2 ^ 24 + spireCount s * 2 ^ 16 + domeCount s * 2 ^ 8 +
    dramBytes s / (8 * 2 ^ 30))

/-- SYS_SECVER (R492). -/
def sysSecver (s : State) : Word := natWord ((runningImage s).secver % 65536)

/-- KEEP_STAT (R493). -/
def keepStat (s : State) : Word :=
  let k := s.keep
  natWord (b2n s.dev.debug * 2 ^ 10 + b2n k.general.key.isSome * 2 ^ 7 + b2n k.lantern.key.isSome * 2 ^ 6 +
    b2n k.firmware.key.isSome * 2 ^ 5 + b2n k.authInband * 4 + b2n k.authMgmt * 2 + b2n k.authPcie)

/-! ## 0x0101 to 0x0103 -/

/-- 0x0101: identity. -/
def opReadIdentity : Op where
  opcode := 0x0101
  reads := true
  apply := fun _ _ s =>
    let n := s.keep.serial.toNat
    let m := s.keep.mac.toNat
    { s := s, words := [sysVariant s, (runningImage s).version, sysSecver s, sysState s, natWord n,
        natWord (n / 2 ^ 32), natWord (m / 2 ^ 32), natWord m] }

/-- Field 10 of 0x0102 names a port's first lane on every Turret that field 9 lets the subscriber use and
whose layout is not off. -/
def subLaneOk (s : State) (path lane : Nat) : Bool :=
  let ok (t : Nat) : Bool := layoutOf s t = 0 || portStart (layoutOf s t) lane
  match path with
  | 0 => ok 0
  | 1 => ok 1
  | _ => ok 0 && ok 1

/-- Another subscriber than `i` has kind 1. -/
def otherPcieSub (s : State) (i : Nat) : Bool :=
  s.cmd.subs.any fun (j, x) => decide (j ≠ i) && match x with
    | some sub => decide (fnat sub.f 1 = 1)
    | none => false

/-- 0x0102: register, change or delete an event subscriber (R101). The events that waited for it go with the change
(DESIGN CHOICE, log entry 86). -/
def opRegisterEventSubscriber : Op where
  opcode := 0x0102
  specs := fun _ _ =>
    let udp : Fields → Bool := fun f => decide (2 ≤ fld f 2)
    let inb : Fields → Bool := fun f => decide (fld f 2 = 3)
    [pFix 0 15, pSel [0, 1, 2, 3], pWhen udp (pSel [0, 1]), pAny, pAny, pAny, pAny,
     pWhen udp (pNum 1 65535), pWhen inb (pSel [0, 1, 2]), pWhen inb (pNum 0 7),
     fun _ => { kind := .any, cross := fun v => v % 0x100000 }] ++ List.replicate 8 pAny
  once := fun _ f s =>
    let i := fnat f 1
    match fnat f 2 with
    | 0 => if (tget none s.cmd.subs i).isNone then some .badState else none
    | 1 => if otherPcieSub s i then some .badState else none
    | 3 => if subLaneOk s (fnat f 9) (fnat f 10) then none else some .badState
    | _ => none
  apply := fun _ f s =>
    let v : Option Sub := if fld f 2 = 0 then none else some { f := f.drop 1 }
    { s := { s with cmd := { s.cmd with subs := tset none s.cmd.subs (fnat f 1) v } } }

/-- 0x0103: an in-band allow-list entry (R102). -/
def opSetAllowListEntry : Op where
  opcode := 0x0103
  specs := fun _ _ => [pFix 0 15, pFlag, pSel [0, 1], pAny, pAny, pAny, pAny,
    pCross 0 128 1 fun f v => if fld f 3 = 0 then min v 32 else v]
  apply := fun _ f s =>
    { s := { s with cmd := { s.cmd with
        allow := tset none s.cmd.allow (fnat f 1) (some (f.drop 1)) } } }

/-! ## 0x0104 to 0x0108 -/

/-- The pending commands that 0x0104 names: one whose effect boundary has been reached counts as having taken
effect. -/
def cancelNames (s : State) (f : Fields) (p : Pend) : Bool :=
  decide (p.cmd.tag = intWord (fld f 1) ∧ viaCode p.cmd.via = fnat f 2) && !boundaryReached s p

/-- 0x0104: cancel pending commands by host tag (R103). -/
def opCancelPendingCommands : Op where
  opcode := 0x0104
  specs := fun _ _ => [pAny, pSel (List.range 11)]
  once := fun _ f s => if s.cmd.pend.any (cancelNames s f) then none else some .badState
  apply := fun _ f s =>
    { s := cancelPend (cancelNames s f) 3 s, words := [natWord (cancelCount (cancelNames s f) s)] }

/-- Some event unit with action 6 names GPIO `g` (R104, R155). -/
def pulseUser (s : State) (g : Nat) : Bool :=
  s.bel.units.any fun (_, u) => u.holder = .host && fld u.f 9 = 6 && fnat u.f 10 = g

/-- 0x0105: assign a GPIO function (R104). A pulse in progress ends (DESIGN CHOICE, log entry 85). -/
def opAssignGpioFunction : Op where
  opcode := 0x0105
  framed := true
  specs := fun _ _ => [pFix 0 15, pSel [0, 1, 2], pFlag,
    pWhen (fun f => fld f 2 = 2) (pNum 100 10000000), pWhen (fun f => fld f 2 = 0) (pSel [0, 1, 2])]
  post := fun _ f s =>
    if fld (gpioOf s (fnat f 1)).f 1 = 2 ∧ fld f 2 ≠ 2 ∧ pulseUser s (fnat f 1) then some .badState else none
  apply := fun _ f s => { s := modGpio (fnat f 1) (fun _ => { f := f.drop 1 }) s }

/-- A startup log entry in words (R105). -/
def logWords (e : LogEntry) : List Word :=
  [natWord (e.pos + e.opcode * 65536), e.tag, natWord (statusCode e.status + e.clamps * 65536), e.frame]

/-- 0x0106: the startup log (R105). -/
def opReadStartupLog : Op where
  opcode := 0x0106
  reads := true
  specs := fun _ _ => [pNum 0 8191]
  apply := fun _ f s =>
    { s := s
      words := natWord (b2n s.cmd.paused.isSome * 2 ^ 31 + s.cmd.log.length % 65536) ::
        (slice s.cmd.log (fnat f 1) 256).flatMap logWords }

/-- 0x0107: the management link mode; the link goes down and comes up in the new mode (R105). -/
def opSelectManagementLinkMode : Op where
  opcode := 0x0107
  specs := fun _ _ => [pSel [0, 1]]
  apply := fun _ _ s => { s := s }
  after := fun _ f s => { s with keep := { s.keep with mgmtMode := fnat f 1 }
                                 dev := { s.dev with mgmtUp := false } }

/-- 0x0108: GPIO levels (R105): a driven level is the level sampled; an input's level comes from outside,
a free value. -/
def opReadGpioLevels : Op where
  opcode := 0x0108
  reads := true
  apply := fun _ _ s =>
    let (v, s) := draw s
    let s := { s with pins := { s.pins with gpioIn := v % 65536 } }
    let level (g : Nat) : Bool := (gpioDrive s g).getD (bit s.pins.gpioIn g)
    let word (p : Nat → Bool) : Word := natWord ((List.range 16).foldl (fun a g => a + b2n (p g) * 2 ^ g) 0)
    { s := s, words := [word level, word fun g => (gpioDrive s g).isSome] }

/-! ## 0x0110, 0x0111, 0x0120 -/

/-- 0x0110: warm reset; the reply goes first, and row WARM_RESET follows. -/
def opWarmResetCommand : Op where
  opcode := 0x0110
  once := fun _ _ s => if s.dev.tripped then some .badState else none
  apply := fun _ _ s => { s := s }
  after := fun _ _ s => { s with dev := { s.dev with warmDue := some 2 } }

/-- 0x0111: enter SAFE, after the reply. -/
def opEnterSafe : Op where
  opcode := 0x0111
  apply := fun _ _ s => { s := s }
  after := fun _ _ s => if s.dev.state = .safe then s else enterSafeState 10 s

/-- 0x0120: interrupt and alert masks (R497). -/
def opInterruptAndAlertMasks : Op where
  opcode := 0x0120
  specs := fun _ _ =>
    let mask : Fields → Spec := fun f =>
      { kind := .any, cross := fun v => ((intWord v &&& irqSources (fnat f 1)).toNat : Int) }
    [pNum 0 14, mask, mask]
  apply := fun _ f s =>
    { s := { s with irqEn := tset 0 s.irqEn (fnat f 1) (intWord (fld f 2))
                    alertEn := tset 0 s.alertEn (fnat f 1) (intWord (fld f 3)) } }

/-! ## Firmware and Keep (R125 to R129, R52) -/

/-- The inactive slot (R127): 0 A, 1 B. -/
def inactiveSlot (s : State) : Nat :=
  match s.dev.image with
  | 0 => 1
  | 1 => 0
  | _ => 1 - s.keep.active

/-- The state with the inactive slot changed. -/
def modInactive (f : Slot → Slot) (s : State) : State :=
  let i := inactiveSlot s
  { s with keep := setSlot i (f (slotOf s.keep i)) s.keep }

/-- A background command holds the inactive slot: it writes or verifies it (R62). -/
def slotHeld (s : State) : Bool := s.cmd.jobs.any fun j => decide (j.opcode = 0x0F01 ∨ j.opcode = 0x0F02)

/-- The image data of a chunk: `n` bytes of the words after the fields. -/
def chunkBytes (c : Cmd) (fields n : Nat) : List Byte := (ofWords (c.params.drop fields)).take n

/-- 0x0F01: write a chunk to the inactive slot; fields offset and byte count, then the bytes
(PRESUMED, log entry 23). -/
def opWriteFirmwareChunk : Op where
  opcode := 0x0F01
  background := true
  specs := fun _ _ => [pFix 0 (32 * 2 ^ 20 - 1), pFix 1 64000]
  extra := fun c n => decide (n = ceilDiv (c.params.getD 1 0).toNat 4)
  once := fun _ f s => if s.dev.trial then some .badState
    else if 32 * 2 ^ 20 < fld f 1 + fld f 2 then some .refused else none
  busy := fun _ _ s => slotHeld s
  apply := fun c f s =>
    { s := modInactive (fun x =>
        { x with chunks := x.chunks ++ [(fnat f 1, chunkBytes c 2 (fnat f 2))], verified := false }) s }

/-- The checks of R114: header, signature, body hash, and outside the recovery image the security version. -/
def imagePasses (k : Keep) (recovery : Bool) (m : Image) : Bool :=
  m.headerOk && m.sigOk && m.hashOk && (recovery || decide (k.minSecver ≤ m.secver))

/-- 0x0F02: verify the inactive slot; a failure is answered REFUSED (PRESUMED, log entry 23) and changes nothing
(R66). -/
def opVerifyInactiveSlot : Op where
  opcode := 0x0F02
  background := true
  once := fun _ _ s => if s.dev.trial then some .badState else none
  busy := fun _ _ s => slotHeld s
  apply := fun _ _ s =>
    if imagePasses s.keep false (slotImage s.keep (inactiveSlot s)) then
      { s := modInactive (fun x => { x with verified := true }) s }
    else { s := s, status := some .refused }

/-- 0x0F03: activate the inactive slot: the reply, then a warm reset that boots it as a trial (R126, R127). -/
def opActivateInactiveSlot : Op where
  opcode := 0x0F03
  once := fun _ _ s =>
    if s.dev.trial || !(slotOf s.keep (inactiveSlot s)).verified || s.dev.tripped then some .badState else none
  busy := fun _ _ s => slotHeld s
  apply := fun _ _ s => { s := { s with keep := { s.keep with trialSlot := some (inactiveSlot s) } } }
  after := fun _ _ s => { s with dev := { s.dev with warmDue := some 4 } }

/-- 0x0F04: confirm the running trial image (R127). -/
def opConfirmTrialImage : Op where
  opcode := 0x0F04
  once := fun _ _ s =>
    if !s.dev.trial || decide (s.dev.state = .train ∨ s.dev.state = .safe) then some .badState else none
  apply := fun _ _ s =>
    { s := { s with
        keep := { s.keep with active := s.dev.image, trialSlot := none
                              minSecver := max s.keep.minSecver (runningImage s).secver }
        dev := { s.dev with trial := false } } }

/-- The store with key `i` replaced: 0 firmware, 1 Lantern, 2 general. -/
def setKey (i : Nat) (k : Key) (m : Keep) : Keep :=
  match i with
  | 0 => { m with firmware := k }
  | 1 => { m with lantern := k }
  | _ => { m with general := k }

/-- 0x0F10: install or replace a key; field 1 the key, then the wrapped key (PRESUMED, log entry 23). An
unwrap failure is answered REFUSED. -/
def opInstallKey : Op where
  opcode := 0x0F10
  specs := fun _ _ => [pSel [0, 1, 2]]
  extra := fun _ n => decide (0 < n)
  apply := fun c f s =>
    match Config.keyUnwrap (s.keep.firmware.key.getD []) (c.params.drop 1) with
    | none => { s := s, status := some .refused }
    | some k =>
      { s := raise 14 2 { s with keep := setKey (fnat f 1) { key := some k, counter := 0 } s.keep } }

/-- 0x0F11: the authentication policy; field 1 the AUTH_REQUIRED bits in the order of KEEP_STAT (PRESUMED,
log entry 23). A bit cannot be set while the general key is unprovisioned. -/
def opSetAuthenticationPolicy : Op where
  opcode := 0x0F11
  specs := fun _ _ => [pFix 0 7]
  once := fun _ f s =>
    if fld f 1 ≠ 0 ∧ s.keep.general.key.isNone then some .badState else none
  apply := fun _ f s =>
    let n := fnat f 1
    { s := raise 14 2 { s with keep := { s.keep with
        authPcie := bit n 0, authMgmt := bit n 1, authInband := bit n 2 } } }

/-- The packets of a startup store block, back to back, each sized by its own header (R58, R117); none
when one is cut short. At most `n` of them. -/
def splitStore : Nat → List Byte → Option (List (List Byte))
  | _, [] => some []
  | 0, _ => none
  | n + 1, l =>
    let len := 32 + 4 * le16 l 6 + (if bit (l.getD 3 0).toNat 0 then 40 else 0)
    if l.length < len then none else (splitStore n (l.drop len)).map (l.take len :: ·)

/-- 0x0F20: write the startup store as a whole, at most 256 KiB (R117); the block is the packets back to
back (PRESUMED, log entry 23). One packet of R58 brings the whole store (DESIGN CHOICE, log entry 84). -/
def opWriteStartupStore : Op where
  opcode := 0x0F20
  extra := fun _ _ => true
  once := fun c _ _ =>
    let l := ofWords c.params
    if 262144 < l.length ∨ (splitStore l.length l).isNone then some .refused else none
  apply := fun c _ s =>
    let l := ofWords c.params
    { s := { s with keep := { s.keep with store := (splitStore l.length l).getD [] } } }

/-- 0x0F30: unlock debug access until the next reset (R52). -/
def opUnlockDebugAccess : Op where
  opcode := 0x0F30
  apply := fun _ _ s => { s := { s with dev := { s.dev with debug := true } } }

end Sys2Proof.Machine
end

