-- ==== Sys2Proof/Machine/Boot.lean ====
section
/-! DEFINITION. Boot, training and resets as they happen: the rows of spec/04. DRAM_TRAINING_COMMIT and
STARTUP_STORE_RESUME, which run stored packets, are in `Commands.lean`. -/

namespace Sys2Proof.Machine

/-- The events owed from before the reset, sent once TRAIN is reached (R99, R479, R485). -/
def sendOwed (s : State) : State :=
  let i := s.keep.owedInternal
  let w := s.keep.owedSupply
  let s := { s with keep := { s.keep with owedInternal := [], owedSupply := [] } }
  let s := i.foldl (fun t x => internalEvent x.1 x.2 0xFFFF 0 0 t) s
  w.foldl (fun t (kind, step, mn, us) =>
    emit 0x09E0 0xFFFF 0 (supplyRecord kind step mn us (capInForce t)) t) s

/-- The Spires of the profile in effect powered, the others not (R18, R474). -/
def powerSpires (s : State) : State :=
  let on := (List.range (profileSpires s s.watch.profile)).foldl
    (fun t i => tmod {} t i fun x => { x with powered := true }) s.camp.spires
  { s with camp := { s.camp with spires := on } }

/-- Which image starts (R114, R127): the image code, whether it is on trial, and whether the boot reverts
an unconfirmed trial. A slot that an activation reset names boots first. -/
def bootChoice (s : State) : Option (Nat × Bool × Bool) :=
  let k := s.keep
  let first := match k.trialSlot with
    | some t => if s.dev.lastReset = 4 then t else k.active
    | none => k.active
  let onTrial := k.trialSlot.isSome && decide (s.dev.lastReset = 4)
  let reverted := k.trialSlot.isSome && !onTrial
  if imagePasses k false (slotImage k first) then some (first, onTrial, reverted)
  else if imagePasses k false (slotImage k (1 - first)) then some (1 - first, false, k.trialSlot.isSome)
  else if imagePasses k true k.recovery then some (2, false, k.trialSlot.isSome)
  else none

/-- BOOT_IMAGE_START (R114, R107 rows 2 and 3, R112, R115): the first image that passes starts; a slot
image enters TRAIN, the recovery image SAFE. PATH_FORCE_IN takes part from here on (R48). With no
image that passes nothing starts. -/
def execBootImageStart (s : State) : Ran :=
  ran s (if s.dev.state ≠ .boot ∨ s.pins.held then s
    else match bootChoice s with
      | none => s
      | some (image, onTrial, reverted) =>
        let s := { s with
          dev := { s.dev with image := image, trial := onTrial, trialReverted := reverted
                              inProgress := none }
          keep := { s.keep with trialSlot := if onTrial then s.keep.trialSlot else none } }
        let s := if image = 2 then changeState .safe 3 s else changeState .train 2 (powerSpires s)
        sendOwed (interlock (serveBells s)))

/-- A TRAIN_FAIL event (R428). -/
def trainEvent (ch step setpoint sub outcome : Nat) (margin : Int) (s : State) : State :=
  emit 0x07E1 0xFFFF ch
    ([BitVec.ofNat 8 step, BitVec.ofNat 8 setpoint, BitVec.ofNat 8 sub, BitVec.ofNat 8 outcome] ++
      leBytes 2 (BitVec.ofInt 16 margin).toNat ++ leBytes 2 0) s

/-- DRAM_TRAINING_TIMEOUT (R116, R107 row 5): the channels of the mask have not committed; each is
reported, and the device enters SAFE. -/
def execDramTrainingTimeout (failed sub : Nat) (s : State) : Ran :=
  ran s (if s.dev.state = .train then
      let s := (List.range 8).foldl (fun t ch =>
        if bit failed ch then
          raise 10 2 (trainEvent ch 1 0 sub 1 0
            { t with mem := { t.mem with degraded := t.mem.degraded.filter (· ≠ ch) ++ [ch] } })
        else t) s
      enterSafeState 5 s
    else s)

/-- This watchdog reset is the third within 600 s, counted from the first of the three (R122). -/
def thirdWatchdog (s : State) : Bool :=
  match s.dev.wdRecent with
  | [_, first] => decide (s.tick ≤ first + ticksUs 600000000)
  | _ => false

/-- A watchdog reset counted; the third within 600 s boots into SAFE (R122). -/
def countWatchdog (s : State) : State :=
  { s with dev := { s.dev with safeBoot := thirdWatchdog s, wdRecent := (s.tick :: s.dev.wdRecent).take 2 } }

/-- WARM_RESET (R119): the reset that 0x0110, a watchdog or an activation has made due. -/
def execWarmReset (s : State) : Ran :=
  ran s (match s.dev.warmDue with
    | some last =>
      if s.supply.pwrGood then resetAs .warm last (if last = 3 then countWatchdog s else s) else s
    | none => s)

/-- WATCHDOG_EXPIRY (R122): the INTERNAL event is owed to the next boot, and a warm reset follows unless one is
already due. -/
def execWatchdogExpiry (core : Nat) (s : State) : Ran :=
  ran s (if !socUp s || decide (s.dev.state = .boot) then s
    else
      { s with
        keep := { s.keep with owedInternal := s.keep.owedInternal ++ [(2, core)] }
        dev := { s.dev with warmDue := some (s.dev.warmDue.getD 3) } })

/-- MANAGEMENT_LINK_STATE_CHANGE (R369): up from TRAIN on and in SAFE, at 1,000 Mb/s only. -/
def execManagementLinkStateChange (up : Bool) (rate : Nat) (s : State) : Ran :=
  ran s (if !socUp s || decide (s.dev.state = .boot) then s
    else { s with dev := { s.dev with mgmtUp := up && decide (rate = 1000) } })

end Sys2Proof.Machine
end

