-- ==== Sys2Proof/Machine/Belfry.lean ====
section
/-! DEFINITION. Belfry: the PTP servo, set and step of the clock, timebases, event units as commands set
them, timestamp queues and the BELF_ registers (spec/05). -/

namespace Sys2Proof.Machine

/-! ## Setting and stepping the clock (R46, R132, R158) -/

/-- The state with the clock at `ns` whole nanoseconds, a value that it was set to and did not count to (R46). -/
def setClock (ns : Nat) (frac : BitVec 32) (s : State) : State :=
  { s with bel := { s.bel with clock := clockOf ns frac, stepped := true } }

/-- A step of the local clock by `d` ns: every configured timebase absorbs it in its correction, and it is
counted (R132, R158). -/
def stepClock (d : Int) (s : State) : State :=
  let ns := ((clockNs s : Int) + d).toNat
  let s := setClock ns s.bel.clock.frac s
  bump 0x20024 1 { s with bel := { s.bel with
    tbs := tmap none s.bel.tbs fun _ t => t.map fun t => { t with corr := t.corr + d * nsUnits } } }

/-! ## The PTP port and best master selection (R135 to R137) -/

/-- The PTP port's first lane. -/
def ptpPort (s : State) : Nat := 8 * ptpPath s + fnat s.bel.ptp.f 10

/-- The PTP port exists and is up, and the servo runs (R110, R136). -/
def ptpHears (s : State) : Bool :=
  socUp s && decide (s.dev.state ≠ .boot ∧ s.dev.state ≠ .safe) &&
    portStart (layoutOf s (ptpPath s)) (fnat s.bel.ptp.f 10) && portUp s (ptpPort s)

/-- The runs of consecutive offsets begun afresh (R139, R142). -/
def freshRuns (p : Ptp) : Ptp :=
  { p with offs := [], filts := [], refusal := p.refusal.map fun r => { r with offs := [] } }

/-- A change of the PTP port's path (R137): the masters heard on the old one are forgotten, and offsets
wait for four exchanges on the new one; none of the old path's counts with those of the new one. -/
def notePath (s : State) : State :=
  let p := ptpPath s
  if p = s.bel.ptp.path then s
  else modPtp (fun x => freshRuns { x with path := p, masters := [], exchanges := 0, asked := false }) s

/-- An interval of 2^log seconds in ticks. -/
def intervalTicks (log : Int) : Nat :=
  if 0 ≤ log then 625000000 * 2 ^ log.toNat else 625000000 / 2 ^ (-log).toNat

/-- The data set comparison of IEEE 1588-2019, as numbers of which the first difference decides, the
lower one better. -/
def masterKey (a : Announce) : List Nat :=
  [a.prio1, a.clsQual, a.accuracy, a.variance, a.prio2, a.gm, a.steps, a.sender]

/-- The first list is lower at the first difference. -/
def listLower : List Nat → List Nat → Bool
  | a :: as, b :: bs => if a < b then true else if b < a then false else listLower as bs
  | _, _ => false

/-- A foreign master is qualified (R135, IEEE 1588-2019): intervals in the accepted ranges, fewer than 255
steps removed, and two Announce messages within the last four announce intervals; the master chosen stays so until
its receipt timeout. -/
def qualified (s : State) (m : Foreign) : Bool :=
  decide (-7 ≤ m.a.logSync ∧ m.a.logSync ≤ 1 ∧ -3 ≤ m.a.logAnn ∧ m.a.logAnn ≤ 3 ∧ m.a.steps < 255) &&
    match m.prev with
    | some t =>
      let window := t + 4 * intervalTicks m.a.logAnn
      decide (m.tick ≤ window ∧ (s.bel.ptp.best = some m.a.gm ∨ s.tick ≤ window))
    | none => false

/-- The best of the qualified masters. -/
def bestMaster (s : State) (l : List Foreign) : Option Announce :=
  (l.filter (qualified s)).foldl (fun best m =>
    match best with
    | none => some m.a
    | some b => if listLower (masterKey m.a) (masterKey b) then some m.a else best) none

/-- A foreign master's entry updated by an Announce; at most 8 are tracked (R135). -/
def noteMaster (a : Announce) (tick : Nat) (l : List Foreign) : List Foreign :=
  if l.any (·.a.sender = a.sender) then
    l.map fun m => if m.a.sender = a.sender then
      { a := a, tick := tick, prev := some m.tick, tlv := a.tlv.or (if m.a.gm = a.gm then m.tlv else none) } else m
  else if l.length < 8 then l ++ [{ a := a, tick := tick, tlv := a.tlv }] else l

/-- REQUALIFY against a grandmaster, afresh (row 4 of R139). -/
def requalify (gm : Nat) (s : State) : State :=
  modPtp (fun p => { p with qualifying := some gm, intervals := 0, offs := [], filts := []
                            refusal := none })
    (hold .requalify s)

/-- The newest Announce of the grandmaster chosen. -/
def chosen (p : Ptp) : Option Foreign := p.masters.find? fun m => some m.a.gm = p.best

/-- The values kept from the Announce messages of the master chosen (R135, R511). -/
def noteUtc (s : State) : State :=
  match chosen s.bel.ptp with
  | none => s
  | some m => modPtp (fun p => { p with
      utcOffset := m.a.utcOffset, leap61 := m.a.leap61, leap59 := m.a.leap59, utcValid := m.a.utcValid
      tlv := m.tlv }) s

/-- Rows 1, 3 and 4 of R139 once `gm` is the identity chosen, `changed` from another. -/
def selectRow (gm : Option Nat) (changed : Bool) (s : State) : State :=
  match gm, s.bel.ptp.servo with
  | none, .acquire => setServo .unset s
  | none, _ => s
  | some _, .unset => modPtp freshRuns (setServo .acquire s)
  | some _, .acquire => s
  | some g, .requalify => if s.bel.ptp.qualifying ≠ some g then requalify g s else s
  | some g, _ => if changed && decide (s.bel.ptp.tracked ≠ some g) then requalify g s else s

/-- A selection (R135, R139): `gm` is the identity chosen now, none when no master is. No offset of another master
counts from then on. -/
def selected (gm : Option Nat) (s : State) : State :=
  let changed := decide (gm ≠ s.bel.ptp.best)
  let s := if changed then modPtp (fun p => freshRuns { p with best := gm, lastSync := s.tick }) s else s
  noteUtc (selectRow gm changed s)

/-- PTP_ANNOUNCE_RECEIVED (R135, R136): on the PTP port and in the configured domain alone. -/
def execPtpAnnounceReceived (a : Announce) (s : State) : Ran :=
  ran s (if !ptpHears s then s
    else
      let s := notePath s
      if a.path ≠ ptpPath s ∨ a.lane ≠ fnat s.bel.ptp.f 10 ∨ a.domain ≠ fnat s.bel.ptp.f 2 then s
      else
        let s := modPtp (fun p => { p with masters := noteMaster a s.tick p.masters }) s
        selected ((bestMaster s s.bel.ptp.masters).map (·.gm)) s)

/-- The master chosen is lost (row 9 of R139): HOLDOVER from a steered state, and from REQUALIFY the
grandmaster being qualified is given up. -/
def masterLost (s : State) : State :=
  match s.bel.ptp.servo with
  | .track | .locked | .requalify => modPtp (fun p => freshRuns { p with qualifying := none }) (hold .holdover s)
  | _ => s

/-- ANNOUNCE_RECEIPT_TIMEOUT (R139, R146 field 5): the chosen master has been silent for its announce
intervals, or the PTP port hears no master; another qualified master is chosen by row 4, else row 9. -/
def execAnnounceReceiptTimeout (s : State) : Ran :=
  ran s (
    let p := s.bel.ptp
    let silent := match chosen p with
      | some m => decide (m.tick + fnat p.f 5 * intervalTicks m.a.logAnn ≤ s.tick)
      | none => p.best.isSome
    if !socUp s || decide (s.dev.state = .safe) || !silent then s
    else
      let left := p.masters.filter fun m => some m.a.gm ≠ p.best
      let s := modPtp (fun p => { p with masters := left }) s
      match bestMaster s left with
      | some b => selected (some b.gm) s
      | none => selected none (masterLost s))

/-- SYNC_TIMEOUT (R139): no Sync accepted for 16 intervals. -/
def execSyncTimeout (s : State) : Ran :=
  ran s (
    let p := s.bel.ptp
    let log := match chosen p with
      | some m => m.a.logSync
      | none => 0
    if !socUp s || decide (s.dev.state = .safe) || decide (s.tick < p.lastSync + 16 * intervalTicks log) then s
    else
      let s' := masterLost s
      if p.servo = .requalify then modPtp (fun p => { p with best := none }) s' else s')

/-- DELAY_REQ_SEND (R136): on the PTP port, to a chosen master. -/
def execDelayReqSend (s : State) : Ran :=
  ran s (if ptpHears s && s.bel.ptp.best.isSome then
      let s := notePath s
      send (.control (ptpPort s) 1 (fnat s.bel.ptp.f 4)) (modPtp (fun p => { p with asked := true }) s)
    else s)

/-- The mean path delay in ns after an exchange (R135): half of what the last Sync and the Delay_Req took together,
both taken at the pins (R134). -/
def pathDelay (s : State) (late : Int) : Nat :=
  (nearDiv (s.bel.ptp.lag + late - txCorrection s (ptpPort s)) 20).toNat

/-- DELAY_RESP_RECEIVED (R135, R137): an exchange with the chosen master completes. -/
def execDelayRespReceived (path lane gm : Nat) (late : Int) (s : State) : Ran :=
  ran s (
    let p := s.bel.ptp
    if ptpHears s && p.asked && decide (path = ptpPath s ∧ p.path = path ∧ lane = fnat p.f 10 ∧
        p.best = some gm) then
      modPtp (fun p => { p with delay := pathDelay s late, asked := false, exchanges := min 4 (p.exchanges + 1) }) s
    else s)

/-! ## The servo (R139, R142) -/

/-- The mean of offsets, rounded to the nearest ns. -/
def meanOf (l : List Int) : Int := if l = [] then 0 else nearDiv l.sum l.length

/-- Every offset lies within 1 microsecond of their mean. -/
def agree (l : List Int) : Bool :=
  l.all fun o => decide ((o * l.length - l.sum).natAbs ≤ 1000 * l.length)

/-- The last `n` offsets all satisfy `p`. -/
def lastAll (n : Nat) (p : Int → Bool) (l : List Int) : Bool :=
  decide (n ≤ l.length) && (l.take n).all p

/-- A STEP_REFUSED event (R144). -/
def stepRefused (kind path : Nat) (offset : Int) (gm : Nat) (s : State) : State :=
  emit 0x02E0 0xFFFF 0
    ([BitVec.ofNat 8 kind, BitVec.ofNat 8 path] ++ leBytes 2 0 ++
      leBytes 8 (BitVec.ofInt 64 offset).toNat ++ beBytes 8 gm) (raise 2 2 s)

/-- A refusal (rows 5 and 12 of R139): HOLDOVER, and STEP_REFUSED. -/
def refuse (row12 : Bool) (bound : Int) (offset : Int) (gm : Nat) (s : State) : State :=
  let s := hold .holdover s
  stepRefused 1 s.bel.ptp.path offset gm
    (modPtp (fun p => { p with refusal := some { bound, row12, gm }, offs := [], filts := []
                               qualifying := none }) s)

/-- TRACK entered with a grandmaster that the servo now follows. -/
def trackNow (gm : Nat) (s : State) : State :=
  modPtp (fun p => { p with tracked := some gm, refusal := none, qualifying := none, filts := []
                            freqUsed := false }) (setServo .track s)

/-- A step by the mean of the last four offsets (row 6). -/
def stepByMean (s : State) : State :=
  let m := meanOf (s.bel.ptp.offs.take 4)
  modPtp (fun p => { p with offs := [], filts := [] }) (stepClock m s)

/-- Row 6 when its condition holds. -/
def row6 (jump : Int) (s : State) : Option State :=
  if lastAll 4 (fun o => decide (1000 < o.natAbs ∧ (o.natAbs : Int) ≤ jump)) s.bel.ptp.offs then
    some (modPtp (fun p => { p with freqUsed := false }) (setServo .track (stepByMean s)))
  else none

/-- The increment steered, within the range of R132. -/
def steer (s : State) : State :=
  let s := accrue s
  let x := clip 6870573285 6873322063 (Config.servoSteer s.bel.incr s.bel.ptp.filtered)
  { s with bel := { s.bel with incr := BitVec.ofInt 40 x } }

/-- A measurement in TRACK or LOCKED: rows 5 to 8 in order, else steering. -/
def measureTracking (gm : Nat) (s : State) : State :=
  let p := s.bel.ptp
  let jump := fld p.f 6
  if lastAll 4 (fun o => decide (jump < (o.natAbs : Int))) p.offs then
    refuse false jump (meanOf (p.offs.take 4)) gm s
  else match row6 jump s with
    | some t => t
    | none =>
      let s := steer s
      if p.servo = .track ∧ lastAll 16 (fun o => decide (o.natAbs ≤ 50)) p.filts then setServo .locked s
      else if p.servo = .locked ∧ lastAll 4 (fun o => decide (100 < o.natAbs)) p.filts then setServo .track s
      else s

/-- R142: the offsets of the refused master since the refusal; 8 in a row beyond the bound and within 1
microsecond of their mean are reported as persistent, once. -/
def measureRefused (gm : Nat) (offset : Int) (s : State) : State :=
  match s.bel.ptp.refusal with
  | none => s
  | some r =>
    if r.gm ≠ gm then s
    else
      let offs := (offset :: r.offs).take 8
      let due := decide (offs.length = 8) && offs.all (fun o => decide (r.bound < (o.natAbs : Int))) &&
        agree offs && r.reported.isNone
      let s := modPtp (fun p => { p with refusal := some { r with
        offs := offs, reported := if due then some (meanOf offs) else r.reported } }) s
      if due then stepRefused 2 s.bel.ptp.path (meanOf offs) gm s else s

/-- A measurement in HOLDOVER: row 14 after a refusal under row 12, row 10 with the grandmaster last
tracked, else the refusal goes on. -/
def measureHoldover (gm : Nat) (offset : Int) (s : State) : State :=
  let p := s.bel.ptp
  let jump := fld p.f 6
  let row14 := (match p.refusal with
    | some r => r.row12 && decide (r.gm = gm)
    | none => false) && lastAll 4 (fun o => decide (o.natAbs ≤ 1000)) p.offs
  if decide (p.tracked = some gm) && lastAll 4 (fun o => decide ((o.natAbs : Int) ≤ jump)) p.offs then
    let s := trackNow gm s
    (row6 jump s).getD s
  else if row14 then trackNow gm s
  else measureRefused gm offset s

/-- A measurement in REQUALIFY, `k` intervals after the last: rows 11 and 12 after 16 intervals. -/
def measureRequalify (gm k : Nat) (s : State) : State :=
  let s := modPtp (fun p => { p with intervals := p.intervals + k }) s
  let p := s.bel.ptp
  if p.intervals < 16 then s
  else if lastAll 4 (fun o => decide (o.natAbs ≤ 1000)) p.offs then trackNow gm s
  else refuse true 1000 (p.offs.headD 0) gm s

/-- A measurement in ACQUIRE: row 2, the initial set. -/
def measureAcquire (gm : Nat) (offset : Int) (s : State) : State :=
  let l := s.bel.ptp.offs.take 4
  if l.length = 4 ∧ agree l then
    let s := setClock ((clockNs s : Int) + offset).toNat s.bel.clock.frac s
    modPtp (fun p => { p with offs := [], filts := [] }) (trackNow gm s)
  else s

/-- The chosen master's Sync interval in ticks. -/
def syncTicks (s : State) : Nat :=
  intervalTicks (match chosen s.bel.ptp with
    | some m => m.a.logSync
    | none => 0)

/-- The Sync intervals since the last Sync, to the nearest, at least one: where it is more, an interval without a
measurement has broken every run of consecutive ones (R139; the half interval is the model's, log entry 91). -/
def syncIntervals (s : State) : Nat :=
  max 1 ((2 * (s.tick - s.bel.ptp.lastSync) + syncTicks s) / (2 * syncTicks s))

/-- The measurement taken into the servo's windows. -/
def noteOffset (offset : Int) (s : State) : State :=
  let s := if syncIntervals s = 1 then s else modPtp freshRuns s
  modPtp (fun p =>
    let offs := (offset :: p.offs).take 16
    let filt := Config.servoFilter p.filtered offs
    { p with offs := offs, filtered := filt, filts := (filt :: p.filts).take 16, lastSync := s.tick }) s

/-- The time in 0.1 ns by which a Sync arrived at the pins later than it was sent (R134). -/
def syncLag (s : State) (m : SyncMeas) : Int := -(m.late + rxCorrection s (ptpPort s) m.carrier)

/-- The offset of a measurement: master time less local time, the mean path delay taken into account, after the
asymmetry correction of its path (R139, R146). -/
def corrected (s : State) (m : SyncMeas) : Int :=
  nearDiv (10 * s.bel.ptp.delay - syncLag s m) 10 + fld s.bel.ptp.f (if m.path = 0 then 7 else 8)

/-- PTP_SYNC_RECEIVED (R137, R139): a measurement on the PTP port of the chosen grandmaster; ignored until
four exchanges have completed after a change of path. -/
def execPtpSyncReceived (m : SyncMeas) (s : State) : Ran :=
  ran s (if !ptpHears s then s
    else
      let s := notePath s
      let p := s.bel.ptp
      if m.path ≠ p.path ∨ m.lane ≠ fnat p.f 10 ∨ p.best ≠ some m.gm then s
      else if p.exchanges < 4 then modPtp (fun p => { p with lastSync := s.tick, lag := syncLag s m }) s
      else
        let o := corrected s m
        let k := syncIntervals s
        let s := modPtp (fun p => { p with lag := syncLag s m }) (noteOffset o s)
        match p.servo with
        | .unset => s
        | .acquire => measureAcquire m.gm o s
        | .track | .locked => measureTracking m.gm s
        | .holdover => measureHoldover m.gm o s
        | .requalify => measureRequalify m.gm k s)

/-- PTP_CONFIG_APPLY (R146): the stored fields take effect together. -/
def execPtpConfigApply (s : State) : Ran :=
  ran s (match s.bel.ptp.stored with
    | none => s
    | some f =>
      let old := s.bel.ptp.f
      let s := modPtp (fun p => { p with f := f, stored := none }) s
      let moved := fld old 2 ≠ fld f 2 ∨ fld old 10 ≠ fld f 10 ∨ fld old 1 ≠ fld f 1
      let s := if moved then modPtp (fun p => { p with masters := [] }) s else s
      let s := notePath s
      if s.bel.ptp.servo = .holdover ∨ s.bel.ptp.servo = .requalify then followFreq s else s)

/-! ## Opcodes 0x0201 to 0x0203 -/

/-- Field 10 names a port's first lane on every Turret that field 3 lets the PTP port use and whose layout
is not off (R146). -/
def ptpLaneOk (s : State) (turret lane : Nat) : Bool :=
  subLaneOk s (match turret with
    | 1 => 0
    | 2 => 1
    | _ => 2) lane

/-- 0x0201: configure PTP; every field as sent, stored until the next Sync interval (R146). -/
def opConfigurePtp : Op where
  opcode := 0x0201
  specs := fun _ _ => [pSel [0, 1], pNum 0 127, pSel [0, 1, 2], pSel [0, 1], pNum 2 10,
    pNum 1000 1000000000, pNum (-100000) 100000 1 true, pNum (-100000) 100000 1 true, pSel [0, 1],
    pFix 0 7]
  once := fun _ f s => if ptpLaneOk s (fnat f 3) (fnat f 10) then none else some .badState
  apply := fun _ f s => { s := modPtp (fun p => { p with stored := some f }) s }

/-- The 64-bit signed number of two words, low word first. -/
def signed64 (lo hi : Word) : Int := (BitVec.ofNat 64 (lo.toNat + hi.toNat * 2 ^ 32)).toInt

/-- The current mean of the refused master's offsets (R142). -/
def refusedMean (s : State) : Option Int :=
  match s.bel.ptp.refusal with
  | some r => r.reported.map fun _ => meanOf r.offs
  | none => none

/-- 0x0202: accept a persistent refused offset (R143): the clock steps by the current mean, and the servo
tracks that master (row 13). -/
def opAcceptRefusedOffset : Op where
  opcode := 0x0202
  specs := fun _ _ => [pAny, pAny]
  once := fun c _ s =>
    match refusedMean s with
    | none => some .badState
    | some m =>
      if 1000 < (m - signed64 (c.params.getD 0 0) (c.params.getD 1 0)).natAbs then some .refused else none
  apply := fun _ _ s =>
    match s.bel.ptp.refusal, refusedMean s with
    | some r, some m =>
      { s := modPtp (fun p => { p with offs := [], filts := [] }) (trackNow r.gm (stepClock m s)) }
    | _, _ => { s := s }

/-- A master is qualified. -/
def masterQualified (s : State) : Bool := s.bel.ptp.masters.any (qualified s)

/-- 0x0203: set time; words seconds low, seconds high, nanoseconds (PRESUMED, log entry 25). In UNSET the
initial set, into HOLDOVER; else a step, when no master is qualified. -/
def opSetTime : Op where
  opcode := 0x0203
  specs := fun _ _ => [pAny, pNum 0 65535, pNum 0 999999999]
  once := fun _ _ s =>
    if s.bel.ptp.servo ≠ .unset ∧ masterQualified s then some .badState else none
  apply := fun _ f s =>
    let ns := (fnat f 1 + fnat f 2 * 2 ^ 32) * 1000000000 + fnat f 3
    if s.bel.ptp.servo = .unset then { s := hold .holdover (setClock ns 0 s) }
    else { s := stepClock ((ns : Int) - clockNs s) s }

/-! ## Timebases (R153) -/

/-- A timebase is used by a context, a composition, a statistical multiplex group or an event unit; flows and DMA
channels use one only through these. -/
def tbInUse (s : State) (tb : Nat) : Bool :=
  s.ctxs.any (fun (_, c) => decide (c.st ≠ .closed ∧ fnat c.f 1 = tb)) ||
  s.cup.comps.any (fun (_, c) => match c with
    | some c => decide (fnat c.f 1 = tb)
    | none => false) ||
  s.groups.any (fun (_, g) => match g with
    | some g => decide (fnat g.f 1 = tb)
    | none => false) ||
  s.bel.units.any (fun (_, u) => decide (u.holder ≠ .free ∧ fnat u.f 1 = tb))

/-- 0x0210: configure a timebase; the rate and format in force change nothing. -/
def opConfigureTimebase : Op where
  opcode := 0x0210
  needsTime := fun _ _ => true
  specs := fun _ _ => [pFix 0 15, pSel (List.range 13),
    fun f => { kind := .pred fun v => (samplesOf v.toNat (fnat f 2)).isSome && decide (0 ≤ v) }]
  once := fun _ f s =>
    let tb := fnat f 1
    match tbOf s tb with
    | some t =>
      if (t.rate ≠ fnat f 2 ∨ t.format ≠ fnat f 3) ∧ tbInUse s tb then some .badState else none
    | none => none
  apply := fun _ f s =>
    let tb := fnat f 1
    let new : Timebase := { rate := fnat f 2, format := fnat f 3 }
    let same := match tbOf s tb with
      | some t => decide (t.rate = new.rate ∧ t.format = new.format)
      | none => false
    if same then { s := s }
    else
      let n := idealCount new.rate (clockNs s)
      let s := cancelPend (fun p => p.tb = tb) 2 s
      { s := { s with bel := { s.bel with
          tbs := tset none s.bel.tbs tb (some { new with last := some n.toNat }) } } }

/-- 0x0211: remove a timebase. -/
def opRemoveTimebase : Op where
  opcode := 0x0211
  needsTime := fun _ _ => true
  specs := fun _ _ => [pFix 0 15]
  once := fun _ f s =>
    let tb := fnat f 1
    if (tbOf s tb).isNone || tbInUse s tb then some .badState else none
  apply := fun _ f s =>
    let s := cancelPend (fun p => p.tb = fnat f 1) 2 s
    { s := { s with bel := { s.bel with tbs := tset none s.bel.tbs (fnat f 1) none } } }

/-- SLEW_COMPLETE (R158): the rest is below 100 ppm of one tick. -/
def execSlewComplete (tb : Nat) (s : State) : Ran :=
  ran s (match tbOf s tb with
    | none => s
    | some t =>
      if t.corr.natAbs < s.bel.incr.toNat then
        { s with bel := { s.bel with tbs := tset none s.bel.tbs tb (some { t with corr := 0 }) } }
      else s)

/-! ## Event units as commands set them (R155, R157) -/

/-- 0x0220: configure a raster event unit. -/
def opConfigureEventUnit : Op where
  opcode := 0x0220
  needsTime := fun _ _ => true
  specs := fun _ s =>
    let tb (f : Fields) : Timebase := tbD s (fnat f 2)
    [pNum 0 255, pNum 0 15,
     fun f =>
      let (_, _, ltot, voff) := formatOf (tb f).format
      { kind := .any true, cross := clip (-(voff : Int)) (ltot - voff - 1) },
     fun f => { kind := .any, cross := clip 0 ((samplesOf (tb f).format (tb f).rate).getD 1 - 1) },
     pSel [0, 1, 2], pNum 1 65535, pAny, pAny, pNum 0 10000000, pSel [0, 1, 6, 7],
     fun f => { kind := .num 0 (if fld f 10 = 6 then 15 else 63) }]
  once := fun _ f s =>
    let c : Int := fld f 7 + fld f 8 * 2 ^ 32
    if (unitOf s (fnat f 1)).holder = .firmware ∨ (tbOf s (fnat f 2)).isNone then some .badState
    else if fld f 10 = 6 ∧ fld (gpioOf s (fnat f 11)).f 1 ≠ 2 then some .badState
    else if fld f 5 = 2 ∧ c < countNow s (tbD s (fnat f 2)) then some .refused
    else none
  apply := fun _ f s => { s := setUnit (fnat f 1) (armUnit s .host (f.drop 1) [fnat f 11]) s }

/-- 0x0221: release a raster event unit. -/
def opReleaseEventUnit : Op where
  opcode := 0x0221
  needsTime := fun _ _ => true
  specs := fun _ _ => [pFix 0 255]
  once := fun _ f s => if (unitOf s (fnat f 1)).holder = .host then none else some .badState
  apply := fun _ f s => { s := setUnit (fnat f 1) {} s }

/-! ## Timestamp queues (R149, R150) -/

/-- A Turret's timestamp queue. -/
def tsqOf (s : State) (t : Nat) : Tsq := if t = 0 then s.bel.tsqA else s.bel.tsqB

/-- The state with a Turret's timestamp queue replaced. -/
def setTsq (t : Nat) (q : Tsq) (s : State) : State :=
  if t = 0 then { s with bel := { s.bel with tsqA := q } } else { s with bel := { s.bel with tsqB := q } }

/-- The STAT register of a Turret's queue. -/
def tsqStatOff (t : Nat) : Nat := if t = 0 then 0x20108 else 0x20114

/-- A transmit timestamp for a Turret's queue of 64: dropped, counted and flagged when it is full, with one
event at the first drop. -/
def tsqPush (t ident sec ns : Nat) (s : State) : State :=
  let q := tsqOf s t
  if q.entries.length < 64 then
    setTsq t { q with entries := q.entries ++ [(ident % 65536, sec % 65536, ns)] } s
  else
    let s := raise 2 t (bump (tsqStatOff t) 1 s)
    if q.full then s else emit 0x02E1 0xFFFF t [] (setTsq t { q with full := true } s)

/-- A read of a TSQ HI register: the value and the state it leaves. -/
def tsqRead (t : Nat) (s : State) : Word × State :=
  let q := tsqOf s t
  match q.entries with
  | [] => (0, s)
  | (i, sec, ns) :: rest =>
    (natWord (i * 65536 + sec), setTsq t { entries := rest, lo := natWord ns, full := false } s)

/-- TSQ_HI_READ (R149). -/
def execTsqHiRead (t : Nat) (s : State) : Ran :=
  ran s (if barUp s && decide (t < 2) then
      let (v, s) := tsqRead t s
      send (.regRead (if t = 0 then 0x20100 else 0x2010C) v) s
    else s)

/-! ## Registers (R133, R147, R154) -/

/-- A read of BELF_NOW32: the media-class time, and the host snapshot latched. -/
def now32Read (s : State) : Word × State :=
  (mediaClass (clockNs s),
    { s with bel := { s.bel with snapSec := s.bel.clock.sec, snapNs := s.bel.clock.ns } })

/-- BELF_NOW32_READ (R133). -/
def execBelfNow32Read (s : State) : Ran :=
  ran s (if barUp s then
      let (v, s) := now32Read s
      send (.regRead 0x20000 v) s
    else s)

/-- A read of BELF_TBt_FC_LO: the low word, and the high word latched from the same tick. -/
def fcRead (tb : Nat) (s : State) : Word × State :=
  if (tbOf s tb).isNone then (0, s)
  else
    let n := BitVec.ofInt 64 (rasterCount s tb)
    (n.setWidth 32, { s with bel := { s.bel with
      fcHi := tset 0 s.bel.fcHi tb ((n >>> 32).setWidth 32) } })

/-- TB_FRAME_COUNT_READ (R154). -/
def execTbFrameCountRead (tb : Nat) (s : State) : Ran :=
  ran s (if barUp s && decide (tb < 16) then
      let (v, s) := fcRead tb s
      send (.regRead (0x21000 + 0x20 * tb) v) s
    else s)

/-- The servo state's code (R138). -/
def servoCode : Servo → Nat
  | .unset => 0
  | .acquire => 1
  | .track => 2
  | .locked => 3
  | .holdover => 4
  | .requalify => 5

/-- BELF_SERVO_STAT (R147). -/
def servoStat (s : State) : Word :=
  let p := s.bel.ptp
  let persist := match p.refusal with
    | some r => r.reported.isSome
    | none => false
  natWord (b2n persist * 2 ^ 15 + b2n (p.servo = .holdover && p.refusal.isSome) * 2 ^ 14 +
    b2n s.pins.ppsPresent * 2 ^ 13 + b2n p.freqUsed * 2 ^ 12 + b2n s.pins.freq10m * 2 ^ 11 +
    ptpPath s * 2 ^ 10 + fnat p.f 1 * 2 ^ 8 + servoCode p.servo)

/-- BELF_TBt_STAT (R154). -/
def tbStat (s : State) (tb : Nat) : Word :=
  match tbOf s tb with
  | none => 0
  | some t =>
    natWord (t.format * 2 ^ 16 + t.rate * 2 ^ 8 + b2n (rephaseDue t) * 4 +
      b2n (decide (t.corr ≠ 0) && !rephaseDue t) * 2 + 1)

/-- A signed number saturating at plus or minus 2^31 - 1 (R133). -/
def saturate32 (x : Int) : Word := intWord (clip (-2147483647) 2147483647 x)

/-- 0x0230: time status (R511). -/
def opReadTimeStatus : Op where
  opcode := 0x0230
  reads := true
  apply := fun _ _ s =>
    let p := s.bel.ptp
    let gm := toWords (beBytes 8 (p.best.getD 0))
    let off := BitVec.ofInt 64 p.filtered
    let flags := b2n p.tlv.isSome + 2 * b2n p.leap61 + 4 * b2n p.leap59 + 8 * b2n p.utcValid
    let pair (n : Nat) : List Word := [natWord n, natWord (n / 2 ^ 32)]
    let tlv := match p.tlv with
      | some t => [t.rateNum, t.rateDen, t.flags, t.localOff, t.jump] ++ pair t.nextJump ++
          pair t.nextJam ++ pair t.prevJam ++ [t.prevOff]
      | none => List.replicate 12 0
    { s := s
      words := [servoStat s] ++ gm ++ [off.setWidth 32, (off >>> 32).setWidth 32] ++ pair p.delay ++
        [natWord flags, intWord p.utcOffset] ++ tlv }

end Sys2Proof.Machine
end

