-- ==== Sys2Proof/Machine/Words.lean ====
section
/-! DEFINITION. The 40-bit words of module DRAM: packings, planes, the conversion to 8 bits, compression groups
(R198, R221, R224, R225). -/

namespace Sys2Proof.Machine

/-- A sample of a HEVC Main context (R198): its 10 bits brought to 8. -/
def to8 (v : Nat) : Nat := min 255 ((v + 2) / 4)

/-- Four 10-bit samples in a word, the leftmost in the lowest bits (R224). -/
def packFour (a b c d : Nat) : BitVec 40 := BitVec.ofNat 40 (a + b * 2 ^ 10 + c * 2 ^ 20 + d * 2 ^ 30)

/-- Three 12-bit samples and a tag in a word (R224). -/
def packThree (a b c tag : Nat) : BitVec 40 := BitVec.ofNat 40 (a + b * 2 ^ 12 + c * 2 ^ 24 + tag * 2 ^ 36)

/-- A line in words, padded at its end with copies of its last sample (R224): four samples a word, or three with
tag 0 for 8-bit reconstructions (R225). -/
def lineWords (eight : Bool) (l : List Nat) : List (BitVec 40) :=
  let n := if eight then 3 else 4
  let at' (i : Nat) : Nat := l.getD i (l.getLastD 0)
  (List.range (ceilDiv l.length n)).map fun i =>
    if eight then packThree (at' (3 * i)) (at' (3 * i + 1)) (at' (3 * i + 2)) 0
    else packFour (at' (4 * i)) (at' (4 * i + 1)) (at' (4 * i + 2)) (at' (4 * i + 3))

/-- The samples of a line of `n` in words of four. -/
def wordSamples (n : Nat) (l : List (BitVec 40)) : List Nat :=
  (l.flatMap fun w => [(w.extractLsb' 0 10).toNat, (w.extractLsb' 10 10).toNat, (w.extractLsb' 20 10).toNat,
    (w.extractLsb' 30 10).toNat]).take n

/-- The first `n` elements of a list of lines, its last one repeated when it is shorter. -/
def padTo (n : Nat) (l : List (List Nat)) : List (List Nat) :=
  l.take n ++ List.replicate (n - l.length) (l.getLastD [])

/-- A plane in words (R224). -/
def planeWords (eight : Bool) (l : List (List Nat)) : List (BitVec 40) := l.flatMap (lineWords eight)

/-- The words of each plane of a reconstruction, Y, Cb and Cr (R225): padded to a height of 16 x ceil(h / 16)
luma lines, with the chroma lines that match. -/
def reconPlanes (eight : Bool) (h chroma : Nat) (planes : List (List (List Nat))) : List (List (BitVec 40)) :=
  let n := 16 * ceilDiv h 16
  let c := if chroma = 0 then n / 2 else n
  [planeWords eight (padTo n (planes.getD 0 [])), planeWords eight (padTo c (planes.getD 1 [])),
    planeWords eight (padTo c (planes.getD 2 []))]

/-- The groups of 64 words of a plane, the last perhaps shorter (R221). -/
def groupsOf (l : List (BitVec 40)) : List (List (BitVec 40)) :=
  (List.range (ceilDiv l.length 64)).map fun i => slice l (64 * i) 64

/-- The descriptor byte of a group (R221): its stored length in 64-byte units, 1 to 5, of which 5 is raw. -/
def groupDesc (l : List (BitVec 40)) : Byte := BitVec.ofNat 8 (clip 1 5 (Config.groupLength l)).toNat

/-- The bytes that a described group takes (R221): no more than its raw bytes. -/
def storedBytes (l : List (BitVec 40)) (d : Byte) : Nat :=
  if d.toNat = 5 then 5 * l.length else min (5 * l.length) (64 * d.toNat)

/-- The groups of a reconstruction's planes. -/
def planeGroups (planes : List (List (BitVec 40))) : List (List (BitVec 40)) := planes.flatMap groupsOf

/-- A reconstruction as a buffer holds it: its words, its descriptors where compression is on, and the bytes that it
takes (R221). -/
def packRecon (compress : Bool) (planes : List (List (BitVec 40))) : List (BitVec 40) × List Byte × Nat :=
  let l := planeGroups planes
  if compress then (planes.flatten, l.map groupDesc, (l.map fun w => storedBytes w (groupDesc w)).sum)
  else (planes.flatten, [], 5 * planes.flatten.length)

end Sys2Proof.Machine
end

