-- ==== Sys2Proof/Machine/Admit.lean ====
section
/-! DEFINITION. Picture geometry (R152, R169), footprints (R222, R284, R311, R319, R337) and admission
(R15 to R25, R307). -/

namespace Sys2Proof.Machine

/-! ## Geometry -/

/-- The geometry of a coded frame: its width and height, whether it is coded as field pictures, whether a frame
here is the pair of them (an encode frame or a composed one, R207) or one (a decode frame, R287), the height of
one picture, and the exact frame rate. -/
structure Geo where
  w : Nat
  h : Nat
  fields : Bool
  pair : Bool
  ph : Nat
  num : Nat
  den : Nat

/-- The geometry of a format and rate selector. -/
def geoOf (format rate : Nat) : Geo :=
  let (w, h, _, _) := formatOf format
  let (num, den) := rateN rate
  let i := format == 2
  { w, h, fields := i, pair := i, ph := if i then h / 2 else h, num, den }

/-- The geometry of timebase `tb`. -/
def geoTb (s : State) (tb : Nat) : Geo := geoOf (tbD s tb).format (tbD s tb).rate

/-- CTUs in a row (R169). -/
def Geo.ctus (g : Geo) : Nat := ceilDiv g.w 64

/-- Segments in a row (R169). -/
def Geo.segs (g : Geo) : Nat := ceilDiv g.ctus 4

/-- CTU rows of a picture (R169). -/
def Geo.prows (g : Geo) : Nat := ceilDiv g.ph 64

/-- CTU rows of a frame: those of the top field, then those of the bottom one. -/
def Geo.rows (g : Geo) : Nat := if g.pair then 2 * g.prows else g.prows

/-- The picture of a frame that row `r` belongs to: 0, or 1 for a bottom field. -/
def Geo.picOf (g : Geo) (r : Nat) : Nat := r / max 1 g.prows

/-- Row `r` of a frame as a row of its picture. -/
def Geo.inPic (g : Geo) (r : Nat) : Nat := r % max 1 g.prows

/-- Height in lines of CTU row `r` of a frame. -/
def Geo.rowHeight (g : Geo) (r : Nat) : Nat := min 64 (g.ph - 64 * g.inPic r)

/-- CTUs of segment `j` of a row. -/
def Geo.segCtus (g : Geo) (j : Nat) : Nat := min 4 (g.ctus - 4 * j)

/-- Pictures that a frame of the raster is coded as. -/
def Geo.pics (g : Geo) : Nat := if g.fields then 2 else 1

/-! ## Contexts -/

/-- Context `c`. -/
def ctxOf (s : State) (c : Nat) : Ctx := tget {} s.ctxs c

/-- The state with context `c` changed. -/
def modCtx (c : Nat) (f : Ctx → Ctx) (s : State) : State := { s with ctxs := tmod {} s.ctxs c f }

/-- A context's timebase. -/
def Ctx.tb (x : Ctx) : Nat := fnat x.f 1

/-- The geometry of a context's frames: each field is a decode frame of its own (R287). -/
def ctxGeo (s : State) (x : Ctx) : Geo :=
  let g := geoTb s x.tb
  { g with pair := g.pair && !x.decode }

/-- The composition that feeds an encode context (R304). -/
def compOf (s : State) (c : Nat) : Option Comp := tget none s.cup.comps c

/-- The delay length of composition `c` in frames. -/
def delayOf (s : State) (c : Nat) : Nat :=
  match compOf s c with
  | some x => fnat x.f 7
  | none => 0

/-- The effort factor of R15 in tenths. -/
def effortTenths : Nat → Nat
  | 0 => 16
  | 1 => 10
  | _ => 6

/-- The budget cost of a context in units of 1,000 luma samples/s (R15, R16). -/
def costK (s : State) (x : Ctx) : Nat :=
  let g := ctxGeo s x
  let e := if x.decode then 3 else effortTenths (fnat x.f 7)
  ceilDiv (g.w * g.h * g.num * e) (g.den * 10000)

/-- The open contexts (R193): every one that is not CLOSED. -/
def openCtxs (s : State) : List (Nat × Ctx) := s.ctxs.filter fun (_, x) => x.st ≠ .closed

/-- The sum of R16. -/
def lumaK (s : State) : Nat := ((openCtxs s).map fun (_, x) => costK s x).sum

/-- The profile of a pending 0x0901. -/
def pendProfile (p : Pend) : Nat := fnat p.f 1

/-- The pending profile changes; of those with one change boundary only the last accepted is in the table (R21). -/
def profilesPending (l : List Pend) : List Pend := l.filter fun p => p.opcode = 0x0901

/-- The rated budget that admission compares with (R21), in luma samples/s. -/
def admitBudget (s : State) : Nat :=
  (profilesPending s.cmd.pend).foldl (fun m p => min m (profileBudget s (pendProfile p)))
    (profileBudget s s.watch.profile)

/-- The sum of contexts' costs fits a budget (R16). -/
def fits (k budget : Nat) : Bool := decide (k * 1000 ≤ budget)

/-- The peak rate in kb/s that condition 3 counts for a context (R23, R263). -/
def peakOf (x : Ctx) : Nat :=
  if x.decode then fnat x.f 13
  else match x.member with
    | some m => m.max
    | none => fnat x.rate.f 1

/-- The bandwidth of a raw rate in bytes/s times 10,010, for tenths of a byte per luma sample. -/
def bandUnits (g : Geo) (tenths : Nat) : Nat := g.w * g.h * g.num * (1001 / g.den) * tenths

/-! ## Footprints -/

/-- Two for 4:2:0 and four for 4:2:2: the samples of all planes are (2 + this) / 4 ... of luma: c of R222
times 4. -/
def chromaQ (sel : Nat) : Nat := if sel = 0 then 2 else 4

/-- f_src of R222: a composed frame in bytes. -/
def fSrc (w h chroma : Nat) : Nat := ceilDiv (w * h * (4 + chromaQ chroma)) 16 * 5

/-- Hc of R222. -/
def padHeight (h : Nat) : Nat := 16 * ceilDiv h 16

/-- f_rec of R222: a reconstruction in bytes. -/
def fRec (w h chroma : Nat) : Nat := fSrc w (padHeight h) chroma

/-- f_desc of R222 with compression on. -/
def fDesc (w h chroma : Nat) : Nat :=
  let hc := padHeight h
  let ch := if chroma = 0 then hc / 2 else hc
  ceilDiv (ceilDiv w 4 * hc) 64 + 2 * ceilDiv (ceilDiv (w / 2) 4 * ch) 64

/-- f_pyr of R222. -/
def fPyr (w h : Nat) : Nat := ceilDiv (w / 4 * ceilDiv h 4 + w / 16 * ceilDiv h 16) 4 * 5

/-- One MiB. -/
def mib : Nat := 1048576

/-- The footprint of a context in MiB (R222, R284), for composition `c`. -/
def footprintMib (s : State) (c : Nat) (x : Ctx) : Nat :=
  let g := ctxGeo s x
  let ch := fnat x.f 4
  if x.decode then
    let y := fnat x.f 11
    let p := if g.fields then fnat x.f 12 + 2 * (y + 1) else fnat x.f 12 + y + 2
    ceilDiv (p * (fRec g.w g.ph ch + fDesc g.w g.ph ch) +
      ceilDiv (fnat x.f 13 * 1000 * (y + 2) * g.den) (8 * g.num) + mib) mib
  else
    let desc := if fnat x.f 16 = 1 then fDesc g.w g.ph ch else 0
    let n := if delayOf s c = 0 then fnat x.f 8 + 1 else 0
    ceilDiv (fnat x.f 15 * (fRec g.w g.ph ch + desc + fPyr g.w g.ph) + n * fSrc g.w g.h ch + mib) mib

/-- f_prx of R337: words of the planes at 1/8 scale. -/
def fPrx (w h chroma : Nat) : Nat :=
  let ch := if chroma = 0 then h / 2 else h
  (ceilDiv (ceilDiv w 8) 4 * ceilDiv h 8 + 2 * (ceilDiv (ceilDiv (w / 2) 8) 4 * ceilDiv ch 8)) * 5

/-- A delay-line slot in bytes (R337). -/
def slotBytes (s : State) (x : Comp) : Nat :=
  let g := geoTb s (fnat x.f 1)
  let ch := fnat x.f 2
  ceilDiv (fSrc g.w g.h ch + fPyr g.w g.h + fPrx g.w g.h ch) 65536 * 65536 + mib

/-- The footprint of a composition's delay line in MiB (R337): none for a length of 0. -/
def delayMib (s : State) (x : Comp) : Nat :=
  let l := fnat x.f 7
  if l = 0 then 0 else ceilDiv ((l + 5) * slotBytes s x) mib

/-- The content of an asset in bytes (R319). -/
def assetBytes (a : Asset) : Nat :=
  match a.kind with
  | 0 => a.width * a.height * 5
  | 1 => a.width * a.height * a.frames * 5
  | _ => 35937 * 5

/-! ## Sources (R310, R311) -/

/-- The media lane of an SDI source id, the first of its group for a quad-link one. -/
def sdiLane (id : Nat) : Nat := if id < 0x1100 then 16 + (id - 0x1000) else 16 + 4 * (id - 0x1100)

/-- A source id is in the table of R310. -/
def sourceIdOk (id : Nat) : Bool :=
  decide (id < 0x1010 ∨ (0x1100 ≤ id ∧ id < 0x1104) ∨ (0x2000 ≤ id ∧ id < 0x2100))

/-- Ingress flow `i`. -/
def iflowOf (s : State) (i : Nat) : Option IFlow := tget none s.flows.ingress i

/-- Lane `n`. -/
def laneOf (s : State) (n : Nat) : Lane := tget {} s.lanes.lanes n

/-- A source id names a configured video flow, an SDI input lane or a context that is not CLOSED. -/
def sourceOpen (s : State) (id : Nat) : Bool :=
  if id < 0x1000 then
    match iflowOf s id with
    | some x => decide (fnat x.f 2 = 0)
    | none => false
  else if id < 0x2000 then
    let l := laneOf s (sdiLane id)
    decide (fnat l.media 1 = 1) && (decide (0x1100 ≤ id) == decide (fnat l.media 2 = 5))
  else
    let x := ctxOf s (id - 0x2000)
    x.decode && decide (x.st ≠ .closed)

/-- The format and rate selectors of a source, when they are known: a flow's are configured, a context's are
its timebase's, an SDI input's are those its ring was set up for, else those detected. -/
def sourceShape (s : State) (id : Nat) : Option (Nat × Nat) :=
  if id < 0x1000 then
    match iflowOf s id with
    | some x => some (fnat x.f 24 % 256, fnat x.f 24 / 256 % 256)
    | none => none
  else if id < 0x2000 then
    match tget none s.cup.sources id with
    | some x => some (x.format, x.rate)
    | none =>
      let l := laneOf s (sdiLane id)
      if l.trs then some (l.format, l.rate) else none
  else
    let x := ctxOf s (id - 0x2000)
    some ((tbD s x.tb).format, (tbD s x.tb).rate)

/-- The enabled video layers of every composition, with their composition. -/
def liveLayers (s : State) : List (Nat × Comp × VLayer) :=
  s.cup.comps.flatMap fun (c, x) =>
    match x with
    | some x => x.layers.filterMap fun (_, l) =>
        match l with
        | some l => if fnat l.f 1 = 1 then some (c, x, l) else none
        | none => none
    | none => []

/-- The buffered sources in use, each once (R311). -/
def ringSources (s : State) : List Nat :=
  (liveLayers s).foldl (fun acc (_, _, l) =>
    let id := fnat l.f 2
    if id < 0x2000 ∧ fnat l.f 3 = 0 ∧ id ∉ acc then acc ++ [id] else acc) []

/-- The bytes of one ring frame of a source, and its geometry: 4:2:2 planes (R311). -/
def ringFrame (s : State) (id : Nat) : Nat × Geo :=
  match sourceShape s id with
  | some (f, r) =>
    let g := geoOf f r
    (fSrc g.w g.h 1, g)
  | none => (0, geoOf 0 0)

/-! ## The checks of R23 and R307 -/

/-- The bandwidth estimate (R25, R307) in bytes/s times 10,010. -/
def bandwidth (s : State) : Nat :=
  ((openCtxs s).map fun (_, x) => bandUnits (ctxGeo s x) (if x.decode then 54 else 108)).sum +
  ((ringSources s).map fun id =>
    let (b, g) := ringFrame s id
    2 * b * g.num * (1001 / g.den) * 10).sum

/-- The delay of a composition's audio in samples (R340). -/
def audioDelay (s : State) (c : Nat) : Nat :=
  match compOf s c with
  | some x =>
    let (num, den) := rateN (tbD s (fnat x.f 1)).rate
    (2 * fnat x.f 7 * 48000 * den + num) / (2 * num)
  | none => 0

/-- The audio ring of an ingress flow in bytes, whole MiB (R380). -/
def audioRing (s : State) (x : IFlow) : Nat :=
  if fnat x.f 2 = 3 ∨ fnat x.f 2 = 4 then
    let late := match x.bind with
      | some (c, trim, _) => audioDelay s c + trim
      | none => 0
    ceilDiv ((96000 + late) * fnat x.f 24 * 4) mib * mib
  else 0

/-- The allocation of module DRAM in bytes (condition 5, R307). -/
def allocated (s : State) : Nat :=
  ((openCtxs s).map fun (c, x) => footprintMib s c x * mib).sum +
  (s.cup.comps.map fun (_, x) => match x with
    | some x => delayMib s x * mib
    | none => 0).sum +
  ((ringSources s).map fun id => 4 * (ringFrame s id).1).sum +
  (s.flows.ingress.map fun (_, x) => match x with
    | some x => audioRing s x
    | none => 0).sum +
  (s.cup.assets.map fun (_, a) => match a with
    | some a => assetBytes a
    | none => 0).sum

/-- The members of a group. -/
def membersOf (s : State) (g : Nat) : List (Nat × Ctx) :=
  (openCtxs s).filter fun (_, x) => match x.member with
    | some m => m.group = g
    | none => false

/-- The six conditions of R23, in order; the first that fails, from 1. -/
def admission (s : State) : Option Nat :=
  if 256 < (openCtxs s).length then some 1
  else if !fits (lumaK s) (admitBudget s) then some 2
  else if (if spireCount s = 16 then 24000000 else 12000000) <
      ((openCtxs s).map fun (_, x) => peakOf x).sum then some 3
  else if (if s.mem.setpoint = 0 then 400000000000 else 320000000000) * 10010 < bandwidth s then some 4
  else if dramBytes s - 4 * 2 ^ 30 < allocated s then some 5
  else if (List.range 8).any (fun g => decide (32 < (membersOf s g).length)) then some 6
  else none

/-- A video layer takes a scaler (R307). -/
def takesScaler (l : VLayer) : Bool := decide (fnat l.f 10 ≠ fnat l.f 6 ∨ fnat l.f 11 ≠ fnat l.f 7)

/-- The scalers in use. -/
def scalersUsed (s : State) : Nat := ((liveLayers s).filter fun (_, _, l) => takesScaler l).length

/-- The scaler and composed-output limits of R307. -/
def cupolaFits (s : State) : Bool :=
  decide (scalersUsed s ≤ 16) &&
  (liveLayers s).all (fun (_, x, l) =>
    let g := geoTb s (fnat x.f 1)
    !takesScaler l || decide (fnat l.f 10 * fnat l.f 11 * g.num ≤ 4000000000 * g.den)) &&
  decide ((s.cup.comps.map fun (_, x) => match x with
    | some x =>
      let g := geoTb s (fnat x.f 1)
      g.w * g.h * g.num * (1001 / g.den)
    | none => 0).sum ≤ 40000000000 * 1001)

/-- Stage 14 for a change: NO_RESOURCE when the state it would leave fails R23 or R307. -/
def admitAfter (s : State) : Option Status :=
  if (admission s).isSome || !cupolaFits s then some .noResource else none

/-! ## Levels (R197) -/

/-- The listed levels. -/
def levelList : List Int := [10, 20, 21, 30, 31, 40, 41, 50, 51, 52, 60, 61, 62]

/-- The lowest level for a format and rate (R197). -/
def minLevel (format rate : Nat) : Nat :=
  let (num, den) := rateN rate
  let grp := if num ≤ 30 * den then 0 else if num ≤ 60 * den then 1 else 2
  match format with
  | 0 => [31, 40, 41].getD grp 0
  | 1 => [40, 41, 50].getD grp 0
  | 2 => 40
  | 3 => [50, 51, 52].getD grp 0
  | _ => [60, 61, 62].getD grp 0

end Sys2Proof.Machine
end

