-- ==== Sys2Proof/Machine/Pool.lean ====
section
/-! DEFINITION. The reference pool (R209 to R217, R290): marks, generations, holders, the kept set, and the
opening of frames at a boundary (R205, R206, R212). -/

namespace Sys2Proof.Machine

/-! ## Buffers -/

/-- Buffer `b` of a context's pool. -/
def bufOf (x : Ctx) (b : Nat) : Buf := x.pool.getD b {}

/-- The context with buffer `b` changed. -/
def modBuf (b : Nat) (f : Buf → Buf) (x : Ctx) : Ctx := { x with pool := x.pool.modify b f }

/-- A buffer that becomes UNUSED at `tick`. -/
def freed (tick : Nat) (b : Buf) : Buf := { gen := b.gen, since := tick }

/-- "UNUSED or HELD" of R211. -/
def dropped (tick : Nat) (b : Buf) : Buf :=
  if b.mark = .corrupt then b
  else if b.holders = 0 then freed tick b else { b with mark := .held }

/-- A buffer rebuilt or flushed (R201, R301): UNUSED with its generation advanced, now or when its last
holder closes. -/
def rebuilt (tick : Nat) (b : Buf) : Buf :=
  if b.holders = 0 then { freed (if b.mark = .unused then b.since else tick) b with gen := (b.gen + 1) % 256 }
  else { b with mark := if b.mark = .corrupt then .corrupt else .held, bumpAtRelease := true }

/-- A buffer that loses one holder (R211, R201). -/
def unheld (tick : Nat) (b : Buf) : Buf :=
  let b := { b with holders := b.holders - 1 }
  if b.holders ≠ 0 then b
  else if b.bumpAtRelease then { freed tick b with gen := (b.gen + 1) % 256 }
  else if b.mark = .held ∨ b.mark = .corrupt then freed tick b
  else b

/-- A buffer that gains one holder. -/
def held (b : Buf) : Buf :=
  { b with holders := b.holders + 1, mark := if b.mark = .unused then .held else b.mark }

/-- The UNUSED buffer that has been UNUSED longest, the lowest-numbered of equals (R212 step 4). -/
def allocBuf (x : Ctx) (limit : Nat) : Option Nat :=
  (List.range (min limit x.pool.length)).foldl (fun best i =>
    if (bufOf x i).mark ≠ .unused then best
    else match best with
      | none => some i
      | some j => if (bufOf x i).since < (bufOf x j).since then some i else best) none

/-- A buffer taken by a frame that opens (R209, R211): its generation advances, and the frame holds it. -/
def taken (mark : Mark) (frame : Nat) (poc : Int) (b : Buf) : Buf :=
  { mark, gen := (b.gen + 1) % 256, holders := 1, since := b.since, frame, poc }

/-- The pool resized (R201): new buffers have generation 0; a buffer above the size stays while it is in
use. -/
def resize (n : Nat) (pool : List Buf) : List Buf :=
  if pool.length ≤ n then pool ++ List.replicate (n - pool.length) {}
  else
    let rec trim : List Buf → List Buf
      | [] => []
      | b :: t => if b.mark = .unused then trim t else b :: t
    pool.take n ++ (trim (pool.drop n).reverse).reverse

/-- The pool size of a context (R195 field 15, R284). -/
def poolSize (s : State) (x : Ctx) : Nat :=
  if x.decode then
    if (ctxGeo s x).fields then fnat x.f 12 + 2 * (fnat x.f 11 + 1) else fnat x.f 12 + fnat x.f 11 + 2
  else fnat x.f 15

/-- A buffer becomes CORRUPT (R211, R217): it leaves the kept set, and the next frame to open is an IRAP. -/
def corruptBuf (b : Nat) (x : Ctx) : Ctx :=
  if (bufOf x b).mark = .unused then x
  else
    let x := modBuf b (fun u => { u with mark := .corrupt }) x
    { x with kept := x.kept.filter (· ≠ b), irapDue := true }

/-- A CORRUPT buffer without a holder is UNUSED at once (R211). -/
def settleCorrupt (tick b : Nat) (x : Ctx) : Ctx :=
  modBuf b (fun u => if u.mark = .corrupt ∧ u.holders = 0 then freed tick u else u) x

/-- The frames that have named a buffer as it stands and are not bound note what befalls it, for R219: the cause
byte of a memory fault 3 stands over any other, and else the first one. -/
def noteCause (c cause : Nat) (hit : Nat → Bool) (s : State) : State :=
  let pool := (ctxOf s c).pool
  let note (n : RefName) : RefName :=
    if hit n.buf && decide (n.gen = (pool.getD n.buf {}).gen) && (n.cause == 0 || cause == 3) then { n with cause := cause }
    else n
  { s with camp := { s.camp with frames := s.camp.frames.map fun r =>
      if r.ctx = c && !r.bound then
        { r with pics := r.pics.map fun q => { q with refs := q.refs.map note } }
      else r } }

/-- An uncorrectable error in buffer `b` of a pool (R211, R217). -/
def spoilBuf (c b : Nat) (s : State) : State :=
  if (bufOf (ctxOf s c) b).mark = .unused then s
  else modCtx c (fun x => settleCorrupt s.tick b (corruptBuf b x)) (noteCause c 3 (· == b) s)

/-! ## Frames open (R205 to R208, R212) -/

/-- The context keeps `keep` of its kept buffers and drops the rest (R211). -/
def keepOnly (tick : Nat) (keep : Nat → Bool) (x : Ctx) : Ctx :=
  let out := x.kept.filter fun b => !keep b
  out.foldl (fun x b => modBuf b (dropped tick) x) { x with kept := x.kept.filter keep }

/-- The kept set at a frame open (R212 step 2): an IRAP kept since the last open becomes LONG where
long-term IRAP is set; then the sliding window keeps the N_ref most recent, the long-term one among them. -/
def slideWindow (tick n : Nat) (x : Ctx) : Ctx :=
  let nref := fnat x.f 13
  let x :=
    if fnat x.f 14 = 1 then
      match x.kept.find? fun b => (bufOf x b).mark = .short ∧ (bufOf x b).poc = 0 ∧
        (bufOf x b).frame ≠ n with
      | some b =>
        let x := keepOnly tick (fun k => (bufOf x k).mark ≠ .long) x
        modBuf b (fun u => { u with mark := .long }) x
      | none => x
    else x
  let longs := x.kept.filter fun b => (bufOf x b).mark = .long
  let shorts := x.kept.filter fun b => (bufOf x b).mark ≠ .long
  let stay := shorts.take (nref - longs.length) ++ longs
  keepOnly tick (fun b => decide (b ∈ stay)) { x with kept := shorts ++ longs }

/-- Frame `n` opens as an IRAP (R205). -/
def irapNow (n : Nat) (x : Ctx) : Bool :=
  x.first || x.irapDue || fnat x.f 10 = 0 ||
    (fnat x.f 11 = 1 && decide (x.lastIrap + fnat x.f 12 ≤ n)) ||
    decide (2 ^ 24 ≤ x.picsSince) || x.kept.isEmpty

/-- The references that a picture names from the kept set (R204, R212 step 3). -/
def nameRefs (x : Ctx) : List RefName :=
  (x.kept.take (fnat x.f 13)).map fun b =>
    { buf := b, gen := (bufOf x b).gen, frame := (bufOf x b).frame, poc := (bufOf x b).poc }

/-- The refresh fields that take effect at a refresh point (R200): an IRAP, or the start of a GDR cycle. -/
def refreshPoint (x : Ctx) : Ctx :=
  match x.refreshNext with
  | some (a, b) => { x with f := fset (fset x.f 11 a) 12 b, refreshNext := none }
  | none => x

/-- The refresh columns of a GDR cycle (R206): ceil(N_ctu / R) CTUs wide. -/
def gdrWidth (g : Geo) (f : Fields) : Nat := ceilDiv g.ctus (max 1 (fnat f 12))

/-- One picture of frame `n` of an encode context opened: its record and the context after it. -/
def openPicture (tick n : Nat) (g : Geo) (irap : Bool) (gdr : Option (Nat × Nat)) (x : Ctx) : Pic × Ctx :=
  let x := if irap then keepOnly tick (fun b => (bufOf x b).mark = .long) x else x
  let refs := if irap then [] else nameRefs x
  let keep := fnat x.f 10 ≠ 0
  let poc : Nat := if irap then 0 else x.picsSince
  let b := allocBuf x (fnat x.f 15)
  let x := match b with
    | some b =>
      let fresh := gdr.map fun (p : Nat × Nat) => (p.2, min g.ctus ((p.1 + 1) * gdrWidth g x.f))
      let x := modBuf b (fun u => { taken (if keep then .short else .held) n poc u with fresh := fresh }) x
      if keep then { x with kept := b :: x.kept } else x
    | none => x
  let x := { x with picsSince := if irap then 1 else x.picsSince + 1 }
  ({ refs := refs, buf := b.getD 255, poc := poc, irap := irap, gdr := gdr, notKept := !keep || b.isNone }, x)

/-- Frame `n` of an ACTIVE encode context opened (R212 steps 2 to 4): one picture, or a field pair whose
top field is the IRAP when one is due (R207). The IRAP that it holds ends the models signalled before it (R251). -/
def openFrame (tick n : Nat) (g : Geo) (x : Ctx) : FrameRec × Ctx :=
  let first := x.first
  let x := slideWindow tick n x
  let irap := irapNow n x
  let x := if irap then refreshPoint x else x
  let cycles := !irap && fnat x.f 11 = 2 && fnat x.f 10 ≠ 0
  let start := cycles && x.gdr == 0
  let x := if start then refreshPoint x else x
  let gdr : Option (Nat × Nat) := if cycles then some (x.gdr, n - x.gdr) else none
  let (a, x) := openPicture tick n g irap gdr x
  let (l, x) :=
    if g.fields then
      let x := slideWindow tick n x
      let (b, x) := openPicture tick n g (irap && fnat x.f 10 = 0) gdr x
      ([a, b], x)
    else ([a], x)
  let cycle := fnat x.f 12
  let close (o : OldModel) : OldModel :=
    if o.until'.isNone && irap && decide (x.rate.oldFrom ≤ n) then { o with until' := some n } else o
  ({ ctx := 0, frame := n, bottom := false, decode := false, irap := irap, gdrStart := start, pics := l
     opening := first },
   { x with
    first := false, irapDue := false, lastOpen := some n
    rate := { x.rate with olds := x.rate.olds.map close }
    lastIrap := if irap then n else x.lastIrap
    framesSince := if irap then 0 else x.framesSince + 1
    gdr := if irap then 0 else if cycle = 0 then 0 else (x.gdr + 1) % cycle })

/-- The context rebuilt (R201): every buffer is freed or due to be, the pool is resized, and the next frame
is an IRAP. -/
def rebuild (tick size : Nat) (x : Ctx) : Ctx :=
  { x with pool := resize size (x.pool.map (rebuilt tick)), kept := [], first := true, gdr := 0
           rate := { x.rate with oldFrom := 0 } }

/-! ## References at bind (R163, R214) -/

/-- A named reference looked up at bind (R163, R214): 0 valid, 1 corrupt, 2 stale, 3 missing; its cause code of
R219, which in a decode context is a memory fault or other (R292). One that a memory fault has befallen since it was
named is corrupt, whatever its buffer has become since (R217, R220). -/
def lookRef (x : Ctx) (r : RefName) : RefName :=
  let b := bufOf x r.buf
  let why := if x.decode then 4 else if r.cause = 0 then 4 else r.cause
  let (found, cause) :=
    if (b.mark = .corrupt ∧ b.gen = r.gen) ∨ r.cause = 3 then (1, 3)
    else if b.gen ≠ r.gen then (2, why)
    else if r.dropped then (3, 1)
    else if b.mark = .unused ∧ !x.decode then (3, why)
    else (0, 0)
  { r with found := found, foundGen := b.gen, foundMark := b.mark, cause := cause }

/-- The substitute picture of a decode context (R291): the one that closed last with no incomplete row, still in its
buffer and not CORRUPT. -/
def substituteOf (x : Ctx) : Option Nat :=
  (x.whole.find? fun (b, gen) => (bufOf x b).gen = gen && decide ((bufOf x b).mark ≠ .corrupt)).map (·.1)

/-- The valid references of a bound frame. -/
def validRefs (l : List RefName) : List RefName := l.filter (·.found = 0)

end Sys2Proof.Machine
end

