-- ==== Sys2Proof/Machine/RateDome.lean ====
section
/-! DEFINITION. Rate control (R246 to R264): the buffer model, frame targets, row budgets, statistical
multiplex groups, and the opcodes 0x0520 to 0x052F. -/

namespace Sys2Proof.Machine

/-! ## Parameters in force -/

/-- W of R255: floor bits of one CTU. -/
def floorBits (codec : Nat) : Nat := if codec = 0 then 112 else 128

/-- C_pace of R256. -/
def pace : Nat → Nat
  | 0 => 6555
  | 1 => 4096
  | _ => 2458

/-- The codec's QP range (R248). -/
def qpRange (codec profile : Nat) : Int × Int :=
  if codec = 1 then (-12, 63) else if profile = 0 then (0, 51) else (-12, 51)

/-- The minimum peak M in kb/s of a context with these fields (R247). -/
def minPeak (g : Geo) (codec : Nat) : Nat :=
  ceilDiv (3 * (g.ctus * g.rows) * floorBits codec * g.num) (2 * g.den * 1000)

/-- The default peak of a format (R246). -/
def defaultPeak : Nat → Nat
  | 0 => 10000
  | 1 => 20000
  | 2 => 20000
  | 3 => 100000
  | _ => 400000

/-- The level's maximum bit rate in kb/s and CPB in bits for a context's fields. -/
def levelMax (f : Fields) : Nat × Nat := Config.levelMax (fnat f 2) (fnat f 3) (fnat f 5) (fnat f 6)

/-- The relation of a peak (R246 field 1). -/
def crossPeak (g : Geo) (f : Fields) (v : Int) : Int :=
  min (max v (minPeak g (fnat f 2))) (levelMax f).1

/-- The relation of a CPB size (R246 field 3) with peak `rp`. -/
def crossCpb (g : Geo) (f : Fields) (rp : Nat) (v : Int) : Int :=
  let v := if rp = 0 then v else min v ((levelMax f).2 / rp : Nat)
  max v (ceilDiv (2000 * g.den) g.num)

/-- The rate settings a context opens with (R199, R246, R248). -/
def defaultRate (g : Geo) (format : Nat) (f : Fields) : Rate :=
  let rp := crossPeak g f (clip 1000 800000 (defaultPeak format))
  let (lo, hi) := qpRange (fnat f 2) (fnat f 3)
  { f := [rp, rp, crossCpb g f rp.toNat 100], h := [400, 1, 1, lo, hi, 0] }

/-- A statistical multiplex group. -/
def groupD (s : State) (i : Nat) : Option Group := tget none s.groups i

/-- The rate parameters in force for a context (R246, R263): a member runs at its maximum as VBR, with its group's
CPB. -/
def rateNow (s : State) (x : Ctx) : RateSet :=
  match x.member with
  | some m => { peak := m.max, target := fnat x.rate.f 2, cbr := false, cpb := match groupD s m.group with
      | some g => fnat g.f 3
      | none => fnat x.rate.f 3 }
  | none => { peak := fnat x.rate.f 1, target := fnat x.rate.f 2, cpb := fnat x.rate.f 3
              cbr := decide (fld x.rate.f 1 = fld x.rate.f 2) }

/-- The rate parameters a frame runs by: those in force at its release (R190). -/
def frameRate (s : State) (x : Ctx) (r : FrameRec) : RateSet := r.rk.getD (rateNow s x)

/-- The rate record with the parameters in force kept as the signalled ones until the first IRAP at or after
this boundary (R251). With HRD signalling off the stream carries none. -/
def keepOld (s : State) (x : Ctx) : Rate :=
  let next := match x.lastOpen with
    | some n => if x.first then 0 else n + 1
    | none => 0
  if fnat x.rate.h 2 = 0 then x.rate
  else if x.rate.olds.any (·.until'.isNone) then { x.rate with oldFrom := next }
  else { x.rate with olds := x.rate.olds ++ [{ set := rateNow s x, x := x.rate.x }], oldFrom := next }

/-- A model still runs for frame `n`. -/
def oldRuns (n : Nat) (o : OldModel) : Bool := match o.until' with
  | some u => decide (n < u)
  | none => true

/-- The parameters that the stream carries at frame `n` (R251). -/
def signalled (n : Nat) (now : RateSet) (k : Rate) : RateSet :=
  match k.olds.find? (oldRuns n) with
  | some o => o.set
  | none => now

/-! ## The buffer model (R249) -/

/-- Delta times num, exact. -/
def drainQ (g : Geo) (rp : Nat) : Nat := rp * 1000 * g.den

/-- F_slot of R249. -/
def fSlot (g : Geo) (c rp : Nat) : Nat := c * rp * 10 * (50000 * g.den - g.num) / (50000 * g.num)

/-- A frame's identity. -/
def isFrame (c n : Nat) (b : Bool) (r : FrameRec) : Bool := r.ctx = c && r.frame = n && r.bottom == b

/-- A picture put in its place by frame. -/
def insLate' (e : LateClose) : List LateClose → List LateClose
  | [] => [e]
  | q :: t => if e.frame < q.frame then e :: q :: t else q :: insLate' e t

/-- The pictures of a context before frame `n` that the buffer model has yet to take, in order: a bound one that is
open at its current F, one that closed ahead of such a one at its bits (R249). -/
def picsBefore (s : State) (c n : Nat) (x : Ctx) : List LateClose :=
  let live := s.camp.frames.filter fun r => r.ctx = c && r.bound && !r.decode && decide (r.frame < n)
  let open' : List LateClose := live.map fun r =>
    { frame := r.frame, bits := r.fBits, fill := 0, peak := (frameRate s x r).peak }
  (open' ++ x.rate.late.filter fun e => decide (e.frame < n)).foldl (fun l e => insLate' e l) []

/-- The buffer times num after a picture. -/
def afterPic (g : Geo) (rp x : Nat) (e : LateClose) : Nat := (x - drainQ g rp) + (e.bits + e.fill) * g.num

/-- X1 times num of a picture that drains at `rp`, after these pictures; `all` is the peak of a model that has one
for all. -/
def x1Q (g : Geo) (all : Option Nat) (rp x : Nat) (l : List LateClose) : Nat :=
  l.foldl (fun x e => afterPic g (all.getD e.peak) x e) x - drainQ g rp

/-- min(Fmax, Fslot) of a model with X1 (times num). -/
def boundOf (g : Geo) (c rp cpb x1 : Nat) : Nat :=
  min ((rp * cpb * g.num - x1) / g.num) (fSlot g c rp)

/-- X1 (times num) and F of a context's frame `n` by every model that runs for it (R249, R251). -/
def pictureBound (s : State) (c n : Nat) (k : RateSet) (x : Ctx) : Nat × Nat :=
  let g := ctxGeo s x
  let ceil := fnat x.rate.h 1
  let before := picsBefore s c n x
  let x1 := x1Q g none k.peak x.rate.x before
  let f := ((x.rate.olds.filter (oldRuns n)).map fun o =>
    boundOf g ceil o.set.peak o.set.cpb (x1Q g (some o.set.peak) o.set.peak o.x before)).foldl min
      (boundOf g ceil k.peak k.cpb x1)
  (x1, f)

/-- Rsv(r) of R255. -/
def reserve (g : Geo) (codec r : Nat) : Nat := (g.rows - r) * (g.ctus * floorBits codec + 16)

/-- kappa of R252 as a ratio. -/
def kappa (x : Ctx) (irap : Bool) : Nat × Nat :=
  if !irap || fnat x.f 10 = 0 then (1, 1)
  else if x.rate.irapsCoded < 2 then (6, 1)
  else
    let a := x.rate.lastIrapBits
    let b := max 1 x.rate.meanBefore
    if a < b then (1, 1) else if 16 * b < a then (16, 1) else (a, b)

/-- X1 (times num) and F of a frame (R249, R264). -/
def pictureF (s : State) (r : FrameRec) (x : Ctx) : Nat × Nat :=
  let (x1, f) := pictureBound s r.ctx r.frame (frameRate s x r) x
  (x1, match r.alloc with
    | some (_, b, _) => min f b
    | none => f)

/-- T[n] of R252 or R264. -/
def pictureT (s : State) (r : FrameRec) (x : Ctx) (x1 f : Nat) : Nat :=
  let g := ctxGeo s x
  match r.alloc with
  | some (a, _, _) => a
  | none =>
    let k := frameRate s x r
    let (kn, kd) := kappa x r.irap
    let t : Int := ((16000 * k.target * g.den * kn : Nat) +
      (kd : Int) * ((g.num * k.peak * k.cpb : Nat) - 2 * (x1 : Int))) / (16 * g.num * kd : Nat)
    (clip (r.hdr + reserve g (fnat r.cf 2) 0 : Nat) f t).toNat

/-! ## Row budgets (R254 to R258) -/

/-- What a row weight of 1 is kept as: 2^67. -/
def weightUnit : Nat := 2 ^ 67

/-- bits x 2^((QP - 4) / 6) (R256, R264) in units of `weightUnit`, the sixth root of 2 to 64 bits. -/
def weightOf (bits : Nat) (qp : Int) : Nat :=
  let root := [18446744073709551616, 20705770137614810475, 23241441160490167842, 26087635650665564424,
    29282380947994691627, 32868361298261480554].getD ((qp - 4) % 6).toNat 0
  bits * root * 2 ^ ((qp - 4) / 6 + 3).toNat

/-- The weight of row `row` of a frame from the CTUs coded. -/
def rowWeightOf (l : List CtuRec) (row : Nat) : Nat := ((l.filter (·.row = row)).map fun u => weightOf u.bits u.qp).sum

/-- The weight of a row (R256): that of the last coded picture of the same kind. -/
def rowWeight (g : Geo) (x : Ctx) (irap : Bool) (row : Nat) : Nat :=
  (if irap then x.rate.weightsI else x.rate.weights).getD row (g.ctus * g.rowHeight row)

/-- C(r) of R255. -/
def spent (r : FrameRec) (done : Nat → Bool) : Nat :=
  r.hdr + (r.budgets.map fun b => if done b.row then b.actual else b.q).sum

/-- A completed row: every segment done. -/
def rowDone (g : Geo) (r : FrameRec) (row : Nat) : Bool :=
  decide ((r.done.filter (·.1 = row)).length = g.segs)

/-- bpp of R256 for bits and luma samples. -/
def bppOf (bits n : Nat) : Word := if bits * 1000 < n then Config.fOf 1 1000 else Config.fOf bits n

/-- lam of R256 from a model and a row target. -/
def lamOf (a b : Word) (q n : Nat) : Word := Config.fMul a (Config.fPow (bppOf q n) b)

/-- QP of R256 before it is clamped. -/
def qpOf (lam : Word) : Int :=
  Config.fRound (Config.fAdd (Config.fMul (Config.fOf 42005 10000) (Config.fLn lam)) (Config.fOf 137122 10000))

/-- Lambda in the 24-bit field of R234, with 8 fraction bits. -/
def lambdaField (lam : Word) : Nat := (clip 0 0xFFFFFF (Config.fRound (Config.fMul lam (Config.fOf 256 1)))).toNat

/-- The record of row `row` issued for a frame: F is evaluated again, and an exhausted row starts floor
mode, which lasts to the end of the picture. -/
def issueRow (s : State) (x : Ctx) (row : Nat) (r : FrameRec) : FrameRec :=
  let g := ctxGeo s x
  let codec := fnat r.cf 2
  let (x1, f) := pictureF s r x
  let f := max f r.fBits
  let c := spent r (rowDone g r)
  let least := g.ctus * floorBits codec + 16
  let u := f - c - reserve g codec row
  let r := { r with fBits := f }
  if r.floorRow.isSome || decide (u < g.ctus * floorBits codec) then
    { r with
      floorRow := some (r.floorRow.getD row), floorRows := r.floorRows + 1
      budgets := r.budgets ++ [{ row, qp := (qpRange codec (fnat r.cf 3)).2, lambda := 0, cap := 64
                                 aq := false, floor := true, q := least }] }
  else
    let t := pictureT s r x x1 f
    let ws := ((List.range g.rows).filter (row ≤ ·)).map (rowWeight g x r.irap)
    let q := (t - c) * rowWeight g x r.irap row / max 1 ws.sum
    let lim := min (max (2 * q) least) (least + u)
    let (a, b) := if r.irap then (x.rate.alphaI, x.rate.betaI) else (x.rate.alpha, x.rate.beta)
    let lam := lamOf a b q (g.w * g.rowHeight row)
    { r with
      tBits := t
      budgets := r.budgets ++ [{ row, qp := clip (fld r.ch 4) (fld r.ch 5) (qpOf lam), lambda := lambdaField lam
                                 cap := (clip 64 (pace (fnat r.cf 7)) (ceilDiv (4 * lim) g.ctus)).toNat
                                 aq := decide (fld r.ch 3 = 1), floor := false, q := lim, lam := lam }] }

/-- The budget record of a row, when it has been issued. -/
def budgetOf (r : FrameRec) (row : Nat) : Option Budget := r.budgets.find? (·.row = row)

/-- A model's pair after a row that was issued with `lam` and spent `bits` on `n` luma samples (R256). -/
def modelAfter (a b lam : Word) (bits n : Nat) : Word × Word :=
  let bpp := Config.fOf bits n
  let d := Config.fSub (Config.fLn lam) (Config.fLn (Config.fMul a (Config.fPow bpp b)))
  (Config.fAdd a (Config.fMul (Config.fMul (Config.fOf 1 10) d) a),
   Config.fAdd b (Config.fMul (Config.fMul (Config.fOf 5 100) d) (Config.fLn bpp)))

/-- The pair of the model in use after a completed row (R256). -/
def updateModel (g : Geo) (irap : Bool) (b : Budget) (row : Nat) (x : Ctx) : Ctx :=
  let n := g.w * g.rowHeight row
  if irap then
    let (a, c) := modelAfter x.rate.alphaI x.rate.betaI b.lam b.actual n
    { x with rate := { x.rate with alphaI := a, betaI := c } }
  else
    let (a, c) := modelAfter x.rate.alpha x.rate.beta b.lam b.actual n
    { x with rate := { x.rate with alpha := a, beta := c } }

/-! ## A picture closes (R249, R252, R256, R260) -/

/-- The filler of a closing picture in CBR: the smallest that brings X to Delta, in the model whose parameters
are signalled (R249, R251). -/
def fillerOf (s : State) (x : Ctx) (r : FrameRec) (bits : Nat) : Nat :=
  let g := ctxGeo s x
  let before := picsBefore s r.ctx r.frame x
  let (k, q) := match x.rate.olds.find? (oldRuns r.frame) with
    | some o => (o.set, x1Q g (some o.set.peak) o.set.peak o.x before)
    | none => let k := frameRate s x r
      (k, x1Q g none k.peak x.rate.x before)
  if k.cbr then ceilDiv (drainQ g k.peak - (q + bits * g.num)) g.num else 0

/-- The pictures that have closed with every one before it taken into the models, in order; a model whose IRAP has
closed ends (R249, R251). -/
def settleLate (g : Geo) (open' : List Nat) : List LateClose → Rate → Rate
  | [], k => { k with late := [] }
  | e :: l, k =>
    if open'.any (· < e.frame) then { k with late := e :: l }
    else
      let olds := (k.olds.filter (oldRuns e.frame)).map fun o => { o with x := afterPic g o.set.peak o.x e }
      settleLate g open' l { k with x := afterPic g e.peak k.x e, olds := olds }

/-- The buffer models and the picture statistics after a picture of `bits` bits closes; its record has left the
table of frames. A field pair is one picture. -/
def closeRate (s : State) (r : FrameRec) (x : Ctx) : Ctx :=
  let g := ctxGeo s x
  let k := x.rate
  let fill := fillerOf s x r r.bits
  let rp := (frameRate s x r).peak
  let x1 := x1Q g none rp k.x (picsBefore s r.ctx r.frame x)
  let e : LateClose := { frame := r.frame, bits := r.bits, fill := fill, peak := rp }
  let open' := (s.camp.frames.filter fun q => q.ctx = r.ctx && q.bound && !q.decode).map (·.frame)
  let mean := k.recent.sum / max 1 k.recent.length
  let w := (List.range g.rows).map (rowWeightOf r.ctus)
  { x with rate := settleLate g open' (insLate' e k.late) { k with
      lastF := r.fBits, lastT := r.tBits, lastB := r.bits, lastX := x1 / g.num + r.bits + fill
      weights := if r.irap || r.substitute then k.weights else w
      weightsI := if r.irap && !r.substitute then w else k.weightsI
      recent := (r.bits :: k.recent).take 8
      lastIrapBits := if r.irap then r.bits else k.lastIrapBits
      meanBefore := if r.irap then mean else k.meanBefore
      irapsCoded := if r.irap then k.irapsCoded + 1 else k.irapsCoded
      complexity := if r.substitute then k.complexity else w.sum
      floorPics := if r.floorRow.isSome then min 0xFFFFFFFF (k.floorPics + 1) else k.floorPics } }

/-- The RC_FLOOR event of a picture that closes with floor rows (R260). -/
def floorEvent (r : FrameRec) (x : Ctx) (s : State) : State :=
  match r.floorRow with
  | none => s
  | some row =>
    emit 0x05E1 r.ctx 0 (leBytes 8 r.frame ++ leBytes 2 row ++ leBytes 2 r.floorRows ++ leBytes 4 r.fBits ++
      leBytes 4 r.bits ++ leBytes 4 x.rate.lastX) (bump 0x5E008 1 s)

/-! ## Statistical multiplex (R262 to R264) -/

/-- Every member's share for a scale of s = z / 2^64, x being in units of 2^-32. -/
def sharesAt (z : Nat) (l : List (Nat × Nat × Nat)) : List Nat :=
  l.map fun (x, lo, hi) => min hi (max lo (z * x / 2 ^ 96))

/-- The largest scale below 2^(k) steps whose shares sum to at most `tg`, by bisection. -/
def scaleFor (tg : Nat) (l : List (Nat × Nat × Nat)) : Nat → Nat → Nat
  | 0, z => z
  | k + 1, z =>
    if (sharesAt (z + 2 ^ k) l).sum ≤ tg then scaleFor tg l k (z + 2 ^ k) else scaleFor tg l k z

/-- The allocations A[i] of R264 from (x, lo, hi). -/
def shares (tg : Nat) (l : List (Nat × Nat × Nat)) : List Nat :=
  let lo := (l.map (·.2.1)).sum
  let hi := (l.map (·.2.2)).sum
  if tg ≤ lo then l.map fun (_, a, _) => a * tg / max 1 lo
  else if hi ≤ tg then l.map (·.2.2)
  else sharesAt (scaleFor tg l 160 0) l

/-- x[i] of R264 in units of 2^-32; 1 with no closed predecessor. -/
def complexityOf (s : State) (x : Ctx) (irap : Bool) (weight : Nat) : Nat :=
  let g := ctxGeo s x
  let (kn, kd) := kappa x irap
  if x.rate.recent = [] then 2 ^ 32
  else weight * kn * x.rate.complexity * 2 ^ 32 / (kd * g.w * g.ph * (if g.pair then 2 else 1) * weightUnit)

/-- What an open frame of a group is short of its share: F where that is less (R264). -/
def frameSlack (r : FrameRec) (b : Nat) : Nat := if r.bound then b - r.fBits else 0

/-- That of all open frames of group `i`. -/
def groupSlack (s : State) (i : Nat) : Nat :=
  (s.camp.frames.map fun r => match r.alloc with
    | some (_, b, j) => if j = i then frameSlack r b else 0
    | none => 0).sum

/-- Xg of group `i` now: each open picture at its F (R264). -/
def xgNow (s : State) (i : Nat) (g : Group) : Nat := g.xg - groupSlack s i

/-- The allocation of frame `n` of a group at the group timebase's boundary, over its members that open
frame `n`, and the group after it. -/
def allocGroup (i n : Nat) (s : State) : State :=
  match groupD s i with
  | none => s
  | some g =>
    let geo := geoTb s (fnat g.f 1)
    let bits (kb : Nat) : Nat := kb * 1000 * geo.den / geo.num
    let rm := fnat g.f 2
    let bg := rm * fnat g.f 3
    let xg1 := xgNow s i g - bits rm
    let fg := bg - xg1
    let tg := (clip 0 fg (bits rm + ((bg / 2 : Nat) - (xg1 : Int)) / 8)).toNat
    let ms := (membersOf s i).filter fun (c, x) =>
      x.st = .active && s.camp.frames.any (fun r => r.ctx = c && r.frame = n)
    let irapOf (c : Nat) : Bool := s.camp.frames.any fun r => r.ctx = c && r.frame = n && r.irap
    let ins := ms.map fun (c, x) => match x.member with
      | some m => (complexityOf s x (irapOf c) m.weight, bits m.min, bits m.max)
      | none => (1, 0, 0)
    let as := shares tg ins
    let s := (ms.zip as).foldl (fun t ((c, _), a) =>
      let t := modCtx c (fun x => { x with member := x.member.map fun m => { m with lastA := a } }) t
      { t with camp := { t.camp with frames := t.camp.frames.map fun r =>
          if r.ctx = c ∧ r.frame = n then { r with alloc := some (a, fg * a / max 1 tg, i) } else r } }) s
    let used := (as.map fun a => fg * a / max 1 tg).sum
    { s with groups := tset none s.groups i (some { g with
        xg := xg1 + used + groupSlack s i, fg := fg, tg := tg }) }

/-- A member's picture closes: Xg counts its bits in place of its share (R264). -/
def closeGroup (r : FrameRec) (s : State) : State :=
  match r.alloc with
  | some (_, b, i) =>
    { s with groups := tmod none s.groups i fun g => g.map fun g => { g with xg := g.xg - (b - r.bits) } }
  | none => s

/-! ## Opcodes 0x0520 to 0x052F -/

/-- A context id in range. -/
def ctxId (c : Cmd) : Bool := decide (c.ctx < 256)

/-- The header's context is an encode context that is OPENING or ACTIVE. -/
def encodeOpen (c : Cmd) (s : State) : Bool :=
  let x := ctxOf s c.ctx
  ctxId c && !x.decode && decide (x.st = .opening ∨ x.st = .active)

/-- The header's context is an ACTIVE encode context, with pending commands counted. -/
def encodeActive (c : Cmd) (s : State) : Option Status :=
  if (ctxOf s c.ctx).st = .active then none else some .badState

/-- The timebase of the header's context (R72). -/
def ctxTarget (c : Cmd) (s : State) : Option Nat :=
  if (ctxOf s c.ctx).st = .closed then none else some (ctxOf s c.ctx).tb

/-- The state after 0x0520. -/
def setRate (c : Cmd) (f : Fields) (s : State) : State :=
  modCtx c.ctx (fun x => { x with rate := { keepOld s x with f := f } }) s

/-- 0x0520: rate parameters (R246); a member of a group is answered BAD_STATE (R263). -/
def opRateParameters : Op where
  opcode := 0x0520
  framed := true
  ctxOk := encodeOpen
  target := ctxTarget
  needsTime := fun _ _ => true
  specs := fun c s =>
    let x := ctxOf s c.ctx
    let g := ctxGeo s x
    [fun _ => { kind := .num 1000 800000, cross := crossPeak g x.f },
     fun f => { kind := .num 1000 800000, cross := min (fld f 1) },
     fun f => { kind := .num 10 1000, cross := crossCpb g x.f (fnat f 1) }]
  post := fun c f s =>
    if (ctxOf s c.ctx).member.isSome then some .badState
    else match encodeActive c s with
      | some st => some st
      | none => admitAfter (setRate c f s)
  apply := fun c f s => { s := setRate c f s }

/-- The output pool's bits of the open encode contexts but one (R250). -/
def poolBytes (s : State) (but : Nat) : Nat :=
  ((openCtxs s).map fun (c, x) =>
    if c = but ∨ x.decode then 0
    else (fnat x.f 8 + 1) * fSlot (ctxGeo s x) (fnat x.rate.h 1) (peakOf x) / 8).sum

/-- The relation of a send ceiling (R248 field 1). -/
def crossCeiling (c : Nat) (s : State) (v : Int) : Int :=
  let x := ctxOf s c
  let room := 2 ^ 30 - poolBytes s c
  let fits (k : Nat) : Bool := decide ((fnat x.f 8 + 1) * fSlot (ctxGeo s x) k (peakOf x) / 8 ≤ room)
  if fits v.toNat then v
  else
    let rec down : Nat → Nat
      | 0 => 105
      | k + 1 => if fits (105 + k + 1) then 105 + k + 1 else down k
    min v (down 895)

/-- 0x0521: send ceiling, HRD, AQ, QP range and hash SEI (R248). -/
def opSendCeilingAndHrd : Op where
  opcode := 0x0521
  framed := true
  ctxOk := encodeOpen
  target := ctxTarget
  needsTime := fun _ _ => true
  specs := fun c s =>
    let x := ctxOf s c.ctx
    let (lo, hi) := qpRange (fnat x.f 2) (fnat x.f 3)
    [fun _ => { kind := .num 105 1000, cross := crossCeiling c.ctx s }, pSel [0, 1], pFlag,
     pNum lo hi 1 true, pCross lo hi 1 (fun f v => max v (fld f 4)) true, pSel [0, 1]]
  post := fun c _ s => encodeActive c s
  apply := fun c f s => { s := modCtx c.ctx (fun x => { x with rate := { x.rate with h := f } }) s }

/-- The sum of a group's minima but one context's. -/
def minimaBut (s : State) (g but : Nat) : Nat :=
  ((membersOf s g).map fun (c, x) => if c = but then 0 else match x.member with
    | some m => m.min
    | none => 0).sum

/-- 0x0522: configure or delete a group (R262). -/
def opConfigureStatmuxGroup : Op where
  opcode := 0x0522
  framed := true
  target := fun c s => match groupD s (c.params.getD 0 0).toNat with
    | some g => some (fnat g.f 1)
    | none => some (c.params.getD 1 0).toNat
  needsTime := fun _ _ => true
  specs := fun _ s => [pNum 0 7, pNum 0 15,
    fun f => { kind := .zeroOr 1000 8000000
               cross := fun v => if v = 0 then 0 else max v (minimaBut s (fnat f 1) 256) },
    fun f => { kind := .num 10 1000
               cross := fun v =>
                 let g := geoTb s (fnat f 2)
                 max v (ceilDiv (2000 * g.den) g.num) }, pSel [0, 1]]
  post := fun _ f s =>
    let g := fnat f 1
    let busy := !(membersOf s g).isEmpty
    if (tbOf s (fnat f 2)).isNone then some .badState
    else if fld f 3 = 0 then (if busy || (groupD s g).isNone then some .badState else none)
    else match groupD s g with
      | some x => if busy && decide (fld x.f 1 ≠ fld f 2) then some .badState else none
      | none => none
  apply := fun _ f s =>
    let g := fnat f 1
    if fld f 3 = 0 then { s := { s with groups := tset none s.groups g none } }
    else
      let old := (groupD s g).getD { f := [] }
      let t := if fld old.f 3 = fld f 4 then s
        else (membersOf s g).foldl (fun t (c, _) => modCtx c (fun x => { x with rate := keepOld s x }) t) s
      { s := { t with groups := tset none t.groups g (some { old with f := f.drop 1 }) } }

/-- The state after 0x0523. -/
def joinState (c : Cmd) (f : Fields) (s : State) : State :=
  modCtx c.ctx (fun x => { x with
    rate := keepOld s x
    member := some { group := fnat f 1, weight := fnat f 2, min := fnat f 3, max := fnat f 4 } }) s

/-- 0x0523: join a group (R263). -/
def opJoinGroup : Op where
  opcode := 0x0523
  framed := true
  ctxOk := encodeOpen
  target := ctxTarget
  needsTime := fun _ _ => true
  specs := fun c s =>
    let x := ctxOf s c.ctx
    let m := minPeak (ctxGeo s x) (fnat x.f 2)
    [pNum 0 7, pNum 1 255,
     fun f => { kind := .any
                cross := fun v =>
                  let v := max v (m : Int)
                  match groupD s (fnat f 1) with
                  | some g => min v (fnat g.f 2 - minimaBut s (fnat f 1) c.ctx : Nat)
                  | none => v },
     fun f => { kind := .any, cross := max (fld f 3) }]
  post := fun c f s =>
    match groupD s (fnat f 1) with
    | none => some .badState
    | some g =>
      if fnat g.f 1 ≠ (ctxOf s c.ctx).tb then some .badState
      else match encodeActive c s with
        | some st => some st
        | none => admitAfter (joinState c f s)
  apply := fun c f s => { s := joinState c f s }

/-- The state after 0x0524: the context's own 0x0520 values apply again (R263). -/
def leaveState (c : Cmd) (s : State) : State :=
  modCtx c.ctx (fun x => { x with rate := keepOld s x, member := none }) s

/-- 0x0524: remove the context from its group. -/
def opRemoveFromGroup : Op where
  opcode := 0x0524
  framed := true
  ctxOk := encodeOpen
  target := ctxTarget
  needsTime := fun _ _ => true
  post := fun c _ s =>
    if (ctxOf s c.ctx).member.isNone then some .badState
    else match encodeActive c s with
      | some st => some st
      | none => admitAfter (leaveState c s)
  apply := fun c _ s => { s := leaveState c s }

/-- 0x0525: read group status (R280). -/
def opReadGroupStatus : Op where
  opcode := 0x0525
  reads := true
  specs := fun _ _ => [pNum 0 7]
  once := fun _ f s => if (groupD s (fnat f 1)).isNone then some .badState else none
  apply := fun _ f s =>
    match groupD s (fnat f 1) with
    | none => { s := s }
    | some g =>
      { s := s
        words := [natWord (xgNow s (fnat f 1) g), natWord g.fg, natWord g.tg] ++
          (membersOf s (fnat f 1)).flatMap (fun (c, x) => match x.member with
            | some m => [natWord c, natWord m.lastA]
            | none => []) ++ [natWord g.late] }

end Sys2Proof.Machine
end

