-- ==== Sys2Proof/Machine/AccessUnit.lean ====
section
/-! DEFINITION. Access units (R203, R204, R251, R252, R271 to R275, R277, R278): parameter sets, SEI messages,
NAL units and time stamps, and the opcode 0x052F. -/

namespace Sys2Proof.Machine

/-! ## Parameter sets (R195, R203, R204, R251, R272) -/

/-- The features of R203 that a context's streams use. -/
def featuresOf (codec : Nat) (long fields : Bool) : List Feature :=
  (if codec = 0 then
    [.quadtree, .intra35, .merge, .amvp, .tmvp, .dctDst32, .transformSkip4, .scalingLists, .signHiding, .deblock, .sao,
      .wavefront]
  else
    [.quadtree, .binaryTernary, .intra67, .mrl, .cclm, .merge, .amvp, .tmvp, .mmvd, .amvr, .bcw, .dct64, .implicitMts,
      .lfnst, .transformSkip4, .jccr, .dependentQuant, .deblock, .sao, .alf, .wavefront]) ++
  (if long then [.longTerm] else []) ++ (if fields then [.fieldPictures] else [])

/-- colour_primaries, transfer_characteristics and matrix_coeffs of an output space (R272). -/
def colourOf (space codec profile : Nat) : Nat × Nat × Nat :=
  match space with
  | 0 => (1, 1, 1)
  | 1 => (9, if codec = 0 ∧ profile = 0 then 1 else 14, 9)
  | 2 => (9, 16, 9)
  | _ => (9, 18, 9)

/-- The HRD that a stream carries for these parameters (R251). -/
def hrdOf (k : RateSet) : Hrd :=
  { bitRate := k.peak, cpbSize := k.peak * k.cpb, cbr := k.cbr, initial := 90 * k.cpb }

/-- The sequence parameter set of a context with fields `f` at its frame `n`, in an output space; `k` are the rate
parameters in force. -/
def spsOf (x : Ctx) (g : Geo) (f h : Fields) (n space : Nat) (k : RateSet) : Sps :=
  let codec := fnat f 2
  let profile := fnat f 3
  { codec, profile, tier := fnat f 5, level := fnat f 6, chroma := fnat f 4
    depth := if codec = 0 ∧ profile = 0 then 8 else 10
    width := g.w, height := g.ph, fieldSeq := g.fields
    colour := colourOf space codec profile
    dpb := if fnat f 10 = 0 then 2 else fnat f 13 + 1
    features := featuresOf codec (fnat f 14 = 1) g.fields
    hrd := if fnat h 2 = 1 then some (hrdOf (signalled n k x.rate)) else none }

/-- What a parameter set says, as numbers in the order of its record. -/
def spsInts (x : Sps) : List Int :=
  let hrd : List Nat := match x.hrd with
    | some h => [1, h.bitRate, h.cpbSize, b2n h.cbr, b2n h.lowDelay, h.initial, h.dpbDelay]
    | none => [0]
  let l := [x.codec, x.profile, x.tier, x.level, x.chroma, x.depth, x.width, x.height, b2n x.fieldSeq, x.colour.1,
    x.colour.2.1, x.colour.2.2, b2n x.fullRange, x.dpb, x.reorder, x.latency] ++ hrd ++ x.features.map (·.ctorIdx)
  l.map Int.ofNat

/-! ## SEI messages (R273 to R275) -/

/-- ST 2086 values of 0x0630 are set, and MaxCLL with MaxFALL (R326). -/
def masteringSet (l : Fields) : Bool := (l.take 10).any (· ≠ 0)
def lightSet (l : Fields) : Bool := fld l 11 ≠ 0 && fld l 12 ≠ 0

/-- Hours, minutes, seconds and frame of an instant `t` ns after midnight at a rate (R274): drop-frame counting at
30000/1001 and its multiples drops 2, 4 or 8 numbers at the start of each minute but every tenth. -/
def timeAddress (num den : Nat) (t : Nat) : Nat × Nat × Nat × Nat × Bool :=
  let base := num / 30000
  if den = 1001 ∧ num % 30000 = 0 then
    let fps := 30 * base
    let drop := 2 * base
    let per10 := 600 * fps - 9 * drop
    let f := t * num / (den * 1000000000)
    let m := f % per10
    let f := f + 9 * drop * (f / per10) + (if m < 60 * fps then 0 else drop * (1 + (m - 60 * fps) / (60 * fps - drop)))
    (f / (3600 * fps) % 24, f / (60 * fps) % 60, f / fps % 60, f % fps, true)
  else
    let sec := t / 1000000000
    (sec / 3600 % 24, sec / 60 % 60, sec % 60, t % 1000000000 * num / (den * 1000000000), false)

/-- The time code of frame `n` of a timebase (R274): the time of A(n) less the UTC offset, plus the local offset of
the metadata TLV. -/
def timeCodeOf (s : State) (tb n : Nat) (bottom : Bool) : Sei :=
  let g := geoTb s tb
  let p := s.bel.ptp
  let offset : Int := match p.tlv with
    | some t => t.localOff.toInt
    | none => 0
  let t := ((boundaryNs s tb n + (offset - p.utcOffset) * 1000000000) % 86400000000000).toNat
  let (h, m, sec, fr, drop) := timeAddress g.num g.den t
  .timeCode h m sec fr drop bottom

/-- A message's place among the prefix SEI messages, its payload type, and the message. -/
def seiType (codec : Nat) : Sei → Nat
  | .buffering _ => 0
  | .timing .. => 1
  | .recovery _ => 6
  | .mastering _ => 137
  | .light .. => 144
  | .timeCode .. => if codec = 0 then 136 else 5
  | .captions _ => 4
  | .hash => 132

/-- The UUID of a VVC stream's time code (R273). -/
def timeCodeUuid : List Byte :=
  [0x49, 0x72, 0x73, 0x6F, 0x6C, 0x2D, 0x54, 0x43, 0x00, 0x01, 0x48, 0x5A, 0x34, 0x38, 0x38, 0x30]

/-- The header of the caption message (R275): country code, provider code, user identifier "GA94", data type code. -/
def captionHeader : List Byte := [0xB5, 0x00, 0x31, 0x47, 0x41, 0x39, 0x34, 0x03]

/-- What carries a message within its payload, before its own syntax (R273, R275). -/
def seiPrefix (codec : Nat) : Sei → List Byte
  | .timeCode .. => if codec = 0 then [] else timeCodeUuid
  | .captions _ => captionHeader
  | _ => []

/-- The cc_data triplets of a CEA-708 caption distribution packet, DID 0x61 and SDID 0x01 (R275). The layout of the
packet is PRESUMED from SMPTE ST 334-2 (log entry 97). -/
def cdpTriplets (p : AncPkt) : List (BitVec 24) :=
  let w (i : Nat) : Nat := (p.words.getD i 0).toNat % 256
  let b (i : Nat) : Nat := w (3 + i)
  if w 0 ≠ 0x61 ∨ w 1 ≠ 0x01 ∨ b 0 ≠ 0x96 ∨ b 1 ≠ 0x69 then []
  else
    let at' := if 128 ≤ b 4 then 12 else 7
    if b at' ≠ 0x72 then []
    else (List.range (b (at' + 1) % 32)).map fun i =>
      BitVec.ofNat 24 (b (at' + 2 + 3 * i) * 65536 + b (at' + 3 + 3 * i) * 256 + b (at' + 4 + 3 * i))

/-- The caption data that accompany a context's input frame `n` (R275). -/
def captionsOf (s : State) (c n : Nat) : List (BitVec 24) :=
  match compOf s c with
  | some x => ((x.outs.find? fun o => o.frame = n).map fun o => o.anc.flatMap cdpTriplets).getD []
  | none => []

/-- The prefix SEI messages of a picture in order (R273). `start` is the first picture of a GDR cycle. -/
def prefixSei (s : State) (x : Ctx) (r : FrameRec) (p : Pic) (start bottom : Bool) (captions : List (BitVec 24)) :
    List Sei :=
  let f := r.cf
  let hrd := fnat r.ch 2 = 1
  let light := (p.irap || start) && decide (2 ≤ r.space)
  (if p.irap && hrd then [.buffering (hrdOf (signalled r.frame (frameRate s x r) x.rate)).initial] else []) ++
  (if hrd then [.timing p.poc 0] else []) ++
  (if start && decide (fnat f 2 = 0) then [.recovery (fnat f 12 - 1)] else []) ++
  (if light && masteringSet r.light then [.mastering (r.light.take 10)] else []) ++
  (if light && lightSet r.light then [.light (fld r.light 11) (fld r.light 12)] else []) ++
  [timeCodeOf s (fnat f 1) r.frame bottom] ++
  (if captions = [] then [] else [.captions (captions.take 31)])

/-- The picture of a frame is the first of a GDR cycle (R206): a field pair's top field. -/
def gdrFirst (r : FrameRec) (i : Nat) : Bool := r.gdrStart && i == 0

/-- H[n] of R252: the largest size in bits that the headers of a frame's pictures can take, 32 bits for each entry
point with them. Captions may accompany any picture. -/
def headerBits (s : State) (x : Ctx) (g : Geo) (r : FrameRec) : Nat :=
  let codec := fnat r.cf 2
  let part (k : Nat) : Nat := Config.partBits r.cf k
  (r.pics.zipIdx.map fun (p, i) =>
    let start := gdrFirst r i
    let sets : List Nat := if p.irap || start then (if codec = 0 then [1, 2, 3] else [2, 3]) else []
    let sei := (prefixSei s x r p start (i == 1) [0]).map fun m => 16 + seiType codec m
    let l := [0, 5] ++ sets ++ (if p.aps then [4] else []) ++ sei ++ (if fnat r.ch 6 = 1 then [6] else [])
    (l.map part).sum + 32 * g.prows).sum

/-! ## NAL units (R271) -/

/-- The NAL unit type of a coded slice (R271). -/
def sliceType (codec : Nat) (irap start substitute : Bool) : Nat :=
  if codec = 0 then (if irap then 20 else if substitute then 0 else 1)
  else if irap then 8 else if start then 10 else 0

/-- A NAL unit whose type differs by codec. -/
def nalOf (codec hevc vvc : Nat) (b : NalBody) : Nal := { type := if codec = 0 then hevc else vvc, body := b }

/-- The coded slice of a picture `i` of a frame (R184, R204, R206, R237, R271). -/
def sliceOf (g : Geo) (r : FrameRec) (p : Pic) (i : Nat) : Slice :=
  let vvc := decide (fnat r.cf 2 = 1)
  let l := p.refs.map fun n => n.poc.toNat
  let own := (r.ctus.filter fun u => g.picOf u.row = i).reverse
  let order := (List.range g.rows).flatMap fun row => (List.range g.ctus).filterMap fun col =>
    own.find? fun u => u.row = row && u.col = col
  { poc := p.poc, list0 := l, list1 := if fnat r.cf 10 = 2 then l else []
    entries := g.prows, nonRef := false, tmvp := true, saoOn := true, alfSet := p.alf.map (·.1)
    gdr := if vvc && gdrFirst r i then some (fnat r.cf 12 - 1) else none
    boundary := if vvc then p.gdr.map fun (k, _) => min g.w (64 * (k + 1) * gdrWidth g r.cf) else none
    ctus := order.map fun u => (u.qp, u.tokens), fill := none, skip := false }

/-- The NAL units of a picture in order (R271). -/
def nalsOf (s : State) (x : Ctx) (g : Geo) (r : FrameRec) (p : Pic) (i : Nat) (slice : Slice)
    (captions : List (BitVec 24)) (filler : Nat) : List Nal :=
  let codec := fnat r.cf 2
  let start := gdrFirst r i
  let sps := spsOf x g r.cf r.ch r.frame r.space (frameRate s x r)
  let sets := if p.irap || start then
      (if codec = 0 then [nalOf codec 32 32 (.vps sps)] else []) ++
        [nalOf codec 33 15 (.sps sps), nalOf codec 34 16 (.pps sps)]
    else []
  let aps := match p.alf, p.aps with
    | some (n, sets), true => [nalOf codec 17 17 (.aps n sets)]
    | _, _ => []
  [nalOf codec 35 20 .delimiter] ++ sets ++ aps ++
  [nalOf codec 39 23 (.sei (prefixSei s x r p start (i == 1) captions))] ++
  [{ type := sliceType codec p.irap start r.substitute, body := .slice slice }] ++
  (if fnat r.ch 6 = 1 then [nalOf codec 40 24 (.sei [.hash])] else []) ++
  (if filler = 0 then [] else [nalOf codec 38 25 (.filler filler)])

/-! ## Time stamps (R160, R277, R278) -/

/-- The 90 kHz count of an instant in ns. -/
def count90 (ns : Int) : Int := ns * 9 / 100000

/-- The instant of A(n), or of A(n) + P/2 for a bottom field. -/
def unitInstant (s : State) (tb n : Nat) (bottom : Bool) : Int :=
  let g := geoTb s tb
  boundaryNs s tb n + (if bottom then g.den * 1000000000 / (2 * g.num) else 0)

/-- The RTP time stamp of an access unit (R277). -/
def unitStamp (s : State) (tb n : Nat) (bottom : Bool) : Nat := (count90 (unitInstant s tb n bottom) % 2 ^ 32).toNat

/-- The PTS of an access unit (R278). -/
def unitPts (s : State) (f : Fields) (n : Nat) (bottom : Bool) (k : RateSet) : Nat :=
  let g := geoTb s (fnat f 1)
  let ahead := fnat f 8 * g.den * 1000000000 + (fnat f 9 + 1000000 * k.cpb) * g.num
  ((count90 (unitInstant s (fnat f 1) n bottom) + ceilDiv (9 * ahead) (100000 * g.num) : Int) % 2 ^ 33).toNat

/-! ## Status (R280) -/

/-- 0x052F: read rate-control status (R280); a VVC stream has no VPS, whose length is 0. -/
def opReadRateControlStatus : Op where
  opcode := 0x052F
  reads := true
  ctxOk := encodeOpen
  apply := fun c _ s =>
    let x := ctxOf s c.ctx
    let g := ctxGeo s x
    let k := x.rate
    let n := match x.lastOpen with
      | some n => n + 1
      | none => 0
    let (x1, _) := pictureBound s c.ctx n (rateNow s x) x
    let grp := match x.member with
      | some m => m.min * 256 + m.group
      | none => 0xFF
    let space := match compOf s c.ctx with
      | some y => y.space
      | none => 0
    let sps := spsInts (spsOf x g x.f k.h n space (rateNow s x))
    let types : List (Option Nat) := if fnat x.f 2 = 0 then [some 32, some 33, some 34] else [none, some 15, some 16]
    let sets := types.flatMap fun t =>
      let l := match t with
        | some t => Config.paramBytes t sps
        | none => []
      leBytes 4 l.length ++ l
    { s := s
      words := [natWord (x1 / g.num), natWord k.lastF, natWord k.lastT, natWord k.lastB, k.alpha, k.beta, k.alphaI,
        k.betaI, natWord k.floorPics, natWord k.captionsDropped, natWord grp] ++ toWords sets }

end Sys2Proof.Machine
end

