-- ==== Sys2Proof/Machine/Gang.lean ====
section
/-! DEFINITION. Costs, gangs and release positions (R169 to R171, R178, R183, R185, R288), the search cache's
bands (R238 to R240), Domes a frame needs (R267), and the event units of a context (R155, R157, R170). -/

namespace Sys2Proof.Machine

/-- Spire cycles a full CTU costs at a level (R178). -/
def levelCost (effort level : Nat) : Nat :=
  let row : List Nat := match level with
    | 0 => [4370, 2731, 1639]
    | 1 => [3277, 2048, 1229]
    | 2 => [2458, 1536, 1024]
    | 3 => [1639, 1229, 820]
    | 4 => [1024, 820, 614]
    | _ => [410, 410, 410]
  row.getD effort 0

/-- The CTU work of member `m` of a gang of `k`, wavefront wait included, in 64ths of a CTU (R171). -/
def memberWork (g : Geo) (k m : Nat) : Nat :=
  8 * m * 64 + (((List.range g.rows).filter (· % k = m)).map fun r => g.ctus * g.rowHeight r).sum

/-- The longest work of a gang of `k`. -/
def gangWork (g : Geo) (k : Nat) : Nat := ((List.range k).map (memberWork g k)).foldl max 0

/-- The time of `work` 64ths of a CTU at `cost` cycles and `mhz`, in ns rounded up. -/
def workNs (work cost mhz : Nat) : Nat := ceilDiv (work * cost * 1000) (64 * mhz)

/-- The gang time T(k, e, f) of R171 in ns, rounded up, for a cost per CTU. -/
def gangNs (g : Geo) (k cost mhz : Nat) : Nat := workNs (gangWork g k) cost mhz

/-- T(k, e, f) does not exceed the binding budget, exactly. -/
def inBudget (g : Geo) (k cost mhz us : Nat) : Bool := decide (gangWork g k * cost ≤ us * 64 * mhz)

/-- k_max of R171. -/
def gangMax (g : Geo) (powered : Nat) : Nat := max 1 (min powered (min (g.segs / 2) g.rows))

/-- The gang size and starting level of R171, from the costs of each level. -/
def gangFor (g : Geo) (powered mhz us : Nat) (cost : Nat → Nat) : Nat × Nat :=
  let km := gangMax g powered
  match ((List.range km).map (· + 1)).find? fun k => inBudget g k (cost 0) mhz us with
  | some k => (k, 0)
  | none => (km, ((List.range 6).find? fun e => inBudget g km (cost e) mhz us).getD 5)

/-- The Spire clock of the profile in effect in MHz. -/
def spireClock (s : State) : Nat := profileClock s.watch.profile

/-- The gang size and starting level of a context's frames now (R171, R185). -/
def gangOf (s : State) (x : Ctx) : Nat × Nat :=
  let cost (e : Nat) : Nat := if x.decode then 819 else levelCost (fnat x.f 7) e
  let (k, e) := gangFor (ctxGeo s x) (profileSpires s s.watch.profile) (spireClock s) (fnat s.camp.f 1) cost
  (k, if x.decode then 0 else e)

/-- Domes a frame with a gang of `k` needs (R267). -/
def domesFor (k : Nat) : Nat := ceilDiv (3 * k) 4

/-- The floor clock as a divisor: f_floor is one quarter of the profile clock (R180). -/
def floorNs (s : State) (work cost : Nat) : Nat := workNs (4 * work) cost (spireClock s)

/-! ## Release (R170) -/

/-- The line, as an event unit's field, of the release of a frame: t_src_end - T + t_row rounded down to the start of
a line, no earlier than the start of active line 0. On an interlaced timebase the last active line is the bottom
field's. -/
def releaseLine (s : State) (x : Ctx) : Int :=
  let t := tbD s x.tb
  let g := ctxGeo s x
  let (_, h, ltot, voff) := formatOf t.format
  let (k, e) := gangOf s x
  let cost := levelCost (fnat x.f 7) e
  let f := spireClock s
  let last : Int := if g.pair then 583 + 540 else voff + g.ph
  let y : Int := ((gangWork g k : Int) - g.ctus * 64) * cost * 1000
  let raw : Int := last + (60000 * 64 * f - y) * g.num * ltot / (64 * f * g.den * 1000000000)
  let l := if g.pair then (if raw < 583 then min 539 (raw - voff) else raw - 583 + 540) else raw - voff
  clip 0 (h : Int) l

/-- The fields of the event units of an encode context: its release, and the launch-time set at the alignment point
(R155, R170). -/
def unitsWanted (s : State) (x : Ctx) : List Fields :=
  let voff : Int := (formatOf (tbD s x.tb).format).2.2.2
  [fwFields x.tb (releaseLine s x) 0 2, fwFields x.tb (-voff) 0 5]

/-- The event units of an encode context with these fields: those it has with other ones go, those it lacks are taken;
none when a unit is lacking. -/
def takeUnits (c : Nat) (x : Ctx) (s : State) : Option State :=
  let l := unitsWanted s x
  l.foldl (fun t f => t.bind (fwTake f c)) (some (fwDropBut l c s))

/-- The units of an encode context after a change of its fields or of the profile; with none free it keeps the ones it
has (log entry 34). -/
def retakeUnits (c : Nat) (s : State) : State :=
  let x := ctxOf s c
  if x.decode ∨ x.st = .closed then s else (takeUnits c x s).getD s

/-! ## The search cache (R238 to R240) -/

/-- The fetch cap of a picture in bytes (R239): 3.25 a luma sample. -/
def fetchCap (g : Geo) : Nat := 13 * g.w * g.ph / 4

/-- Bytes charged for an on-demand fetch unit: 4:2:0 or 4:2:2 (R240). -/
def unitCharge (chroma : Nat) : Nat := if chroma = 0 then 1080 else 1440

/-- The bands that a picture's valid references get, and its on-demand allowance in bytes. -/
def cachePlan (g : Geo) (chroma k refs : Nat) : Nat × Nat :=
  let cap := fetchCap g
  let rec_ := fRec g.w g.ph chroma
  let pyr := fPyr g.w g.ph
  let band := (k + 7) * g.ctus * (1280 * (4 + chromaQ chroma) + 340)
  let (n, charge) := (List.range refs).foldl (fun (n, charge) i =>
    let full := charge + rec_ + pyr
    if i = n && (i = 0 || decide ((n + 1) * band ≤ k * 6 * mib ∧ full ≤ cap)) then (n + 1, full)
    else (n, charge + pyr)) (0, 0)
  (n, cap - charge)

end Sys2Proof.Machine
end

