-- ==== Sys2Proof/Machine/Search.lean ====
section
/-! DEFINITION. Motion search and mode decision of one CTU (R206, R230 to R233, R238 to R242): which positions and
which choices of what the Spire finds may count, and which of them it takes. -/

namespace Sys2Proof.Machine

/-! ## What a CTU may use -/

/-- A reference of list 0 as a CTU may use it: valid (R214), with a band (R239), its buffer, and the CTU columns
that prediction may take samples from, when a GDR cycle bounds them (R206). -/
structure RefView where
  valid  : Bool
  banded : Bool
  buf    : Nat
  fresh  : Option Nat

/-- What decides the choices of a CTU: codec, effort, level, low-delay B, the geometry, its row in the picture and
its column, its references, the reference CTUs that are invalid, the lowest row that a member of the gang is still
coding and the gang size (R238), and whether it has to be intra. -/
structure View where
  codec  : Nat
  effort : Nat
  level  : Nat
  lowB   : Bool
  g      : Geo
  row    : Nat
  col    : Nat
  refs   : List RefView
  inval  : List (Nat × Nat)
  low    : Nat
  k      : Nat
  intra  : Bool

/-- The rows of a reference that a band spans (R238), clipped to the picture. -/
def bandRows (g : Geo) (low k : Nat) : Nat × Nat := (low - 3, min (g.prows - 1) (low + k + 3))

/-- The CTU units that a block of luma samples touches along one axis, the taps of a fractional vector included
(R231), clipped to the picture. -/
def unitsOf (at' len : Nat) (q : Int) (n : Nat) : Int × Int :=
  let taps : Int := if q % 4 = 0 then 0 else 1
  let a : Int := at' + q / 4 - 3 * taps
  let b : Int := at' + len - 1 + q / 4 + 4 * taps
  (clip 0 (n - 1 : Nat) (a / 64), clip 0 (n - 1 : Nat) (b / 64))

/-- A block of a CTU may be predicted from a reference at a vector: the reference is valid, the vector stays
within the vertical bound of R231, no CTU it touches is invalid (R242), it lies in the band where there is one
(R238), and in the refreshed area where a GDR cycle calls for that (R206). -/
def blockOk (v : View) (ref : Nat) (m : Mv) (x y w h : Nat) : Bool :=
  match v.refs[ref]? with
  | none => false
  | some r =>
    let (c0, c1) := unitsOf (64 * v.col + x) w m.x v.g.ctus
    let (r0, r1) := unitsOf (64 * v.row + y) h m.y v.g.prows
    let (b0, b1) := bandRows v.g v.low v.k
    r.valid && decide (m.y.natAbs ≤ 512) &&
    (!r.banded || decide ((b0 : Int) ≤ r0 ∧ r1 ≤ b1)) &&
    !(v.inval.any fun (buf, a) => buf = r.buf &&
      decide (c0 ≤ (a % v.g.ctus : Nat) ∧ ((a % v.g.ctus : Nat) : Int) ≤ c1 ∧
        r0 ≤ (a / v.g.ctus : Nat) ∧ ((a / v.g.ctus : Nat) : Int) ≤ r1)) &&
    (match r.fresh with
      | some n => decide ((64 * v.col + x + w : Nat) + m.x / 4 + (if m.x % 4 = 0 then 0 else 4) ≤ (64 * n : Int))
      | none => true)

/-- The same of a whole CTU (R230). -/
def ctuOk (v : View) (ref : Nat) (m : Mv) : Bool := blockOk v ref m 0 0 64 64

/-- The primary reference: the first valid one of list 0 (R234). -/
def primaryRef (v : View) : Option Nat := v.refs.findIdx? (·.valid)

/-! ## Search stages (R230) -/

/-- The ranges of a level: coarse horizontal and vertical, pyramid, integer, and whether there is fractional
refinement. -/
def searchRanges (effort level : Nat) : Option (Int × Int) × Option Int × Option Int × Bool :=
  let e0 : Int × Int := match effort with
    | 0 => (16, 6)
    | 1 => (12, 4)
    | _ => (8, 3)
  let e1 : Int × Int := match effort with
    | 0 => (8, 3)
    | 1 => (6, 2)
    | _ => (4, 2)
  match level with
  | 0 => (some e0, some 4, some 4, true)
  | 1 => (some e1, some 2, some 2, true)
  | 2 => (some e1, some 2, some 2, false)
  | 3 => (some e1, none, none, false)
  | _ => (none, none, none, false)

/-- A candidate: a reference's place in list 0 and a vector in samples of some plane. -/
abbrev Cand := Nat × Int × Int

/-- A position lies in the area of a candidate. -/
def near (rx ry : Int) (cs : List Cand) (p : Probe) : Bool :=
  cs.any fun (r, x, y) => r = p.ref && decide ((p.x - x).natAbs ≤ rx ∧ (p.y - y).natAbs ≤ ry)

/-- A position put in its place by cost, behind those of the same cost. -/
def insCost (p : Probe) : List Probe → List Probe
  | [] => [p]
  | q :: t => if p.cost < q.cost then p :: q :: t else q :: insCost p t

/-- The best three results of a stage. -/
def best3 (l : List Probe) : List Probe := (l.foldl (fun t p => insCost p t) []).take 3

/-- A stage's results as candidates for the next, `f` of whose samples are one of its own. -/
def scaled (f : Int) (l : List Probe) : List Cand := l.map fun p => (p.ref, f * p.x, f * p.y)

/-- A stage whose samples are `q` quarter luma samples: of the positions it tries, those in the areas of its
candidates whose block may be used. -/
def stage (v : View) (q rx ry : Int) (cs : List Cand) (l : List Probe) : List Probe :=
  l.filter fun p => near rx ry cs p && ctuOk v p.ref { x := q * p.x, y := q * p.y }

/-- The positions of a full-resolution stage that get their samples (R240): a reference without a band takes fetch
units of `charge` bytes from what is left of the share; of a position's units those that would exceed it are not
fetched, and the position is not used. What is left, and the fetches refused, come with them. -/
def granted (v : View) (charge : Nat) : List Probe → Nat → List Probe × Nat × Nat
  | [], left => ([], left, 0)
  | p :: t, left =>
    let banded := match v.refs[p.ref]? with
      | some r => r.banded
      | none => false
    let made := if banded then p.units else min p.units (left / charge)
    let left' := if banded then left else left - made * charge
    let (l, rest, no) := granted v charge t left'
    (if made = p.units then p :: l else l, rest, p.units - made + no)

/-- What the search of a CTU gave: its best vectors in quarter luma samples, the full-resolution positions whose
samples were fetched, the share left and the fetches refused. -/
structure Found where
  mvs    : List (Nat × Mv) := []
  whole  : List Probe := []
  left   : Nat
  denied : Nat := 0

/-- Results as vectors in quarter luma samples. -/
def asMvs (q : Int) (l : List Probe) : List (Nat × Mv) := l.map fun p => (p.ref, { x := q * p.x, y := q * p.y })

/-- The zero vector on every reference. -/
def zeroMvs (v : View) : List (Nat × Mv) := (List.range v.refs.length).map fun i => (i, { x := 0, y := 0 })

/-- The search of a CTU from coarse to fine (R230): the coarse candidates are the zero vector and the scaled vectors
`near'` of the left and above CTUs. With `still` its source pyramid failed, and only zero motion is left (R218). -/
def search (v : View) (charge share : Nat) (near' : List (Nat × Mv)) (still : Bool) (c : CtuIn) : Found :=
  let (coarse, pyr, int, frac) := searchRanges v.effort v.level
  match coarse with
  | none => { mvs := zeroMvs v, left := share }
  | some (rx, ry) =>
    if still then { mvs := zeroMvs v, left := share }
    else
      let start : List Cand := (zeroMvs v ++ near').map fun (r, m) => (r, m.x / 64, m.y / 64)
      let a := best3 (stage v 64 rx ry start c.coarse)
      match pyr, int with
      | some p, some i =>
        let b := best3 (stage v 16 p p (scaled 4 a) c.pyramid)
        let (w, left, no) := granted v charge (stage v 4 i i (scaled 4 b) c.integer) share
        let d := best3 w
        if !frac then { mvs := asMvs 4 d, whole := w, left := left, denied := no }
        else
          let e := best3 (d.map (fun p => { p with x := 4 * p.x, y := 4 * p.y }) ++
            stage v 1 2 2 (scaled 4 d) (c.half.filter fun p => p.x % 2 = 0 && p.y % 2 = 0))
          let f := best3 (e ++ stage v 1 1 1 (scaled 1 e) c.quarter)
          { mvs := asMvs 1 f, whole := w, left := left, denied := no }
      | _, _ => { mvs := asMvs 64 a, left := share }

/-! ## Choices by level (R232) -/

/-- A vector at a resolution of adaptive motion vector resolution: 0 quarter, 1 integer, 2 four samples. -/
def atResolution (k : Nat) (m : Mv) : Mv :=
  let u : Int := if k = 0 then 1 else if k = 1 then 4 else 16
  { x := (2 * m.x + u) / (2 * u) * u, y := (2 * m.y + u) / (2 * u) * u }

/-- The smallest CU side tried at a level. -/
def leastCu : Nat → Nat
  | 0 | 1 => 8
  | 2 | 3 => 16
  | 4 => 32
  | _ => 64

/-- A CTU that the picture cuts off: its CUs are split as far as that calls for. -/
def partCtu (v : View) : Bool := decide (v.g.rowHeight v.row < 64) || decide (v.g.w < 64 * (v.col + 1))

/-- Splits that a CU may lie under. -/
def splitOk (v : View) (u : Cu) : Bool :=
  if v.codec = 0 then u.depth = 0
  else match v.level with
    | 0 => u.depth ≤ 2
    | 1 => u.depth ≤ 1
    | 2 => u.depth ≤ 1 && (u.depth = 0 || !u.ternary)
    | _ => u.depth = 0

/-- An intra mode that a level tries: by its place by SATD, or one of planar 0, DC 1, horizontal and vertical. -/
def intraOk (v : View) (mode rank : Nat) (mrl cclm : Bool) : Bool :=
  let vvc := decide (v.codec = 1)
  let four : List Nat := if vvc then [0, 1, 18, 50] else [0, 1, 10, 26]
  match v.level with
  | 0 => decide (rank < 3) && ((!mrl && !cclm) || vvc)
  | 1 => decide (rank < 2) && ((!mrl && !cclm) || vvc)
  | 2 => decide (rank < 1) && !mrl && (!cclm || vvc)
  | 3 => (decide (mode ∈ four) || decide (rank < 4)) && !mrl && !cclm
  | 4 => decide (mode ∈ four) && !mrl && !cclm
  | _ => decide (mode = 1) && !mrl && !cclm

/-- A merge candidate that a level tries. -/
def mergeOk (v : View) (cand : Nat) (mmvd : Bool) : Bool :=
  match v.level with
  | 0 | 1 => !mmvd || decide (v.codec = 1)
  | 2 => !mmvd
  | 3 => !mmvd && decide (cand ≤ 2)
  | _ => !mmvd && decide (cand = 0)

/-- A searched vector that AMVP may code at a level, at a resolution. -/
def amvpOk (v : View) (f : Found) (amvr ref : Nat) (m : Mv) : Bool :=
  match v.level with
  | 0 | 1 => decide (amvr = 0 ∨ v.codec = 1) &&
      f.mvs.any fun (r, q) => r = ref && atResolution amvr q = m
  | 5 => false
  | _ => decide (amvr = 0) && decide ((ref, m) ∈ f.mvs)

/-- Transform tools that a level tries for a CU. -/
def toolsOk (v : View) (u : Cu) : Bool :=
  let intra := match u.pred with
    | .intra .. => true
    | _ => false
  u.tools.all fun t =>
    if v.codec = 0 then decide (v.level ≤ 1) && (t = .dst || t = .skip4)
    else match t with
      | .jccr => decide (v.level ≤ 4)
      | .mts | .skip4 => decide (v.level ≤ 1)
      | .lfnst => v.level = 0 || (v.level = 1 && intra)
      | .dst => false

/-- A block on a reference without a band uses samples that were fetched (R240): its vector lies within the border
of a position of the full-resolution search. -/
def fetchedOk (v : View) (f : Found) (ref : Nat) (m : Mv) : Bool :=
  match v.refs[ref]? with
  | some r => r.banded || f.whole.any fun p => p.ref = ref &&
      decide ((4 * p.x - m.x).natAbs ≤ 16 ∧ (4 * p.y - m.y).natAbs ≤ 16)
  | none => false

/-- A CU of a choice is one that the CTU's level tries (R203, R232), from references and samples it may use. -/
def cuOk (v : View) (f : Found) (u : Cu) : Bool :=
  let inter := decide (u.mvs ≠ []) && u.mvs.all (fun (r, m) => blockOk v r m u.x u.y u.w u.h && fetchedOk v f r m)
  let bi := decide (u.mvs.length ≤ 1) || (decide (u.mvs.length = 2) && v.lowB && decide (v.level ≤ 1))
  (partCtu v || decide (leastCu v.level ≤ u.w ∧ leastCu v.level ≤ u.h) &&
    (decide (v.level ≠ 4) || decide (u.w = 64 ∨ u.w = 32))) &&
  splitOk v u && toolsOk v u &&
  (!u.weights || (decide (v.codec = 1 ∧ v.level = 0 ∧ u.mvs.length = 2))) &&
  match u.pred with
  | .intra mode rank mrl cclm => u.mvs.isEmpty && intraOk v mode rank mrl cclm
  | .merge cand mmvd _ => !v.intra && inter && bi && mergeOk v cand mmvd
  | .amvp amvr => !v.intra && inter && bi && u.mvs.all fun (r, m) => amvpOk v f amvr r m

/-- A choice is one that the CTU's level tries; ALF is a choice in VVC alone. -/
def trialOk (v : View) (f : Found) (t : Trial) : Bool :=
  decide (t.cus ≠ []) && t.cus.all (cuOk v f) &&
  (if v.level ≤ 3 then true else if v.level = 4 then decide (t.sao ≤ 1) else decide (t.sao = 0)) &&
  (if v.codec = 0 then !t.alf else if v.level = 4 then t.alf else if v.level = 5 then !t.alf else true)

/-- The choices in the order tried, until the cycles allowed for the segment so far are spent (R178, R232): the best
found and the cycles spent. -/
def tryAll (v : View) (f : Found) (allowed : Nat) : List Trial → Nat → Option Trial → Option Trial × Nat
  | [], spent, best => (best, spent)
  | t :: l, spent, best =>
    if best.isSome ∧ allowed ≤ spent then (best, spent)
    else
      let best' := if !trialOk v f t then best else match best with
        | none => some t
        | some b => if t.cost < b.cost then some t else some b
      tryAll v f allowed l (min allowed (spent + t.cycles)) best'

/-! ## The floor (R233) -/

/-- The way of R233 that codes a CTU at E5: skip (true) or inter with residual from vectors, or DC intra. -/
def floorWay (v : View) (c : CtuIn) : Option (Bool × List (Nat × Mv)) :=
  if v.intra then none
  else match primaryRef v with
    | none => none
    | some p =>
      let zero : List (Nat × Mv) := [(p, { x := 0, y := 0 })]
      let usable (l : List (Nat × Mv)) : Bool := decide (l ≠ []) && l.all fun (r, m) => ctuOk v r m &&
        (match v.refs[r]? with
          | some q => q.banded
          | none => false)
      if usable c.merge0 ∧ c.sad0 ≤ 4 * c.satdDc then some (true, c.merge0)
      else if usable zero ∧ c.sadZero ≤ 4 * c.satdDc then some (true, zero)
      else if usable c.merge0 ∧ (c.sad0 ≤ c.sadZero ∨ !usable zero) then some (false, c.merge0)
      else if usable zero then some (false, zero) else none

/-- A CU that follows the way of the floor. -/
def floorCu (way : Option (Bool × List (Nat × Mv))) (u : Cu) : Bool :=
  match way, u.pred with
  | some (true, l), .merge _ _ skip => skip && u.mvs = l
  | some (false, l), .merge _ _ skip => !skip && u.mvs = l
  | some (false, l), .amvp _ => u.mvs = l
  | none, .intra mode _ _ _ => u.mvs.isEmpty && decide (mode = 1)
  | _, _ => false

/-- The choice of an E5 CTU: what the Spire has for the way of R233, or the CTU as step 2 of R235 codes it. -/
def floorTrial (v : View) (c : CtuIn) : Trial :=
  let way := floorWay v c
  let fits (t : Trial) : Bool := decide (t.cus ≠ []) && t.cus.all (floorCu way) && t.cus.all (splitOk v) &&
    t.cus.all (fun u => u.tools.isEmpty) && (partCtu v || t.cus.all fun u => u.w = 64 && u.h = 64) &&
    decide (t.sao = 0) && !t.alf
  let pred : Pred := match way with
    | some _ => .merge 0 false true
    | none => .intra 1 0 false false
  let cu : Cu := { x := 0, y := 0, w := 64, h := 64, pred := pred, mvs := (way.map (·.2)).getD [] }
  (c.trials.find? fits).getD { cus := [cu], coded := [c.recode] }

end Sys2Proof.Machine
end

