-- ==== Sys2Proof/Machine/Coding.lean ====
section
/-! DEFINITION. What a Spire makes of a segment (R206, R215, R218, R228 to R236, R240, R253, R257, R265): CTU by
CTU, within the row's budget record, its level's cycles and its member's share. -/

namespace Sys2Proof.Machine

/-! ## Adaptive quantisation (R234) -/

/-- The luma samples of a CTU of a picture's source, at the depth coded (R198). -/
def ctuLuma (eight : Bool) (p : Pic) (row col height : Nat) : List Nat :=
  (slice p.src (64 * row) height).flatMap fun l =>
    (slice l.1 (64 * col) 64).map fun v => if eight then to8 v else v

/-- The variance of samples as a fraction. -/
def variance (l : List Nat) : Nat × Nat :=
  (l.length * (l.map fun v => v * v).sum - l.sum * l.sum, max 1 (l.length * l.length))

/-- The mean of fractions as a fraction. -/
def varMean (l : List (Nat × Nat)) : Nat × Nat :=
  let (a, b) := l.foldl (fun (a, b) (n, d) => (a * d + n * b, b * d)) (0, 1)
  (a, b * max 1 l.length)

/-- round(3 log2(a / m)) within -3 to 3, exactly: it is k or more when (a / m)^6 is 2^(2k-1) or more. -/
def aqOffset (a m : Nat × Nat) : Int :=
  if m.1 = 0 then 0
  else
    let n := (a.1 * m.2) ^ 6
    let d := (a.2 * m.1) ^ 6
    let ge (k : Int) : Bool := decide (d * 2 ^ (2 * k - 1).toNat ≤ n * 2 ^ (1 - 2 * k).toNat)
    (([-2, -1, 0, 1, 2, 3] : List Int).filter ge).length - 3

/-! ## Where a CTU stands -/

/-- A CTU already coded, at a row and column of the frame. -/
def ctuAt (l : List CtuRec) (row col : Nat) : Option CtuRec := l.find? fun u => u.row = row && u.col = col

/-- The references of a picture as a CTU in column `col` may use them (R206, R214, R239): the valid ones before the
bands run out have a band; left of a GDR cycle's column only what that cycle has refreshed serves. -/
def viewRefs (x : Ctx) (g : Geo) (r : FrameRec) (p : Pic) (col : Nat) : List RefView :=
  p.refs.zipIdx.map fun (n, i) =>
    let before := ((p.refs.take i).filter (·.found = 0)).length
    let fresh := match p.gdr with
      | some (k, start) =>
        if col < k * gdrWidth g r.cf then
          some (match (bufOf x n.buf).fresh with
            | some (b, cols) => if b = start then cols else 0
            | none => 0)
        else none
      | none => none
    { valid := decide (n.found = 0), banded := decide (before < p.bands), buf := n.buf, fresh := fresh }

/-- A CTU that its picture codes intra: every one of an IRAP, those of the refresh column of a GDR cycle (R206), and
those of a picture with no reference left (R215). -/
def intraCtu (g : Geo) (r : FrameRec) (p : Pic) (col : Nat) : Bool :=
  p.irap || !(p.refs.any (·.found = 0)) || (match p.gdr with
    | some (k, _) =>
      let w := gdrWidth g r.cf
      decide (k * w ≤ col ∧ col < (k + 1) * w)
    | none => false)

/-- What decides the choices of the CTU in row `row` and column `col` of a frame. -/
def viewOf (x : Ctx) (g : Geo) (r : FrameRec) (p : Pic) (u : Run) (low col : Nat) : View :=
  { codec := fnat r.cf 2, effort := fnat r.cf 7, level := if u.floor then 5 else u.level
    lowB := decide (fnat r.cf 10 = 2), g := g, row := g.inPic u.row, col := col
    refs := viewRefs x g r p col, inval := p.inval
    low := if g.picOf low < g.picOf u.row then 0 else g.inPic low
    k := r.k, intra := intraCtu g r p col }

/-! ## A CTU coded -/

/-- What the coding of a segment has given so far: the CTUs in order, the cycles of their decisions, the share of
on-demand bytes left, and the counts of R245 and R223. -/
structure Coding where
  ctus      : List CtuRec := []
  spent     : Nat := 0
  left      : Nat
  capped    : Nat := 0
  fallback  : Nat := 0
  denied    : Nat := 0
  concealed : Nat := 0

/-- The CTU as step 2 of R235 codes it: fewer than 64 bins, and no more bits than W of R255. -/
def recoded (codec : Nat) (c : Coded) : Coded :=
  { c with bins := min 63 c.bins, bits := min (floorBits codec) c.bits }

/-- The bin cap (R235): of the forms of a CTU with ever fewer residuals, the first that stays within it, with the
number of residuals given up; none when step 2 is needed. -/
def capped (cap : Nat) (t : Trial) : Option (Nat × Coded) :=
  (t.coded.take (t.tus.length + 1)).zipIdx.findSome? fun (c, i) => if c.bins ≤ cap then some (i, c) else none

/-- The tokens of a record (R265): no more than the record holds for its bins, ended by an end of CTU. -/
def tokensOf (c : Coded) : List Word := (c.tokens.dropLast.take (ceilDiv (max 1 c.bins) 4 - 1)) ++ [0xF0000000]

/-- The bytes of a CTU's record. -/
def recordBytes (u : CtuRec) : Nat := 16 + 4 * u.tokens.length

/-- The header of a CTU's record (R265). -/
def recordHeader (g : Geo) (u : CtuRec) : List Byte :=
  let flags := u.level + 8 * b2n u.floor + 16 * b2n u.intra + 32 * b2n u.recoded
  leBytes 2 (g.inPic u.row * g.ctus + u.col) ++ [BitVec.ofInt 8 u.qp, BitVec.ofNat 8 flags] ++ leBytes 4 u.bins ++
    leBytes 4 u.bits ++ leBytes 2 u.tokens.length ++ leBytes 2 0

/-- The choice that conceals a CTU whose source failed (R218): a skip from a reference, or DC without residual. -/
def concealTrial (v : View) (c : CtuIn) : Trial :=
  let cu : Cu := match primaryRef v with
    | some i => { x := 0, y := 0, w := 64, h := 64, pred := .merge 0 false true, mvs := [(i, { x := 0, y := 0 })] }
    | none => { x := 0, y := 0, w := 64, h := 64, pred := .intra 1 0 false false }
  { cus := [cu], coded := [recoded v.codec c.recode] }

/-- The CTU of column `col` coded after those of `acc` (R218, R230 to R236, R240, R257). -/
def codeCtu (x : Ctx) (g : Geo) (r : FrameRec) (p : Pic) (u : Run) (low : Nat) (acc : Coding) (col : Nat)
    (c : CtuIn) : Coding :=
  let codec := fnat r.cf 2
  let (lo, hi) := qpRange codec (fnat r.cf 3)
  let b := (budgetOf r u.row).getD { row := u.row, qp := hi, lambda := 0, cap := 64, aq := false, floor := true, q := 0 }
  let v := viewOf x g r p u low col
  let addr := u.row * g.ctus + col
  let known := acc.ctus.reverse ++ r.ctus
  let left := if col = 0 then none else ctuAt known u.row (col - 1)
  let above := if v.row = 0 then none else ctuAt known (u.row - 1) col
  let act := variance (ctuLuma (codec = 0 ∧ fnat r.cf 3 = 0) p v.row col (g.rowHeight u.row))
  let mean := varMean ((known.take 16).map fun t => (t.actNum, t.actDen))
  let qp := if b.floor ∨ !b.aq ∨ known = [] then b.qp else clip lo hi (b.qp + aqOffset act mean)
  let cap := if v.level = 5 then 64 else b.cap
  let near' := (left.map (·.mvs)).getD [] ++ (above.map (·.mvs)).getD []
  let bad := decide (addr ∈ r.srcBad)
  let found := search v (unitCharge (fnat r.cf 4)) acc.left near' (decide (addr ∈ r.pyrBad)) c
  let allowed := levelCost v.effort v.level * (col % 4 + 1) * g.rowHeight u.row / 64
  let (t, spent) :=
    if bad then (concealTrial v c, acc.spent)
    else if v.level = 5 then (floorTrial v c, min allowed (acc.spent + (floorTrial v c).cycles))
    else
      let (best, spent) := tryAll v found allowed c.trials acc.spent none
      (best.getD (floorTrial v c), spent)
  let again := recoded codec c.recode
  let (cut, step2, fin) := match capped cap t with
    | some (i, f) => (decide (0 < i), false, f)
    | none => (true, true, again)
  let row := ((known.filter (·.row = u.row)).map (·.bits)).sum
  let tight := decide (b.q < row + fin.bits + (g.ctus - 1 - col) * floorBits codec + 16)
  let fin := if tight then again else fin
  let step2 := step2 || tight
  let cus := if step2 then (concealTrial v c).cus else t.cus
  let tokens := tokensOf fin
  let refs := (validRefs p.refs).map fun n => (bufOf x n.buf).recon
  let lines (after : Bool) : List (List Nat) :=
    Config.bottomLines after codec qp tokens ((left.map (·.before)).getD []) ((above.map (·.before)).getD []) refs
  let intra := cus.all fun w => w.mvs.isEmpty
  let new : CtuRec :=
    { row := u.row, col := col, qp := qp, level := v.level, floor := u.floor, intra := intra, recoded := step2
      bins := max 1 fin.bins, bits := fin.bits, dist := t.dist, actNum := act.1, actDen := act.2
      mvs := cus.flatMap (·.mvs), edge := cus.filter fun w => g.rowHeight u.row ≤ w.y + w.h
      sao := if step2 then 0 else t.sao, alf := !step2 && t.alf, tokens := tokens
      before := lines false, after := lines true }
  { acc with
    ctus := acc.ctus ++ [new], spent := spent, left := if bad then acc.left else found.left
    capped := acc.capped + b2n cut, fallback := acc.fallback + b2n step2
    denied := acc.denied + (if bad then 0 else found.denied), concealed := acc.concealed + b2n bad }

/-- A segment coded from what the Spire found; `low` is the lowest row that a member of the gang is still coding, and
`share` the member's on-demand bytes (R240). -/
def codeSegment (x : Ctx) (g : Geo) (r : FrameRec) (p : Pic) (u : Run) (low share : Nat) (q : SegIn) : Coding :=
  (List.range (g.segCtus u.seg)).foldl
    (fun acc j => codeCtu x g r p u low acc (4 * u.seg + j) (q.ctus.getD j {})) { left := share }

end Sys2Proof.Machine
end

