-- ==== Sys2Proof/Machine/Contexts.lean ====
section
/-! DEFINITION. Encode contexts as commands open, change, close and read them (R192 to R202, R205, R216,
R223), and the scheduling commands (R187 to R189). -/

namespace Sys2Proof.Machine

/-! ## Opening (R195, R196, R199) -/

/-- The profiles of a codec and the chroma formats of a profile (R196). -/
def profilesOf (codec : Int) : List Nat := if codec = 0 then [0, 1, 2] else [1, 3]

/-- The chroma formats of a codec and profile (R196). -/
def chromasOf (codec profile : Int) : List Nat :=
  if codec = 0 then (if profile = 2 then [0, 1] else [0]) else if profile = 3 then [0, 1] else [0]

/-- P_min of R209. -/
def minPool (fields : Bool) (nref d : Int) : Int := if fields then nref + 2 * d + 2 else nref + d + 1

/-- The level field of R195 for a timebase in field 1 and a tier in field 5. -/
def levelSpec (s : State) (f : Fields) : Spec :=
  let t := tbD s (fnat f 1)
  { kind := .levels levelList
    cross := fun v =>
      let v := max v (minLevel t.format t.rate)
      if fld f 5 = 1 then max v 40 else v }

/-- Fields 5 to 16 of R195. -/
def encodeTail (s : State) : List (Fields → Spec) :=
  let geo (f : Fields) : Geo := geoTb s (fnat f 1)
  [pSel [0, 1], levelSpec s, pSel [0, 1, 2], pNum 2 4, pNum 0 2000000, pSel [0, 1, 2], pSel [0, 1, 2],
   fun f => { kind := .num 2 65535
              cross := fun v => if fld f 11 = 2 then min v (geo f).ctus else v },
   fun f => { kind := .num 0 4, cross := fun v => if fld f 10 = 0 then 0 else max v 1 },
   fun f => { kind := .num 0 1
              cross := fun v => if fld f 13 < 2 ∨ fld f 11 = 2 then 0 else v },
   fun f => { kind := .num 0 16
              cross := fun v => max v (minPool (geo f).fields (fld f 13) (fld f 8)) },
   pSel [0, 1]]

/-- The fields of 0x0501. -/
def encodeSpecs (s : State) : List (Fields → Spec) :=
  [pFix 0 15, pSel [0, 1], fun f => { kind := .sel (profilesOf (fld f 2)) },
   fun f => { kind := .sel (chromasOf (fld f 2) (fld f 3)) }] ++ encodeTail s

/-- The context is CLOSED, or this very command has it OPENING. -/
def closedFor (c : Cmd) (s : State) : Bool :=
  match (ctxOf s c.ctx).st with
  | .closed => true
  | .opening => s.cmd.pend.any fun p => p.cmd = c
  | _ => false

/-- Composition c is configured on the timebase and with the chroma format that the packet names (R304). -/
def compFits (c : Cmd) (s : State) : Bool :=
  match compOf s c.ctx with
  | some x => fld x.f 1 = wordInt false (c.params.getD 0 0) && fld x.f 2 = wordInt false (c.params.getD 3 0)
  | none => false

/-- The context OPENING with its fields and the settings it opens with (R192, R199). -/
def openingCtx (decode : Bool) (f : Fields) (s : State) : Ctx :=
  let t := tbD s (fnat f 1)
  { st := .opening, decode := decode, f := f
    rate := if decode then {} else defaultRate (geoTb s (fnat f 1)) t.format f }

/-- The state that acceptance of an open leaves: the context OPENING, and for an encode context its event
units taken. -/
def acceptOpen (decode : Bool) (c : Cmd) (f : Fields) (s : State) : State :=
  let x := openingCtx decode f s
  let s := modCtx c.ctx (fun _ => x) s
  if decode then s else (takeUnits c.ctx x s).getD s

/-- Stage 14 of an open: the timebase is configured, a unit can be had, and the limits of R23 hold with the
context counted. -/
def openPost (decode : Bool) (c : Cmd) (f : Fields) (s : State) : Option Status :=
  if (tbOf s (fnat f 1)).isNone then some .badState
  else if !decode && (takeUnits c.ctx (openingCtx decode f s) s).isNone then some .noResource
  else admitAfter (if (ctxOf s c.ctx).st = .closed then acceptOpen decode c f s else s)

/-- A context at the effect boundary of its open (R199): ACTIVE, with a pool whose generations are 0. An RTP
sequence starts at a free value (R277). -/
def openEffect (c : Cmd) (s : State) : State :=
  let (r, s) := draw s
  modCtx c.ctx (fun x =>
    { x with st := .active, pool := resize (poolSize s x) [], rtpSeq := r % 65536 }) s

/-- 0x0501: open an encode context. -/
def opOpenEncodeContext : Op where
  opcode := 0x0501
  framed := true
  ctxOk := fun c s => ctxId c && closedFor c s && compFits c s
  now := fun c s => decide ((ctxOf s c.ctx).st = .closed)
  target := fun c _ => some (c.params.getD 0 0).toNat
  needsTime := fun _ _ => true
  specs := fun _ s => encodeSpecs s
  post := openPost false
  accept := acceptOpen false
  apply := fun c _ s => { s := openEffect c s }

/-! ## Modifying (R200, R201, R512) -/

/-- The fields of 0x0503 for a context: those of 0x0501, with the relations of R200. -/
def modifySpecs (s : State) (x : Ctx) : List (Fields → Spec) :=
  let t := tbD s x.tb
  [fun _ => { kind := .pred fun v => 0 ≤ v && v ≤ 15 &&
      (match tbOf s v.toNat with
        | some u => u.rate = t.rate
        | none => true) },
   pSel [fnat x.f 2], pSel [fnat x.f 3], pSel [fnat x.f 4], pSel [0, 1], levelSpec s, pSel [0, 1, 2],
   fun _ => { kind := .num 2 4, cross := fun _ => fld x.f 8 },
   fun _ => { kind := .num 0 2000000, cross := fun _ => fld x.f 9 }] ++ (encodeTail s).drop 5

/-- A move to another timebase: the composition goes with the context, and the starts of its graphics and
Lantern items are counted on from the new frame counts (R304, R309, R512). -/
def moveComp (c old new : Nat) (s : State) : State :=
  let shift : Int := countNow s (tbD s new) - countNow s (tbD s old)
  let at' (n : Nat) : Nat := ((n : Int) + shift).toNat
  { s with cup := { s.cup with comps := tmod none s.cup.comps c fun x => x.map fun x =>
      { x with
        f := fset x.f 1 new
        graphics := tmap none x.graphics fun _ g => g.map fun g => { g with start := at' g.start }
        items := tmap none x.items fun _ i => i.map fun i => { i with start := at' i.start } } } }

/-- The fields that a change rebuilds the context for (R200). -/
def rebuilds (x : Ctx) (f : Fields) : Bool :=
  [1, 10, 13, 15].any fun i => fld x.f i ≠ fld f i

/-- The state after 0x0503. -/
def modifyState (c : Cmd) (f : Fields) (s : State) : State :=
  let x := ctxOf s c.ctx
  let old := x.tb
  let new := fnat f 1
  let next := (fld f 11, fld f 12)
  let x' := { x with f := fset (fset f 11 (fld x.f 11)) 12 (fld x.f 12)
                     refreshNext := if next = (fld x.f 11, fld x.f 12) then none else some next }
  let s := if rebuilds x f then noteCause c.ctx 2 (fun _ => true) s else s
  let x' := if rebuilds x f then rebuild s.tick (fnat f 15) x' else x'
  let s := modCtx c.ctx (fun _ => x') s
  let s := if old ≠ new then moveComp c.ctx old new s else s
  retakeUnits c.ctx s

/-- 0x0503: modify an encode context. -/
def opModifyEncodeContext : Op where
  opcode := 0x0503
  framed := true
  ctxOk := encodeOpen
  target := ctxTarget
  needsTime := fun _ _ => true
  specs := fun c s => modifySpecs s (ctxOf s c.ctx)
  post := fun c f s =>
    let x := ctxOf s c.ctx
    match tbOf s (fnat f 1) with
    | none => some .badState
    | some t =>
      if t.format ≠ (tbD s x.tb).format then some .badState
      else match encodeActive c s with
        | some st => some st
        | none =>
          if (takeUnits c.ctx { x with f := f } s).isNone then some .noResource
          else admitAfter (modifyState c f s)
  apply := fun c f s => { s := modifyState c f s }

/-! ## Frames that leave the context, and the return to CLOSED (R202, R190, R386) -/

/-- A frame's holders given up: its references when it is bound, and its own buffer. -/
def releaseFrame (r : FrameRec) (s : State) : State :=
  modCtx r.ctx (fun x =>
    let x := if r.bound then (r.pics.flatMap fun p => validRefs p.refs).foldl (fun x n =>
      if (bufOf x n.buf).gen = n.gen then modBuf n.buf (unheld s.tick) x else x) x else x
    let x := match r.subBuf with
      | some b => modBuf b (unheld s.tick) x
      | none => x
    r.pics.foldl (fun x p => modBuf p.buf (unheld s.tick) x) x) s

/-- A record removed. -/
def dropFrame (r : FrameRec) (s : State) : State :=
  let same (t : Task) : Bool := t.ctx = r.ctx && t.frame = r.frame && t.bottom == r.bottom
  { s with camp := { s.camp with
      frames := s.camp.frames.filter fun q => !isFrame r.ctx r.frame r.bottom q
      matching := s.camp.matching.filter fun t => !same t
      ready := s.camp.ready.filter fun t => !same t
      pendSpill := s.camp.pendSpill.filter fun t => !same t
      readySpill := s.camp.readySpill.filter fun t => !same t } }

/-- The context returns to CLOSED: its pool, budget and table entries are freed, and an egress flow of its
coded output loses its enable (R202, R386). -/
def closeCtx (c : Nat) (s : State) : State :=
  let s := fwDropCtx c { s with ctxs := tset {} s.ctxs c {} }
  let out (x : EFlow) : Bool := (fnat x.f 2 = 1 || fnat x.f 2 = 2) && fnat x.f 5 = c
  let off (x : EFlow) : EFlow := if out x then { x with f := fset x.f 1 0 } else x
  { s with flows := { s.flows with egress := tmap none s.flows.egress fun _ x => x.map off } }

/-- A CLOSING context without frames returns to CLOSED. -/
def settleClosing (c : Nat) (s : State) : State :=
  if (ctxOf s c).st = .closing ∧ !s.camp.frames.any (fun r => r.ctx = c) then closeCtx c s else s

/-- A close at its effect boundary (R202, R190, R302, R78): frames and units not yet released go, later Contexts commands
that name the context are cancelled, and the context is CLOSING, or CLOSED when nothing is left. -/
def closeEffect (c : Nat) (at' : Option Int) (s : State) : State :=
  let later (p : Pend) : Bool := p.cmd.ctx = c && decide (p.opcode / 256 = 5) && (match at' with
    | some t => decide (t < p.at')
    | none => true)
  let s := cancelPend later 1 s
  let gone := s.camp.frames.filter fun r => r.ctx = c && !r.released
  let s := gone.foldl (fun s r => dropFrame r (releaseFrame r s)) s
  if (ctxOf s c).st = .opening then closeCtx c s
  else settleClosing c (modCtx c (fun x => { x with st := .closing, units := x.units.filter (·.fin.isSome) }) s)

/-- 0x0502: close a context, encode or decode (R202). -/
def opCloseContext : Op where
  opcode := 0x0502
  framed := true
  ctxOk := fun c s => ctxId c && decide ((ctxOf s c.ctx).st = .opening ∨ (ctxOf s c.ctx).st = .active)
  target := ctxTarget
  needsTime := fun _ _ => true
  apply := fun c _ s =>
    let at' := (ctxTarget c s).map fun t => boundaryAt s t (countNow s (tbD s t))
    let s := match at' with
      | some t => { s with cmd := { s.cmd with closed := (c.ctx, t) :: s.cmd.closed.filter fun p => p.2 = t } }
      | none => s
    { s := closeEffect c.ctx at' s }

/-! ## IRAP requests and invalidation (R205, R216, R220) -/

/-- 0x0510: request an IRAP. -/
def opRequestIrap : Op where
  opcode := 0x0510
  framed := true
  ctxOk := encodeOpen
  target := ctxTarget
  needsTime := fun _ _ => true
  post := fun c _ s => encodeActive c s
  apply := fun c _ s => { s := modCtx c.ctx (fun x => { x with irapDue := true }) s }

/-- References of frames from `from_` on released, and dropped from the open frames that have not bound. -/
def invalidate (c : Nat) (from_ : Nat) (s : State) : State :=
  let x := ctxOf s c
  let out := (List.range x.pool.length).filter fun b =>
    ((bufOf x b).mark = .short || (bufOf x b).mark = .long) && decide (from_ ≤ (bufOf x b).frame)
  let s := modCtx c (fun x =>
    out.foldl (fun x b => modBuf b (dropped s.tick) x) { x with kept := x.kept.filter (· ∉ out) }) s
  let lose (n : RefName) : RefName :=
    if n.buf ∈ out ∧ n.gen = (bufOf x n.buf).gen then { n with dropped := true, cause := 1 } else n
  { s with camp := { s.camp with frames := s.camp.frames.map fun r =>
      if r.ctx = c && !r.bound then { r with pics := r.pics.map fun p => { p with refs := p.refs.map lose } }
      else r } }

/-- 0x0511: invalidate references from frame X on. -/
def opInvalidateReferences : Op where
  opcode := 0x0511
  framed := true
  ctxOk := encodeOpen
  target := ctxTarget
  needsTime := fun _ _ => true
  specs := fun _ _ => [pAny, pAny]
  post := fun c _ s => encodeActive c s
  apply := fun c f s => { s := invalidate c.ctx (fnat f 1 + fnat f 2 * 2 ^ 32) s }

/-! ## Status (R223) -/

/-- The code of a context state. -/
def ctxCode : CtxState → Nat
  | .closed => 0
  | .opening => 1
  | .active => 2
  | .closing => 3

/-- The code of a mark (R210). -/
def markCode : Mark → Nat
  | .unused => 0
  | .short => 1
  | .long => 2
  | .held => 3
  | .corrupt => 4

/-- The pool of a context as 16-byte entries. -/
def poolEntries (x : Ctx) (n : Nat) : List Word :=
  (List.range n).flatMap fun i =>
    let b := bufOf x i
    let frame := if b.mark = .unused then 0 else b.frame
    [natWord (markCode b.mark + b.gen * 2 ^ 8 + b.holders * 2 ^ 16), 0, natWord frame,
      natWord (frame / 2 ^ 32)]

/-- Stored bytes per 1,024 raw bytes over the last 64 frames (R223 word 8). How a fraction rounds is open (log
entry 32); before the first picture closes there is no ratio: a free value (log entry 46). -/
def storedRatio (x : Ctx) (s : State) : Nat × State :=
  let sum := (x.stored.map (·.1)).sum * 1024
  let raw := (x.stored.map (·.2)).sum
  if raw = 0 then draw s
  else (sum / raw + b2n (sum % raw ≠ 0 && Config.roundUp sum raw), s)

/-- 0x0550: read the status of an encode context; a CLOSED one gives its state word alone. -/
def opReadContextStatus : Op where
  opcode := 0x0550
  reads := true
  ctxOk := fun c s => ctxId c && !(ctxOf s c.ctx).decode
  apply := fun c _ s =>
    let x := ctxOf s c.ctx
    let p := fnat x.f 15
    let w0 := natWord (ctxCode x.st * 2 ^ 24 + p * 2 ^ 16 + fnat x.f 13 * 2 ^ 8 + x.tb)
    if x.st = .closed then { s := s, words := [0] }
    else
      let (ratio, s) := storedRatio x s
      { s := s
        words := [w0, natWord x.lastIrap, natWord (x.lastIrap / 2 ^ 32), natWord x.irapCount,
          natWord x.missing, natWord x.stale, natWord x.corrupt, natWord x.concealed, natWord ratio,
          natWord (footprintMib s c.ctx x)] ++ poolEntries x p }

/-! ## Scheduling (R187 to R189) -/

/-- 0x0530: a context's priority and guard. -/
def opSchedulingFields : Op where
  opcode := 0x0530
  framed := true
  ctxOk := fun c s => ctxId c && decide ((ctxOf s c.ctx).st = .opening ∨ (ctxOf s c.ctx).st = .active)
  target := ctxTarget
  needsTime := fun _ _ => true
  specs := fun _ _ => [pNum 0 15, pNum 50 2000]
  post := fun c _ s => encodeActive c s
  apply := fun c f s => { s := modCtx c.ctx (fun x => { x with sched := f }) s }

/-- 0x0531: binding budget and spill region; in STANDBY only. -/
def opDeviceSchedulingFields : Op where
  opcode := 0x0531
  framed := true
  ctxOk := fun c s => decide (c.ctx = 0xFFFF) && decide (s.dev.state = .standby)
  specs := fun _ _ => [pNum 500 4000, pNum 16 256 16]
  apply := fun _ f s => { s := { s with camp := { s.camp with f := f } } }

/-- 0x0532: a context's scheduling statistics. -/
def opReadSchedulingStatistics : Op where
  opcode := 0x0532
  reads := true
  ctxOk := fun c s => ctxId c && decide ((ctxOf s c.ctx).st ≠ .closed)
  apply := fun c _ s =>
    let x := ctxOf s c.ctx
    { s := s
      words := x.levels.map natWord ++ [natWord x.urgents, natWord x.skips, natWord x.lastGang, x.lastBind,
        natWord x.substitutes] }

end Sys2Proof.Machine
end

