-- ==== Sys2Proof/Machine/Colour.lean ====
section
/-! DEFINITION. Conversion of layers between colour spaces (R322 to R324). Spaces are numbered 0 BT.709, 1 BT.2020
SDR, 2 BT.2100 PQ, 3 BT.2100 HLG; signals are narrow-range with 10 integer and 10 fraction bits, light is in units of
0.01 cd/m² (log entry 100). -/

namespace Sys2Proof.Machine

/-- Three components. -/
structure Trip where
  a : Int
  b : Int
  c : Int
  deriving DecidableEq, Repr

/-- A function of each component. -/
def Trip.map (f : Int → Int) (x : Trip) : Trip := ⟨f x.a, f x.b, f x.c⟩

/-- A quotient of the 20-bit arithmetic: whole, or one above where it is not whole and its rounding is open. -/
def quot (n : Int) (d : Nat) : Int :=
  if n % d ≠ 0 ∧ Config.roundUp n.natAbs d then n / d + 1 else n / d

/-- A value within 20 bits. -/
def cap20 (v : Int) : Int := clip 0 1048575 v

/-- Kr, Kg and Kb in ten-thousandths: BT.709, or BT.2020 non-constant luminance (PRESUMED, log entry 100). -/
def weights (space : Nat) : Int × Int × Int := if space = 0 then (2126, 7152, 722) else (2627, 6780, 593)

/-- Step 1 of R322: Y'CbCr in 10-bit samples to R'G'B'. -/
def toRgb (space : Nat) (p : Trip) : Trip :=
  let (kr, kg, kb) := weights space
  let y := p.a * 1024
  let cb := (p.b - 512) * 1024
  let cr := (p.c - 512) * 1024
  let red (k : Int) (v : Int) : Int := quot (2 * (10000 - k) * v * 876) 8960000
  Trip.map cap20 ⟨y + red kr cr,
    y - quot (2 * (kr * (10000 - kr) * cr + kb * (10000 - kb) * cb) * 876) (kg.toNat * 8960000), y + red kb cb⟩

/-- Step 3 of R322: R'G'B' to Y'CbCr, in 10-bit samples. -/
def fromRgb (space : Nat) (p : Trip) : Trip :=
  let (kr, kg, kb) := weights space
  let y := quot (kr * p.a + kg * p.b + kb * p.c) 10000
  let diff (k v : Int) : Int := 524288 + quot ((v - y) * 8960000) (2 * (10000 - k) * 876).toNat
  Trip.map (fun v => clip 0 1023 ((v + 512) / 1024)) ⟨y, diff kb p.c, diff kr p.a⟩

/-! ## Presets (R322, R323) -/

/-- What a signal of a space stands for where R323 says so: black, SDR 100 % and HLG 75 % at 203 cd/m², the HLG
peak at 1,000 cd/m², in entries of the 4,096-entry curve. -/
def anchorIn (space i : Nat) : Option Nat :=
  if i = 256 then some 0
  else if space < 2 ∧ i = 3760 then some 20300
  else if space = 3 ∧ i = 2884 then some 20300
  else if space = 3 ∧ i = 3760 then some 100000
  else none

/-- Entry `i` of a space's curve to linear light: an anchor, or the space's transfer function (free, log entry
100). -/
def lightEntry (space i : Nat) : Nat := (anchorIn space i).getD (min 1048575 (Config.curveIn space i))

/-- The curve to linear light, interpolated linearly between its entries. -/
def toLight (space : Nat) (v : Int) : Int :=
  let i := v.toNat / 256
  let f := v.toNat % 256
  quot (lightEntry space i * (256 - f : Nat) + lightEntry space (min 4095 (i + 1)) * f : Nat) 256

/-- HLG scene light shown at 1,000 cd/m² nominal peak with system gamma 1.2, or what is shown taken back to the
scene, each in the light that a grey of the value is shown at: a grey stays as it is, any other colour follows BT.2100
(free, log entry 100). -/
def hlgShown (back : Bool) (p : Trip) : Trip :=
  if p.a = p.b ∧ p.b = p.c then p
  else
    let of' (i : Nat) : Int := min 1048575 (Config.hlgShow back i p.a.toNat p.b.toNat p.c.toNat : Nat)
    ⟨of' 0, of' 1, of' 2⟩

/-- A matrix in ten-thousandths applied. -/
def matrix3 (m : List Int) (p : Trip) : Trip :=
  let row (i : Nat) : Int := quot (m.getD i 0 * p.a + m.getD (i + 1) 0 * p.b + m.getD (i + 2) 0 * p.c) 10000
  ⟨row 0, row 3, row 6⟩

/-- The gamut matrix between two spaces: BT.2087 from BT.709 to BT.2020, its inverse back (PRESUMED, log entry 100),
none between two spaces of BT.2020 primaries. -/
def gamut (inn out : Nat) (p : Trip) : Trip :=
  if inn = 0 ∧ out ≠ 0 then matrix3 [6274, 3293, 433, 691, 9195, 114, 164, 880, 8956] p
  else if inn ≠ 0 ∧ out = 0 then matrix3 [16605, -5876, -729, -1246, 11329, -83, -182, -1006, 11188] p
  else p

/-- The part in 1,024 of its distance from the achromatic axis at `y` that a component may keep to lie in 0 to
`hi`. -/
def keepPart (y hi v : Int) : Int :=
  if v < 0 then y * 1024 / (y - v) else if hi < v then (hi - y) * 1024 / (v - y) else 1024

/-- Out-of-gamut values compressed towards the achromatic axis with hue held: all three components keep one and the
same part of their distance from it, at most what brings them within 0 and `hi`. -/
def compressGamut (out : Nat) (hi : Int) (p : Trip) : Trip :=
  let (kr, kg, kb) := weights out
  let y := clip 0 hi ((kr * p.a + kg * p.b + kb * p.c) / 10000)
  let k := min (keepPart y hi p.a) (min (keepPart y hi p.b) (keepPart y hi p.c))
  if k = 1024 then p
  else
    let k := min k (Config.gamutPart [y, hi, p.a, p.b, p.c] : Nat)
    p.map fun v => clip 0 hi (y + (v - y) * k / 1024)

/-- The tone curve in light (R323): PQ for HLG is soft-clipped from 800 to 1,000 cd/m² (free between), every other
preset keeps display light. -/
def tone (inn out : Nat) (v : Int) : Int :=
  if inn = 2 ∧ out = 3 ∧ 80000 < v then clip 80000 100000 (Config.softClip v.toNat : Nat) else v

/-- The signal of a light where R323 says it: black, and 203 cd/m² at SDR 100 % and at HLG 75 %. -/
def anchorOut (space : Nat) (v : Int) : Option Int :=
  if v ≤ 0 then some 65536
  else if space < 2 ∧ v = 20300 then some 962560
  else if space = 3 ∧ v = 20300 then some 738304
  else if space = 3 ∧ v = 100000 then some 962560
  else none

/-- The output transfer curve; HDR on SDR maps reference white to 1,000 cd/m² onto 100 to 109 % of signal by a knee
(free between), with a hard limit above. -/
def toSignal (inn out : Nat) (v : Int) : Int :=
  if 2 ≤ inn ∧ out < 2 ∧ 100000 ≤ v then 1043292
  else if 2 ≤ inn ∧ out < 2 ∧ 20300 < v then clip 962560 1043292 (Config.knee v.toNat : Nat)
  else (anchorOut out v).getD (cap20 (Config.curveOut out v.toNat : Nat))

/-- A preset (R322): curve to linear light, gamut matrix, tone curve, output transfer curve. -/
def preset (inn out : Nat) (p : Trip) : Trip :=
  let l := p.map (toLight inn)
  let l := if inn = 3 then hlgShown false l else l
  let hi := max 20300 (max l.a (max l.b l.c))
  let l := (compressGamut out hi (gamut inn out l)).map (tone inn out)
  let l := if out = 3 then hlgShown true l else l
  l.map (toSignal inn out)

/-! ## 3D tables (R324) -/

/-- The position of a signal on an axis of the table: the node below, and the part of 1,047,552 towards the next. -/
def axisPos (v : Int) : Nat × Nat :=
  let n := v.toNat * 32
  if 32 ≤ n / 1047552 then (31, 1047552) else (n / 1047552, n % 1047552)

/-- Tetrahedral interpolation among the nodes around a position: from the node below on every axis, one step along
the axis with the largest part, then the next, then the last. -/
def tetra (node : Nat → Nat → Nat → Int) (p : Trip) : Int :=
  let (i, x) := axisPos p.a
  let (j, y) := axisPos p.b
  let (k, z) := axisPos p.c
  let d := 1047552
  let walk (f1 f2 f3 : Nat) (p1 p2 : Int) : Int :=
    quot ((d - f1 : Nat) * node i j k + (f1 - f2 : Nat) * p1 + (f2 - f3 : Nat) * p2 +
      (f3 : Nat) * node (i + 1) (j + 1) (k + 1)) d
  if y ≤ x then
    if z ≤ y then walk x y z (node (i + 1) j k) (node (i + 1) (j + 1) k)
    else if z ≤ x then walk x z y (node (i + 1) j k) (node (i + 1) j (k + 1))
    else walk z x y (node i j (k + 1)) (node (i + 1) j (k + 1))
  else if z ≤ x then walk y x z (node i (j + 1) k) (node (i + 1) (j + 1) k)
  else if z ≤ y then walk y z x (node i (j + 1) k) (node i (j + 1) (k + 1))
  else walk z y x (node i j (k + 1)) (node i (j + 1) (k + 1))

/-- A 3D table applied (R324): `word` reads the word at an index, three 12-bit outputs of which 4,095 stands for
1,023.75. -/
def table3 (word : Nat → BitVec 40) (p : Trip) : Trip :=
  let node (at' : Nat) (i j k : Nat) : Int := ((word ((i * 33 + j) * 33 + k)).extractLsb' at' 12).toNat * 256
  ⟨tetra (node 0) p, tetra (node 12) p, tetra (node 24) p⟩

/-! ## A layer's pixel -/

/-- A pixel converted from a layer's space to the output space (R322): the same space keeps its values; else a
preset, or the table in its place. -/
def convert (table : Option (Nat → BitVec 40)) (inn out : Nat) (p : Trip) : Trip :=
  if inn = out then p
  else
    let rgb := toRgb inn p
    fromRgb out (match table with
      | some w => table3 w rgb
      | none => preset inn out rgb)

end Sys2Proof.Machine
end

