-- ==== Sys2Proof/Machine/Campanile.lean ====
section
/-! DEFINITION. Campanile's stores, operands, ladder, binding and dispatch (R161 to R185, R266, R267). The
rows of the table that run them are in `Frames.lean`. -/

namespace Sys2Proof.Machine

/-! ## Frames and their clock -/

/-- The frame record of a context's picture. -/
def frameOf (s : State) (c n : Nat) (b : Bool) : Option FrameRec := s.camp.frames.find? (isFrame c n b)

/-- The state with a frame record changed. -/
def modFrame (c n : Nat) (b : Bool) (f : FrameRec → FrameRec) (s : State) : State :=
  { s with camp := { s.camp with frames := s.camp.frames.map fun r => if isFrame c n b r then f r else r } }

/-- The state with Campanile's record changed. -/
def modCamp (f : Camp → Camp) (s : State) : State := { s with camp := f s.camp }

/-- The geometry of a frame: a decode frame is one picture. -/
def frameGeo (s : State) (r : FrameRec) : Geo :=
  let g := geoTb s (fnat (if r.cf = [] then (ctxOf s r.ctx).f else r.cf) 1)
  { g with pair := g.pair && !r.decode }

/-- Picture `i` of a frame. -/
def picAt (r : FrameRec) (i : Nat) : Pic := r.pics.getD i {}

/-- The frame with picture `i` changed. -/
def modPic (i : Nat) (f : Pic → Pic) (r : FrameRec) : FrameRec := { r with pics := r.pics.modify i f }

/-- Every reference that a frame's pictures name. -/
def allRefs (r : FrameRec) : List RefName := r.pics.flatMap (·.refs)

/-- The fields that a frame runs by: those in force at its release (R190). -/
def frameFields (s : State) (r : FrameRec) : Fields := if r.cf = [] then (ctxOf s r.ctx).f else r.cf

/-- The timebase of a frame. -/
def frameTb (s : State) (r : FrameRec) : Nat := fnat (frameFields s r) 1

/-- Raster time now on a frame's timebase, in ns, as its deadlines meet it (R159, R177). -/
def frameNow (s : State) (r : FrameRec) : Int := heldNs s (tbD s (frameTb s r))

/-- The launch of an encode frame (R155, R177): A(n + D) + T_off on the raster. -/
def launchOf (s : State) (r : FrameRec) : Int :=
  let f := frameFields s r
  r.launch.getD (boundaryNs s (frameTb s r) (r.frame + fnat f 8) + fld f 9)

/-- The guard in ns. -/
def guardNs (r : FrameRec) : Int := fld r.sched 2 * 1000

/-- The binding budget in ns. -/
def budgetNs (s : State) : Int := fld s.camp.f 1 * 1000

/-- The instant by which a frame's work must end when it binds now: L - guard (R177), or the show slot of a
decode frame (R289). -/
def frameEnd (s : State) (r : FrameRec) : Int :=
  if r.decode then boundaryNs s (frameTb s r) r.frame else launchOf s r - guardNs r

/-- The cost per CTU of a frame at a level. -/
def frameCost (s : State) (r : FrameRec) (level : Nat) : Nat :=
  if r.decode then 819 else levelCost (fnat (frameFields s r) 7) level

/-- The latest bind time (R183, R288). -/
def latestBind (s : State) (r : FrameRec) : Int :=
  let x := { ctxOf s r.ctx with f := frameFields s r }
  frameEnd s r - floorNs s (gangWork (frameGeo s r) (gangOf s x).1) (frameCost s r 5)

/-! ## Matching store, ready lists and spill (R164 to R167) -/

/-- BIND and CLOSE tasks use the reserved entries and never spill. -/
def reservedTask (t : Task) : Bool := t.kind = .bind || t.kind = .close

/-- Free unreserved entries of the matching store. -/
def freeMatching (s : State) : Nat := 14336 - (s.camp.matching.filter (!reservedTask ·)).length

/-- Free unreserved entries of the ready lists. -/
def freeReady (s : State) : Nat := 6144 - (s.camp.ready.filter (!reservedTask ·)).length

/-- Entries in the spill region. -/
def spillUsed (s : State) : Nat := s.camp.pendSpill.length + s.camp.readySpill.length

/-- Free entries of the spill region (R167, R188). -/
def freeSpill (s : State) : Nat := fnat s.camp.f 2 * 16384 - spillUsed s

/-- The frame of a task. -/
def taskFrame (s : State) (t : Task) : Option FrameRec := frameOf s t.ctx t.frame t.bottom

/-- The priority of a task: its context's, as its frame holds it (R165, R187). -/
def taskPriority (s : State) (t : Task) : Nat :=
  match taskFrame s t with
  | some r => fnat r.sched 1
  | none => 0

/-- SPILL_FULL raised when the region has just filled (R167, R496). -/
def noteSpill (s0 s : State) : State := if freeSpill s = 0 ∧ freeSpill s0 ≠ 0 then raise 3 1 s else s

/-- A task created (R166). -/
def addTask (s : State) (t : Task) : State :=
  if reservedTask t || (s.camp.pendSpill.isEmpty && decide (0 < freeMatching s)) then
    modCamp (fun c => { c with matching := c.matching ++ [t] }) s
  else noteSpill s (modCamp (fun c => { c with pendSpill := c.pendSpill ++ [t] }) s)

/-- The order of ready tasks (R165): by the tick in which they became ready, then context, row and segment. -/
def taskBefore (a b : Task) : Bool :=
  if a.tick ≠ b.tick then decide (a.tick < b.tick)
  else if a.ctx ≠ b.ctx then decide (a.ctx < b.ctx)
  else if a.row ≠ b.row then decide (a.row < b.row)
  else decide (a.seg ≤ b.seg)

/-- A task put in its place. -/
def insTask (t : Task) : List Task → List Task
  | [] => [t]
  | u :: l => if taskBefore u t then u :: insTask t l else t :: u :: l

/-- A task that has become ready now (R165, R166): its level's spill queue takes it while that queue holds any. -/
def addReady (s : State) (t : Task) : State :=
  let t := { t with tick := s.tick }
  let p := taskPriority s t
  let spilled := s.camp.readySpill.any fun u => taskPriority s u = p
  if reservedTask t || (!spilled && decide (0 < freeReady s)) then
    modCamp (fun c => { c with ready := insTask t c.ready }) s
  else noteSpill s (modCamp (fun c => { c with readySpill := insTask t c.readySpill }) s)

/-! ## Operands (R161, R162, R228, R267) -/

/-- Rows of a named reference that are reconstructed: all of them once its frame has closed. A bottom field may
name the top field of its own frame. -/
def refRows (s : State) (r : FrameRec) (n : RefName) (rows : Nat) : Nat :=
  match s.camp.frames.find? fun q => q.ctx = r.ctx && q.frame = n.frame && q.pics.any (·.buf = n.buf) with
  | some q => match q.pics.find? (·.buf = n.buf) with
    | some p => if q.bound then p.recRows else 0
    | none => rows
  | none => rows

/-- Slot 1 of a SEG or DSEG task for row `row` of a frame: every valid reference of its picture is reconstructed
through the row that the vertical reach of 2 and the filter row call for (R162, R231). -/
def refsReady (s : State) (r : FrameRec) (g : Geo) (row : Nat) : Bool :=
  (validRefs (picAt r (g.picOf row)).refs).all fun n =>
    decide (min (g.prows - 1) (g.inPic row + 3) < refRows s r n g.prows)

/-- Slot 2: the left and above-right segments are done, where they exist. -/
def wavefront (r : FrameRec) (g : Geo) (row seg : Nat) : Bool :=
  (seg = 0 || decide ((row, seg - 1) ∈ r.done)) &&
    (g.inPic row = 0 || decide ((row - 1, min (seg + 1) (g.segs - 1)) ∈ r.done))

/-- The preceding segment of a substream, or the one whose contexts a row inherits, is coded or parsed. -/
def precedes (g : Geo) (r : FrameRec) (row seg : Nat) : Bool :=
  if seg = 0 then g.inPic row = 0 || decide ((row - 1, 0) ∈ r.coded) else decide ((row, seg - 1) ∈ r.coded)

/-- Every earlier frame of the context has bound (R161 slot 1 of BIND). -/
def prevBound (s : State) (r : FrameRec) : Bool :=
  (s.camp.frames.takeWhile fun q => !isFrame r.ctx r.frame r.bottom q).all fun q => q.ctx ≠ r.ctx || q.bound

/-- The segments of a picture. -/
def allSegs (g : Geo) : List (Nat × Nat) :=
  (List.range g.rows).flatMap fun r => (List.range g.segs).map fun j => (r, j)

/-- Every slot of a task holds its required count (R161). -/
def taskReady (s : State) (t : Task) : Bool :=
  match taskFrame s t with
  | none => false
  | some r =>
    let g := frameGeo s r
    match t.kind with
    | .bind => r.released && prevBound s r
    | .seg => decide (g.inPic t.row < (picAt r (g.picOf t.row)).srcRows) && refsReady s r g t.row &&
        wavefront r g t.row t.seg && (budgetOf r t.row).isSome
    | .dome => decide ((t.row, t.seg) ∈ r.done) && precedes g r t.row t.seg
    | .close => r.incomplete || decide ((if r.decode then r.done else r.coded).length = g.rows * g.segs)
    | .dparse => precedes g r t.row t.seg
    | .dseg => decide ((t.row, t.seg) ∈ r.coded) && refsReady s r g t.row && wavefront r g t.row t.seg

/-- Every task of the matching store whose slots are met becomes ready (R162, R165). -/
def promote (s : State) : State :=
  let rdy := s.camp.matching.filter (taskReady s)
  let order := rdy.foldl (fun l t => insTask t l) []
  order.foldl addReady
    (modCamp (fun c => { c with matching := c.matching.filter fun t => t ∉ rdy }) s)

/-! ## Staging (R265, R266) -/

/-- Pages of 4 KiB that bytes take. -/
def pages (bytes : Nat) : Nat := ceilDiv bytes 4096

/-- Pages held as reserves, and pages in use. -/
def stagePages (s : State) : Nat × Nat :=
  ((s.camp.frames.map fun r => pages r.reserve).sum, (s.camp.frames.map fun r => pages r.staged).sum)

/-- Pages neither reserved nor in use. -/
def freePages (s : State) : Nat := 3072 - ((stagePages s).1 + (stagePages s).2)

/-- A CTU's record of these bytes and bins may be staged by a frame at E0 to E4. -/
def mayStage (s : State) (r : FrameRec) (bytes bins : Nat) : Bool :=
  let us := max 10 (fnat r.sched 2 - 80)
  decide (pages (r.staged + bytes) - pages r.staged ≤ freePages s ∧
    r.pendBins + bins ≤ domesFor r.k * 3000 * us)

/-! ## The effort ladder (R177 to R182) -/

/-- The step-adjusted clock of Spire `i` in sixteenths of a MHz. -/
def spireMhz16 (s : State) (i : Nat) : Nat := spireClock s * stepSixteenths (spireStep s i)

/-- The time of work at a cost on Spire `i`, in ns rounded up. -/
def spireNs (s : State) (i work cost : Nat) : Nat := ceilDiv (work * cost * 16000) (64 * max 1 (spireMhz16 s i))

/-- The work of segment `j` of row `r` in 64ths of a CTU. -/
def segWork (g : Geo) (row seg : Nat) : Nat := g.segCtus seg * g.rowHeight row

/-- The segments of member `m` of a gang of `k`, in row and then segment order (R172). -/
def memberSegs (g : Geo) (k m : Nat) : List (Nat × Nat) := (allSegs g).filter fun (r, _) => r % k = m

/-- A row is in floor mode. -/
def floorRowOf (r : FrameRec) (row : Nat) : Bool :=
  match budgetOf r row with
  | some b => b.floor
  | none => r.floorRow.isSome

/-- The Spire that is member `m` of a frame's gang. -/
def memberSpire (s : State) (r : FrameRec) (m : Nat) : Option Nat :=
  (List.range 16).find? fun i =>
    let p := tget {} s.camp.spires i
    p.bound = some (r.ctx, r.frame, r.bottom) && p.member = m

/-- The segment in a Spire now, when it belongs to this frame. -/
def inFlight (s : State) (r : FrameRec) (i : Nat) : Option Run :=
  match (tget {} s.camp.spires i).run with
  | some u => if isFrame u.ctx u.frame u.bottom r then some u else none
  | none => none

/-- The segments of a member not yet started. -/
def unstarted (s : State) (r : FrameRec) (g : Geo) (m : Nat) : List (Nat × Nat) :=
  let going := match memberSpire s r m with
    | some i => inFlight s r i
    | none => none
  (memberSegs g r.k m).filter fun p =>
    decide (p ∉ r.done) && (match going with
      | some u => decide ((u.row, u.seg) ≠ p)
      | none => true)

/-- The cycles of segments at a level, in 64ths: floor rows at the E5 figure. -/
def segsCost (s : State) (r : FrameRec) (g : Geo) (level : Nat) (l : List (Nat × Nat)) : Nat :=
  (l.map fun (row, seg) =>
    segWork g row seg * (if floorRowOf r row then 410 else frameCost s r level)).sum

/-- Sigma of R179 as actual and projected ns: never below 1. -/
def sigma (r : FrameRec) : Nat × Nat :=
  let a := (r.ratios.map (·.1)).sum
  let p := (r.ratios.map (·.2)).sum
  if a ≤ p then (1, 1) else (a, p)

/-- t_proj(e) of R179. -/
def projected (s : State) (r : FrameRec) (level : Nat) : Int :=
  let g := frameGeo s r
  let (a, p) := sigma r
  let longest := (List.range r.k).foldl (fun best m =>
    match memberSpire s r m with
    | none => best
    | some i =>
      let own := match inFlight s r i with
        | some u => segWork g u.row u.seg * (if u.floor then 410 else frameCost s r u.level)
        | none => 0
      max best (ceilDiv ((own + segsCost s r g level (unstarted s r g m)) * 16000) (64 * max 1 (spireMhz16 s i)))) 0
  frameNow s r + ceilDiv (longest * a) p

/-- The level raised one at a time while its projection is late, up to E5. -/
def climb (s : State) (r : FrameRec) : Nat → FrameRec
  | 0 => r
  | k + 1 =>
    if r.level < 5 ∧ r.tS < projected s r r.level then
      climb s { r with level := r.level + 1, causes := r.causes ||| 1 } k
    else r

/-- The Spire ports of a frame at E5 forced to the highest urgency (R178). -/
def forcePorts (c n : Nat) (b : Bool) (s : State) : State :=
  let f (p : Spire) : Spire := if p.bound = some (c, n, b) then { p with forced := true } else p
  modCamp (fun k => { k with spires := tmap {} k.spires fun _ p => f p }) s

/-- The ladder checked for a frame (R179): encode frames only. -/
def checkLadder (c n : Nat) (b : Bool) (s : State) : State :=
  match frameOf s c n b with
  | none => s
  | some r =>
    if r.decode || !r.bound then s
    else
      let (a, p) := sigma r
      let r := { r with sigmaMax := max r.sigmaMax (a * 256 / p) }
      let r := climb s r 5
      let s := modFrame c n b (fun _ => r) s
      if r.level = 5 then forcePorts c n b s else s

/-- The reserve of R180 for a segment that would be dispatched now at a level. -/
def reserveHolds (s : State) (r : FrameRec) (m row seg level : Nat) : Bool :=
  let g := frameGeo s r
  let own := segWork g row seg * (if floorRowOf r row then 410 else frameCost s r level)
  let others := segsCost s r g 5 ((unstarted s r g m).filter (· ≠ (row, seg)))
  decide (frameNow s r + (ceilDiv ((own + others) * 4000) (64 * spireClock s) : Nat) ≤ r.tS)

/-! ## Binding (R167, R171 to R175) -/

/-- The Spires that a frame may take: powered in the profile in effect, not leaving, and free. -/
def freeSpires (s : State) : List Nat :=
  (List.range (profileSpires s s.watch.profile)).filter fun i =>
    let p := tget {} s.camp.spires i
    p.powered && !p.leaving && p.bound.isNone

/-- The Spires chosen for a gang of `k` (R172): those whose last frame was of the context first. -/
def chooseSpires (s : State) (c k : Nat) : List Nat :=
  let free := freeSpires s
  let own := free.filter fun i => (tget {} s.camp.spires i).lastCtx = some c
  let pick := (own ++ free.filter (· ∉ own)).take k
  (List.range 16).filter (· ∈ pick)

/-- Gang size and starting level of a frame that binds now. -/
def frameGang (s : State) (r : FrameRec) : Nat × Nat :=
  gangOf s { ctxOf s r.ctx with f := frameFields s r, decode := r.decode }

/-- The tasks of a frame that binds (R161). -/
def frameTasks (g : Geo) (r : FrameRec) : List Task :=
  let mk (k : TaskKind) (p : Nat × Nat) : Task :=
    { kind := k, ctx := r.ctx, frame := r.frame, bottom := r.bottom, row := p.1, seg := p.2 }
  let l := allSegs g
  (if r.decode then l.map (mk .dparse) ++ l.map (mk .dseg) else l.map (mk .seg) ++ l.map (mk .dome)) ++
    [mk .close (g.rows, 0)]

/-- A frame's tasks have room (R167), and an encode frame its staging reserve (R266). -/
def hasRoom (s : State) (r : FrameRec) (g : Geo) : Bool :=
  decide (2 * (g.rows * g.segs) ≤ freeMatching s + freeSpill s) &&
    (r.decode || decide (pages (80 * (g.ctus * g.rows)) ≤ freePages s))

/-- Any encode BIND task is urgent (R183). -/
def anyUrgent (s : State) : Bool := s.camp.frames.any fun r => r.urgent && !r.bound

/-- When `k` Spires are projected to be free: the k-th earliest of the bound frames' Spire deadlines and
projections, on the local clock's raster (R174). -/
def freeTime (s : State) (k : Nat) : Int :=
  let times := (List.range (profileSpires s s.watch.profile)).map fun i =>
    match (tget {} s.camp.spires i).bound with
    | none => (clockNs s : Int)
    | some (c, n, b) =>
      match frameOf s c n b with
      | none => (clockNs s : Int)
      | some r => (clockNs s : Int) + ((if r.decode then r.tS else min r.tS (projected s r r.level)) - frameNow s r)
  let rec ins (t : Int) : List Int → List Int
    | [] => [t]
    | u :: l => if u ≤ t then u :: ins t l else t :: u :: l
  (times.foldl (fun l t => ins t l) []).getD (k - 1) (clockNs s)

/-- A frame fits by `t` on the local clock: its gang time now and its E5 time on the floor clock (R174). -/
def fitsBy (s : State) (r : FrameRec) (k level : Nat) (t : Int) : Bool :=
  let w := gangWork (frameGeo s r) k
  let slow := (freeSpires s).foldl (fun m i => max m (spireNs s i w (frameCost s r level))) 0
  decide ((clockNs s : Int) + slow ≤ t) && decide ((clockNs s : Int) + floorNs s w (frameCost s r 5) ≤ t)

/-- The ready BIND tasks in the order of R174 and R165: urgent first, then by level, oldest first. -/
def bindOrder (s : State) : List FrameRec :=
  let l := (s.camp.ready.filter (·.kind = .bind)).filterMap (taskFrame s)
  l.filter (·.urgent) ++
    ((List.range 16).reverse).flatMap fun p => l.filter fun r => !r.urgent && fnat r.sched 1 = p

/-- The frame that binds next, with its gang, level and the instant on the local clock that bounds a
backfilled one (R174). -/
def nextBind (s : State) : List FrameRec → Option Int → Option (FrameRec × Nat × Nat × Option Int)
  | [], _ => none
  | r :: l, head =>
    let (k, e) := frameGang s r
    let free := (freeSpires s).length
    if r.decode && anyUrgent s then nextBind s l head
    else if !hasRoom s r (frameGeo s r) then nextBind s l head
    else match head with
      | none => if k ≤ free then some (r, k, e, none) else nextBind s l (some (freeTime s k))
      | some t =>
        if !anyUrgent s && decide (k ≤ free) && fitsBy s r k e t then some (r, k, e, some t)
        else nextBind s l head

/-- The rows of a frame's first budgets issued (R254). -/
def issueFirst (s : State) (r : FrameRec) : FrameRec :=
  (List.range (min r.k (frameGeo s r).rows)).foldl (fun r row => issueRow s (ctxOf s r.ctx) row r) r

/-- The lost references counted and reported in their context (R223). -/
def countLost (l : List RefName) (x : Ctx) : Ctx :=
  let n (k : Nat) : Nat := (l.filter (·.found = k)).length
  { x with corrupt := min 0xFFFFFFFF (x.corrupt + n 1), stale := min 0xFFFFFFFF (x.stale + n 2)
           missing := min 0xFFFFFFFF (x.missing + n 3) }

/-- A picture of a frame that binds (R163, R214, R237 to R241): its references looked up, its bands, allowance and
fetch cap, and in VVC the ALF sets that it uses. `sent` says whether the sets that are ready have been sent since the
last IRAP, before the picture and after it. -/
def bindPic (x : Ctx) (g : Geo) (f : Fields) (k : Nat) (decode : Bool) (sent : Bool) (p : Pic) : Pic × Bool :=
  let refs := if decode then p.refs.map fun n => if n.found = 3 then n else lookRef x n else p.refs.map (lookRef x)
  if decode then ({ p with refs := refs }, sent)
  else
    let (bands, allow) := cachePlan g (fnat f 4) k (validRefs refs).length
    let sets := if p.irap ∨ fnat f 2 ≠ 1 then none else x.alf
    let sent := sent && !p.irap
    ({ p with refs := refs, bands := bands, allow := allow, fetchLeft := fetchCap g, alf := sets
              aps := sets.isSome && !sent }, sent || sets.isSome)

/-- The pictures of a frame that binds, in order. -/
def bindPics (x : Ctx) (g : Geo) (f : Fields) (k : Nat) (decode : Bool) : Bool → List Pic → List Pic × Bool
  | sent, [] => ([], sent)
  | sent, p :: l =>
    let (q, sent) := bindPic x g f k decode sent p
    let (m, sent) := bindPics x g f k decode sent l
    (q :: m, sent)

/-- A frame bound to its gang (R163, R171 to R177, R239, R254, R266): its references looked up and held, its
deadline, budgets and staging reserve set, its tasks created. -/
def bindFrame (r : FrameRec) (k level : Nat) (till : Option Int) (s : State) : State :=
  let x := ctxOf s r.ctx
  let g := frameGeo s r
  let now := frameNow s r
  let tS := min (now + budgetNs s) (frameEnd s r)
  let tS := match till with
    | some t => min tS (now + (t - clockNs s))
    | none => tS
  let (pics, sent) := bindPics x g (frameFields s r) k r.decode x.alfSent r.pics
  let refs := pics.flatMap (·.refs)
  let sp := chooseSpires s r.ctx k
  let r' := { r with
    bound := true, k := k, level := level, causes := r.causes ||| (if level = 0 then 0 else 4)
    members := sp, pics := pics, subBuf := if r.decode then substituteOf x else none
    tS := tS
    launch := if r.decode then none else some (launchOf s r)
    reserve := if r.decode then 0 else 80 * (g.ctus * g.rows) }
  let r' := { r' with hdr := if r.decode then 0 else headerBits s x g r' }
  let s := modCtx r.ctx (fun x =>
    let x := (validRefs refs).foldl (fun x n => modBuf n.buf held x) x
    let x := match r'.subBuf with
      | some b => modBuf b held x
      | none => x
    let x := if r.decode then x else countLost refs x
    { x with lastGang := k, lastBind := mediaClass (clockNs s), alfSent := sent }) s
  let bindTask (t : Task) : Bool := t.kind = .bind && isFrame t.ctx t.frame t.bottom r
  let join (m : Nat) (p : Spire) : Spire := { p with bound := some (r.ctx, r.frame, r.bottom), member := m }
  let s := modCamp (fun c => { c with
    ready := c.ready.filter fun t => !bindTask t
    spires := sp.zipIdx.foldl (fun t (i, m) => tmod {} t i (join m)) c.spires }) s
  let s := modFrame r.ctx r.frame r.bottom (fun _ => r') s
  let s := if r.decode then s
    else modFrame r.ctx r.frame r.bottom (issueFirst s) s
  promote ((frameTasks g r').foldl addTask (checkLadder r.ctx r.frame r.bottom s))

/-! ## Dispatch (R168, R172, R173, R180) -/

/-- The ready task of a frame for a segment, on chip. -/
def readySeg (s : State) (r : FrameRec) (kinds : List TaskKind) (p : Nat × Nat) : Option Task :=
  s.camp.ready.find? fun t => isFrame t.ctx t.frame t.bottom r && decide (t.kind ∈ kinds) &&
    decide ((t.row, t.seg) = p)

/-- That task waits in its spill queue, while its level's on-chip list is empty (R166). -/
def waitsRefill (s : State) (r : FrameRec) (kinds : List TaskKind) (p : Nat × Nat) : Bool :=
  s.camp.readySpill.any (fun t => isFrame t.ctx t.frame t.bottom r && decide (t.kind ∈ kinds) &&
    decide ((t.row, t.seg) = p)) &&
  !s.camp.ready.any fun t => taskPriority s t = fnat r.sched 1 && !reservedTask t

/-- A task taken from the ready list. -/
def takeTask (t : Task) (s : State) : State :=
  modCamp (fun c => { c with ready := c.ready.filter (· ≠ t) }) s

/-- The state with Spire `i` changed. -/
def modSpire (i : Nat) (f : Spire → Spire) (s : State) : State :=
  modCamp (fun c => { c with spires := tmod {} c.spires i f }) s

/-- A Spire released from its gang (R172): a removed one powers down (R20). -/
def freeSpire (c : Nat) (p : Spire) : Spire :=
  { p with bound := none, member := 0, lastCtx := some c, run := none, waiting := none, forced := false
           powered := p.powered && !p.leaving, leaving := false, allow := 0 }

/-- The thermal requests of Spires that are not powered discarded (R474). -/
def dropCold (s : State) : State :=
  { s with watch := { s.watch with
    therm := s.watch.therm.filter fun x => spirePowered s x.1
    lowered := s.watch.lowered.filter fun x => spirePowered s x.1 } }

/-- Spire `i` released from its gang, its request going with it when it powers down. -/
def releaseSpire (c i : Nat) (s : State) : State :=
  dropCold (modSpire i (freeSpire c) s)

/-- The share of a picture's on-demand allowance that goes to a segment: in proportion to its CTUs times the
height fraction of its row (R240), rounded down. -/
def allowShare (g : Geo) (r : FrameRec) (row seg : Nat) : Nat :=
  (picAt r (g.picOf row)).allow * segWork g row seg / max 1 (g.ctus * g.ph)

/-- Spire `i` starts its member's next segment when it is ready (R172), at E5 when the reserve fails (R180);
a member with nothing left is released. -/
def dispatchSpire (i : Nat) (s : State) : State :=
  let p := tget {} s.camp.spires i
  match p.bound, p.run, p.waiting with
  | some (c, n, b), none, none =>
    (match frameOf s c n b with
      | none => releaseSpire c i s
      | some r =>
        let g := frameGeo s r
        match unstarted s r g p.member with
        | [] => releaseSpire c i s
        | (row, seg) :: _ =>
          match readySeg s r [.seg, .dseg] (row, seg) with
          | none => if waitsRefill s r [.seg, .dseg] (row, seg) then bump 0x3000C 1 s else s
          | some t =>
            let low := !r.decode && decide (r.level < 5) && !reserveHolds s r p.member row seg r.level
            let s := if low then
                forcePorts c n b (modFrame c n b (fun r => { r with level := 5, causes := r.causes ||| 2 }) s)
              else s
            let level := if low then 5 else r.level
            let fl := floorRowOf r row && !r.decode
            let s := modFrame c n b (fun r =>
              { r with shed := if 0 < level && !fl && !r.decode then min 0xFFFF (r.shed + 1) else r.shed }) s
            let cost := if fl then 410 else frameCost s r level
            let u : Run :=
              { ctx := c, frame := n, bottom := b, row := row, seg := seg, level := level
                ns := spireNs s i (segWork g row seg) cost, ctus := g.segCtus seg, decode := r.decode, floor := fl
                start := s.tick, mark := s.tick }
            modSpire i (fun p => { p with run := some u, allow := p.allow + allowShare g r row seg }) (takeTask t s))
  | _, _, _ => s

/-- The state with Dome `d` changed. -/
def modDome (d : Nat) (f : Dome → Dome) (s : State) : State :=
  modCamp (fun c => { c with domes := tmod {} c.domes d f }) s

/-- Dome `d` starts a task: the next segment of the row it codes, else the lowest row whose first segment is
ready (R267). -/
def dispatchDome (d : Nat) (s : State) : State :=
  let p := tget {} s.camp.domes d
  match p.bound, p.run with
  | some (c, n, b), none =>
    (match frameOf s c n b with
      | none => s
      | some r =>
        let kinds : List TaskKind := [.dome, .dparse]
        let g := frameGeo s r
        let next : Option (Nat × Nat) := match p.row with
          | some row => some (row, (r.coded.filter (·.1 = row)).length)
          | none => (List.range g.rows).foldl (fun best row =>
              if best.isSome then best
              else if (readySeg s r kinds (row, 0)).isSome then some (row, 0) else none) none
        match next with
        | none => s
        | some q =>
          match readySeg s r kinds q with
          | none => if waitsRefill s r kinds q then bump 0x3000C 1 s else s
          | some t => modDome d (fun p => { p with row := some q.1, run := some q }) (takeTask t s))
  | _, _ => s

end Sys2Proof.Machine
end

