-- ==== Sys2Proof/Machine/DecodeCtx.lean ====
section
/-! DEFINITION. Decode contexts (R282 to R303): opening and flushing, access units, show slots, the decode
pool, concealment, and what each slot shows. -/

namespace Sys2Proof.Machine

/-! ## Commands -/

/-- An ingress flow of compressed video that feeds no other context (R283 field 7). -/
def feedsNone (s : State) (c flow : Nat) : Bool :=
  (match iflowOf s flow with
    | some x => fnat x.f 2 = 1 || fnat x.f 2 = 2
    | none => false) &&
  (openCtxs s).all fun (i, x) => i = c || !x.decode || decide (fnat x.f 7 ≠ flow)

/-- The fields of 0x0540 (R283). -/
def decodeSpecs (s : State) : List (Fields → Spec) :=
  let geo (f : Fields) : Geo := geoTb s (fnat f 1)
  [pFix 0 15, pSel [0, 1], fun f => { kind := .sel (profilesOf (fld f 2)) },
   fun f => { kind := .sel (chromasOf (fld f 2) (fld f 3)) }, pSel [0, 1], levelSpec s, pFix 0 4095,
   pSel [0, 1], pNum 0 65535, pSel [0, 1],
   fun f => { kind := .num 1 8, cross := fun v => if (geo f).fields then min v 6 else v },
   fun f => { kind := .num 1 6, cross := fun v => if (geo f).fields then min v (14 - 2 * fld f 11) else v },
   fun f => { kind := .num 1000 800000
              cross := fun v =>
                let m := (levelMax f).1
                min v (if fld f 8 = 1 then m + m / 10 else m : Nat) },
   pSel [0, 1]]

/-- 0x0540: open a decode context. -/
def opOpenDecodeContext : Op where
  opcode := 0x0540
  framed := true
  ctxOk := fun c s => ctxId c && closedFor c s
  now := fun c s => decide ((ctxOf s c.ctx).st = .closed)
  target := fun c _ => some (c.params.getD 0 0).toNat
  needsTime := fun _ _ => true
  specs := fun _ s => decodeSpecs s
  post := fun c f s => if feedsNone s c.ctx (fnat f 7) then openPost true c f s else some .badState
  accept := acceptOpen true
  apply := fun c _ s => { s := openEffect c s }

/-- The header's context is a decode context that is OPENING or ACTIVE. -/
def decodeOpen (c : Cmd) (s : State) : Bool :=
  let x := ctxOf s c.ctx
  ctxId c && x.decode && decide (x.st = .opening ∨ x.st = .active)

/-- A decode context flushed (R301): unbound frames and units go, buffers are rebuilt, bound frames are
neither shown nor kept, and sync is awaited. -/
def flush (c : Nat) (s : State) : State :=
  let gone := s.camp.frames.filter fun r => r.ctx = c && !r.bound
  let s := gone.foldl (fun s r => dropFrame r (releaseFrame r s)) s
  let mark (r : FrameRec) : FrameRec := if r.ctx = c then { r with unshown := true } else r
  let s := modCamp (fun k => { k with frames := k.frames.map mark }) s
  modCtx c (fun x => { x with
    units := [], slots := [], synced := false, kept := [], recovery := none, whole := []
    pool := x.pool.map fun b => if b.mark = .unused then b else rebuilt s.tick b }) s

/-- 0x0541: flush and resynchronise. -/
def opFlushAndResynchronise : Op where
  opcode := 0x0541
  framed := true
  ctxOk := decodeOpen
  target := ctxTarget
  needsTime := fun _ _ => true
  post := fun c _ s => encodeActive c s
  apply := fun c _ s => { s := flush c.ctx s }

/-- 0x0542: decode status (R303); a CLOSED context gives word 0 alone. -/
def opReadDecodeStatus : Op where
  opcode := 0x0542
  reads := true
  ctxOk := fun c s => ctxId c && ((ctxOf s c.ctx).decode || decide ((ctxOf s c.ctx).st = .closed))
  apply := fun c _ s =>
    let x := ctxOf s c.ctx
    if x.st = .closed then { s := s, words := [0] }
    else
      let p := poolSize s x
      let entry (i : Nat) : List Word :=
        let b := bufOf x i
        let slot := if b.mark = .unused then 0 else b.frame
        [natWord (markCode b.mark + b.gen * 2 ^ 8 + b.holders * 2 ^ 16),
          natWord (b2n (b.holes ≠ []) + 2 * b2n b.await + 4 * b2n b.shown), intWord b.poc, natWord slot]
      { s := s
        words := [natWord (ctxCode x.st * 2 ^ 24 + p * 2 ^ 16 + fnat x.f 11 * 2 ^ 8 + x.tb),
          natWord (b2n x.concealing + 2 * b2n x.synced), natWord x.concealSlot,
          natWord (x.concealSlot / 2 ^ 32)] ++ x.counts.map natWord ++ (List.range p).flatMap entry }

/-! ## Counts and concealment (R298) -/

/-- One of the counts of R303, by its word, advanced. -/
def tally (word n : Nat) (x : Ctx) : Ctx :=
  { x with counts := x.counts.modify (word - 4) fun v => min 0xFFFFFFFF (v + n) }

/-- CONCEALING begins, or goes on, with a defect at a slot. -/
def defect (slot : Nat) (x : Ctx) : Ctx :=
  if x.concealing then { x with recovery := none }
  else { x with concealing := true, concealSlot := slot, recovery := none }

/-- A picture without any defect (R298): an IRAP ends CONCEALING, and so does the last picture of a span that
began after it. -/
def cleanPicture (irap start : Bool) (span : Nat) (x : Ctx) : Ctx :=
  if !x.concealing then x
  else if irap then { x with concealing := false, recovery := none }
  else
    let left := if start then some span else x.recovery
    match left with
    | none => x
    | some 0 => { x with concealing := false, recovery := none }
    | some (k + 1) => { x with recovery := some k }

/-! ## Mapping (R287) -/

/-- The PTP time in ns nearest to now whose 90 kHz count modulo 2^bits is `stamp`. -/
def stampTime (s : State) (stamp bits : Nat) : Int :=
  let now := count90 (clockNs s)
  let m : Int := 2 ^ bits
  let d := (stamp - now) % m
  let d := if 2 * d < m then d else d - m
  iceil ((now + d) * 100000) 9

/-- The raster frame count of a timebase at a local instant in ns. -/
def countAt (s : State) (tb : Nat) (ns : Int) : Int :=
  let t := rephased (tbD s tb)
  idealCount t.rate ((ns * nsUnits - t.corr) / nsUnits) + t.offset

/-- The show slot of a unit. A bottom field's time stamp lies half a period later (R277). -/
def showSlot (s : State) (x : Ctx) (u : UnitHead) : Int :=
  let g := ctxGeo s x
  let half : Int := g.den * 1000000000 / (2 * g.num)
  let y := fld x.f 11
  if fld x.f 10 = 1 then countAt s x.tb (clockNs s) + y
  else
    let ts := decide (fld x.f 8 = 1)
    let t := stampTime s u.stamp (if ts then 33 else 32)
    countAt s x.tb (if u.bottom then t else t + half) + y - (if ts then 1 else 0)

/-- The record a decode frame has while its BIND task is open (R161). -/
def decodeRec (x : Ctx) (c slot : Nat) (u : UnitHead) : FrameRec :=
  { ctx := c, frame := slot, bottom := u.bottom, decode := true, irap := u.irap, gdrStart := u.gdrStart
    cf := x.f, sched := x.sched }

/-- The BIND task created of the first unit, in slot order, that waits, while the context holds fewer than 8 BIND or
CLOSE tasks (R164, R287), with that unit. -/
def startUnit (c : Nat) (s : State) : Option (AccUnit × State) :=
  let x := ctxOf s c
  let waiting := x.units.filter fun u => !u.task && u.fin.isNone
  let next := waiting.foldl (fun best u => match best with
    | none => some u
    | some (b : AccUnit) =>
      if u.slot < b.slot ∨ (u.slot = b.slot ∧ !u.head.bottom ∧ b.head.bottom) then some u else best) none
  match next with
  | none => none
  | some u =>
    if 8 ≤ (s.camp.frames.filter fun r => r.ctx = c).length then none
    else
      let on (v : AccUnit) : AccUnit := if v = u then { v with task := true } else v
      let r := decodeRec x c u.slot u.head
      let s := modCtx c (fun x => { x with units := x.units.map on }) s
      let s := modCamp (fun k => { k with frames := k.frames ++ [r] }) s
      some (u, addTask s { kind := .bind, ctx := c, frame := u.slot, bottom := u.head.bottom, row := 0, seg := 0 })

/-! ## Release (R288, R290, R293) -/

/-- The unit of a slot. -/
def unitIn (x : Ctx) (slot : Nat) (bottom : Bool) : Option AccUnit :=
  x.units.find? fun u => u.slot = slot && u.head.bottom == bottom

/-- A unit removed from the input buffer. -/
def dropUnit (slot : Nat) (bottom : Bool) (x : Ctx) : Ctx :=
  { x with units := x.units.filter fun u => !(u.slot = slot && u.head.bottom == bottom) }

/-- The marks of the pool as the stream's reference picture set or lists give them (R290). -/
def streamMarks (tick : Nat) (u : UnitHead) (x : Ctx) : Ctx :=
  let mark (b : Buf) : Buf :=
    if b.mark ≠ .short ∧ b.mark ≠ .long then b
    else if u.irap then dropped tick b
    else if b.poc ∈ u.keepShort then { b with mark := .short }
    else if b.poc ∈ u.keepLong then { b with mark := .long }
    else dropped tick b
  { x with pool := x.pool.map mark }

/-- A named POC looked up among the buffers marked SHORT or LONG. -/
def findPoc (x : Ctx) (poc : Int) : RefName :=
  match (List.range x.pool.length).find? fun i =>
      ((bufOf x i).mark = .short || (bufOf x i).mark = .long) && decide ((bufOf x i).poc = poc) with
  | some i => { buf := i, gen := (bufOf x i).gen, frame := (bufOf x i).frame, poc := poc }
  | none => { buf := 0xFFFF, gen := 0, frame := 0, poc := poc, found := 3, cause := 4 }

/-- A skipped decode frame (R183, R290): its record and unit go, and CONCEALING begins. -/
def skipFrame (r : FrameRec) (s : State) : State :=
  let s := dropFrame r (releaseFrame r s)
  let s := modCtx r.ctx (fun x =>
    let x := defect r.frame (tally 13 1 (dropUnit r.frame r.bottom x))
    { x with skips := min 0xFFFFFFFF (x.skips + 1) }) s
  promote (settleClosing r.ctx (raise 3 2 (bump 0x30018 1 s)))

/-- A stream lies within every limit of R285. -/
def accepted (g : Geo) (f : Fields) (irap : Bool) (i : StreamInfo) : Bool :=
  let depth := if fnat f 2 = 0 ∧ i.profile = 0 then 8 else 10
  decide (i.profile ≤ fnat f 3 ∧ i.profile ∈ profilesOf (fld f 2) ∧ i.tier ≤ fnat f 5 ∧ i.level ≤ fnat f 6 ∧
    i.chroma ∈ chromasOf (fld f 2) i.profile ∧ i.chroma ≤ fnat f 4 ∧ i.depth = depth ∧ i.ctu = 64 ∧
    i.width = g.w ∧ i.height = g.ph ∧ i.reorder = 0 ∧ i.dpb ≤ fnat f 12) &&
  !i.tools && i.sync && i.slices && (!i.changed || irap)

/-- A decode frame released with what is present (R288, R290, R293): marks follow the stream, its references
are looked up, its own buffer is allocated; a unit that breaks R285 or cannot be parsed is discarded. -/
def releaseUnit (c slot : Nat) (bottom : Bool) (e : UnitEnd) (s : State) : State :=
  let x := ctxOf s c
  match unitIn x slot bottom, frameOf s c slot bottom with
  | some u, some r =>
    if r.released then s
    else
      let s := if e.truncated then modCtx c (tally 9 1) s else s
      if !e.headers || !e.sets || !accepted (ctxGeo s x) x.f u.head.irap e.info then
        promote (settleClosing c (modCtx c (fun x => defect slot (tally 5 1 (dropUnit slot bottom x))) (dropFrame r s)))
      else
        let s := modCtx c (streamMarks s.tick u.head) s
        let x := ctxOf s c
        let refs := if u.head.irap then [] else u.head.refs.map (findPoc x)
        match allocBuf x (poolSize s x) with
        | none => skipFrame r s
        | some b =>
          let fin (v : AccUnit) : AccUnit := if v = u then { v with fin := some e } else v
          let s := modCtx c (fun x =>
            let x := modBuf b (taken (if u.head.kept then .short else .held) slot u.head.poc) x
            { x with units := x.units.map fin }) s
          promote (modFrame c slot bottom (fun r => { r with
            released := true, cf := x.f, sched := x.sched, unitEnd := some e
            pics := [{ refs := refs, buf := b, poc := u.head.poc.toNat, irap := u.head.irap, notKept := !u.head.kept }] }) s)
  | _, _ => s

/-- Up to `n` units that wait get their BIND tasks; one that has already ended is released at once. -/
def pumpUnits (c : Nat) : Nat → State → State
  | 0, s => s
  | n + 1, s =>
    match startUnit c s with
    | none => s
    | some (u, s) =>
      pumpUnits c n (match u.ended with
        | some e => releaseUnit c u.slot u.head.bottom e s
        | none => s)

/-- A unit has ended: its frame is released with it, now or once its task is created. -/
def endUnit (c slot : Nat) (bottom : Bool) (e : UnitEnd) (s : State) : State :=
  let on (u : AccUnit) : AccUnit :=
    if u.slot = slot ∧ u.head.bottom = bottom ∧ !u.task ∧ u.ended = none then { u with ended := some e } else u
  pumpUnits c 8 (releaseUnit c slot bottom e (modCtx c (fun x => { x with units := x.units.map on }) s))

/-- ACCESS_UNIT_MAPPED (R287, R300): the unit is mapped to its slot, or discarded and counted. -/
def execAccessUnitMapped (ctx : Nat) (u : UnitHead) (s : State) : Ran :=
  ran s (
    let x := ctxOf s ctx
    if !x.decode ∨ x.st ≠ .active then s
    else
      let slot := showSlot s x u
      let now := countNow s (tbD s x.tb)
      let n := slot.toNat
      let r := decodeRec x ctx n u
      if !x.synced ∧ !u.irap ∧ !u.gdrStart then modCtx ctx (fun x => defect n (tally 8 1 x)) s
      else if latestBind s r < frameNow s r ∨ now + fld x.f 11 + 8 < slot then
        modCtx ctx (fun x => defect n (tally 6 1 x)) s
      else if (n, u.bottom) ∈ x.slots then modCtx ctx (tally 7 1) s
      else
        let start := !x.synced && !u.irap
        let live (q : Nat × Bool) : Bool := decide (now ≤ q.1)
        pumpUnits ctx 8 (modCtx ctx (fun x =>
          let x := if start then { defect n x with recovery := none } else x
          { x with synced := true, slots := x.slots.filter live ++ [(n, u.bottom)]
                   units := x.units ++ [{ head := u, slot := n }] }) s))

/-- ACCESS_UNIT_COMPLETE (R286): the unit's frame is released with it. -/
def execAccessUnitComplete (ctx slot : Nat) (bottom : Bool) (e : UnitEnd) (s : State) : Ran :=
  ran s (endUnit ctx slot bottom e s)

/-- DECODE_RELEASE_DEADLINE (R288): its latest bind time has come, or a later unit has arrived. -/
def execDecodeReleaseDeadline (ctx slot : Nat) (bottom : Bool) (e : UnitEnd) (s : State) : Ran :=
  ran s (
    let later := (ctxOf s ctx).units.any fun u => decide (slot < u.slot) || (u.slot = slot && u.head.bottom && !bottom)
    let due := match frameOf s ctx slot bottom with
      | some r => decide (latestBind s r ≤ frameNow s r)
      | none => false
    if due || later then endUnit ctx slot bottom e s else s)

/-- DECODE_FRAME_SKIP (R183): the frames of the slot still unbound past their latest bind time; a unit whose
task was never created goes with them. -/
def execDecodeFrameSkip (ctx frame : Nat) (s : State) : Ran :=
  ran s (
    let x := ctxOf s ctx
    let due (r : FrameRec) : Bool := r.ctx = ctx && r.frame = frame && r.decode && !r.bound &&
      decide (latestBind s r ≤ frameNow s r)
    let late := s.camp.frames.filter due
    let idle := x.units.filter fun u => u.slot = frame && !u.task &&
      due { decodeRec x ctx frame u.head with bound := false }
    let s := idle.foldl (fun s u =>
      raise 3 2 (bump 0x30018 1 (modCtx ctx (fun x =>
        let x := defect frame (tally 13 1 (dropUnit frame u.head.bottom x))
        { x with skips := min 0xFFFFFFFF (x.skips + 1) }) s))) s
    pumpUnits ctx 8 (late.foldl (fun s r => skipFrame r s) s))

/-! ## What is decoded and what is concealed (R294 to R296) -/

/-- The first CTU of a row that is not decoded, from missing bytes, parse errors and broken inheritance. -/
def firstHidden (e : UnitEnd) (vvc : Bool) (ctus row : Nat) (above : Option Nat) : Nat :=
  let hit := (e.firstLost ++ e.parseErr).foldl (fun m (r, i) => if r = row then min m i else m) ctus
  match above with
  | some a => if a ≤ (if vvc then 0 else 1) then 0 else hit
  | none => hit

/-- The first CTU that is not decoded of rows `row` on. -/
def hiddenRows (e : UnitEnd) (vvc : Bool) (ctus : Nat) : Nat → Nat → Option Nat → List Nat
  | 0, _, _ => []
  | k + 1, row, above =>
    let i := firstHidden e vvc ctus row above
    i :: hiddenRows e vvc ctus k (row + 1) (some i)

/-- The first CTU that is not decoded of each row of a decode frame. -/
def hiddenOf (g : Geo) (r : FrameRec) : List Nat :=
  match r.unitEnd with
  | some e => hiddenRows e (fnat r.cf 2 = 1) g.ctus g.rows 0 none
  | none => []

/-- The bytes present of a decode frame's unit. -/
def bytesOf (r : FrameRec) : List (Option Byte) :=
  match r.unitEnd with
  | some e => e.bytes
  | none => []

/-- The CTUs concealed in a picture. -/
def hiddenCtus (g : Geo) (r : FrameRec) : Nat := ((hiddenOf g r).map fun i => g.ctus - i).sum

/-- The rows that a parse error hit, each once. -/
def errorRows (r : FrameRec) : Nat :=
  match r.unitEnd with
  | some e => (e.parseErr.map (·.1)).eraseDups.length
  | none => 0

/-! ## Show slots (R290, R297) -/

/-- Slot `n` of a decode context: its picture is shown when its frame has closed whole; otherwise the layer
keeps what it shows and the slot is counted. -/
def showSlotNow (c n : Nat) (s : State) : State :=
  let x := ctxOf s c
  let ok (i : Nat) : Bool := (bufOf x i).await && decide ((bufOf x i).frame = n)
  let slotBufs := (List.range x.pool.length).filter ok
  let whole := slotBufs.filter fun i => (bufOf x i).holes.isEmpty && decide ((bufOf x i).mark ≠ .corrupt)
  let fields := (ctxGeo s x).pics
  let past := (List.range x.pool.length).filter fun i => (bufOf x i).await && decide ((bufOf x i).frame ≤ n)
  if whole.length = fields then
    modCtx c (fun x =>
      let x := x.showing.foldl (fun x i => modBuf i (unheld s.tick) x) x
      let x := whole.foldl (fun x i => modBuf i (fun b => { b with await := false, shown := true }) x) x
      { x with showing := whole }) s
  else
    modCtx c (fun x =>
      let x := past.foldl (fun x i => modBuf i (fun b => unheld s.tick { b with await := false }) x) x
      if x.showing = [] then x else tally 15 1 x) s

end Sys2Proof.Machine
end

