-- ==== Sys2Proof/Machine/Frames.lean ====
section
/-! DEFINITION. The life of a frame: opening, release, binding, segments, Domes, closing, substitutes, and
the rows of the table that run them (R161 to R186, R212 to R219, R229, R249 to R281). -/

namespace Sys2Proof.Machine

/-! ## Opening and release (R161, R170, R190, R212) -/

/-- Frame `n` of an ACTIVE encode context opened, with its BIND task. It keeps the output space and the metadata of
its composition: a space that waits for an IRAP comes with this frame's (R272, R309, R326). -/
def openCtxFrame (c n : Nat) (s : State) : State :=
  let x := ctxOf s c
  if x.decode ∨ x.st ≠ .active then s
  else
    let (r, x') := openFrame s.tick n (ctxGeo s x) x
    let (space, light) := match compOf s c with
      | some y => (if r.irap then fnat y.f 3 else y.space, y.mastering)
      | none => (0, [])
    let s := modCtx c (fun _ => x') s
    let s := modCamp (fun k => { k with frames := k.frames ++ [{ r with ctx := c, space := space, light := light }] }) s
    addTask s { kind := .bind, ctx := c, frame := n, bottom := false, row := 0, seg := 0 }

/-- The release event of a frame (R170): the values its context holds now govern it (R190). -/
def releaseEncode (c n : Nat) (s : State) : State :=
  let x := ctxOf s c
  modFrame c n false (fun r =>
    if r.released then r
    else { r with released := true, cf := x.f, ch := x.rate.h, rk := some (rateNow s x), sched := x.sched }) s

/-- The launch written by a launch-time set event (R155): A(n + D) + T_off on the raster. -/
def setLaunch (c n : Nat) (s : State) : State :=
  let x := ctxOf s c
  let l := boundaryNs s x.tb (n + fnat x.f 8) + fld x.f 9
  let put (r : FrameRec) : FrameRec := if r.ctx = c ∧ r.frame = n ∧ !r.decode then { r with launch := some l } else r
  modCamp (fun k => { k with frames := k.frames.map put }) s

/-- The stored launches and deadlines of a timebase's frames and access units moved by `d` ns of raster time: a
re-phase moves them with the boundaries they were set to (R159, R177). -/
def shiftLaunches (tb : Nat) (d : Int) (s : State) : State :=
  let put (r : FrameRec) : FrameRec :=
    if frameTb s r = tb then { r with launch := r.launch.map (· + d), tS := r.tS + d } else r
  let unit (u : EgUnit) : EgUnit := { u with launch := u.launch + d, began := u.began + d }
  let flow (x : EFlow) : EFlow :=
    if (ctxOf s (fnat x.f 5)).tb = tb ∧ (fnat x.f 2 = 1 ∨ fnat x.f 2 = 2) then
      { x with units := x.units.map unit, freeAt := x.freeAt + d } else x
  { modCamp (fun k => { k with frames := k.frames.map put }) s with
    flows := { s.flows with
      egress := tmap none s.flows.egress fun _ x => x.map flow
      tails := tmap none s.flows.tails fun _ x => x.map flow } }

/-- Composed rows of picture `i` of a frame that a composition has written, with their lines (R162, R306). -/
def setRows (c n i rows : Nat) (lines : List (List Nat × List Nat × List Nat)) (s : State) : State :=
  promote (modFrame c n false (modPic i fun p => { p with srcRows := max p.srcRows rows, src := p.src ++ lines }) s)

/-- Lines of the two pyramids of picture `i` of a frame written into the buffer that it allocated (R328). -/
def setPyramids (c n i : Nat) (quarter sixteenth : List (List Nat)) (s : State) : State :=
  match frameOf s c n false with
  | none => s
  | some r => modCtx c (modBuf (picAt r i).buf fun b =>
      { b with quarter := b.quarter ++ quarter, sixteenth := b.sixteenth ++ sixteenth }) s

/-! ## Failed reads (R218, R242, R432) -/

/-- The frame that a failed read of Spire `port` concerns: the one it is bound to, else the oldest of the context. -/
def readFrame (s : State) (c port : Nat) : Option FrameRec :=
  match (if port < 16 then (tget {} s.camp.spires port).bound else none) with
  | some (d, n, b) => if d = c then frameOf s d n b else none
  | none => s.camp.frames.find? (·.ctx = c)

/-- The composed source of a CTU failed, or its pyramids alone (R218). -/
def sourceFailed (c addr : Nat) (pyramid : Bool) (port : Nat) (s : State) : State :=
  match readFrame s c port with
  | none => s
  | some r => modFrame r.ctx r.frame r.bottom (fun r =>
      if pyramid then { r with pyrBad := if addr ∈ r.pyrBad then r.pyrBad else addr :: r.pyrBad }
      else { r with srcBad := if addr ∈ r.srcBad then r.srcBad else addr :: r.srcBad }) s

/-- A read for a band or an on-demand unit failed (R242): the CTU of the reference is invalid for the rest of the
frame, in the pictures that name its buffer, and counted; a decode frame takes its substitute in the reference's
place (R291). -/
def fetchFailed (c buf addr port : Nat) (s : State) : State :=
  match readFrame s c port with
  | none => s
  | some r =>
    if r.decode then modFrame r.ctx r.frame r.bottom (modPic 0 fun p => { p with refs := p.refs.map fun n =>
      if n.buf = buf ∧ n.found = 0 then { n with found := 1, foundMark := .corrupt, cause := 3 } else n }) s
    else
    let hit (p : Pic) : Bool := (validRefs p.refs).any (·.buf = buf) && decide ((buf, addr) ∉ p.inval)
    let mark (p : Pic) : Pic := if hit p then { p with inval := (buf, addr) :: p.inval } else p
    let s := if port < 16 ∧ r.pics.any hit then bump (0x40024 + 0x1000 * port) 1 s else s
    modFrame r.ctx r.frame r.bottom (fun r => { r with pics := r.pics.map mark }) s

/-! ## Binding and dispatch -/

/-- FRAME_BIND (R174): the next BIND task that can bind does. -/
def execFrameBind (s : State) : Ran :=
  ran s (match nextBind s (bindOrder s) none with
    | some (r, k, e, till) => bindFrame r k e till s
    | none => s)

/-- TASK_DISPATCH (R168): engine 0 to 15 is a Spire, 16 to 27 a Dome. -/
def execTaskDispatch (engine : Nat) (s : State) : Ran :=
  ran s (if engine < 16 then dispatchSpire engine s else dispatchDome (engine - 16) s)

/-- Entries moved on chip from a spill queue, oldest first, at most 64 and as many as there is room for. -/
def refill (room : Nat) (l : List Task) : List Task × List Task := (l.take (min 64 room), l.drop (min 64 room))

/-- SPILL_REFILL (R166): a burst of each queue; what was pending is judged again from the records. -/
def execSpillRefill (s : State) : Ran :=
  ran s (
    let (a, b) := refill (freeMatching s) s.camp.pendSpill
    let (c, d) := refill (freeReady s) s.camp.readySpill
    promote (modCamp (fun k => { k with
      matching := k.matching ++ a, pendSpill := b, ready := k.ready ++ c, readySpill := d }) s))

/-! ## Segments (R175, R179, R227, R229, R253 to R257, R265, R266) -/

/-- Rows of picture `i` of a frame that count as reconstructed (R229): a row needs the one below it, but for the
last. -/
def rebuiltRows (g : Geo) (r : FrameRec) (i : Nat) : Nat :=
  let done (k : Nat) : Bool := rowDone g r (i * g.prows + k)
  ((List.range g.prows).takeWhile fun k => done k && (k + 1 = g.prows || done (k + 1))).length

/-- A segment's cycles brought up to now; `wait` is whether it waits for staging. -/
def runTo (s : State) (i : Nat) (wait : Bool) (u : Run) : Run :=
  let d := (s.tick - u.mark) * spireMhz16 s i
  { u with mark := s.tick, cycles := u.cycles + d, stall := if wait then u.stall + d else u.stall }

/-- The cycles of every running segment brought up to now, before a change of a clock. -/
def runAll (s : State) : State :=
  let f (i : Nat) (p : Spire) : Spire := { p with run := p.run.map (runTo s i p.waiting.isSome) }
  modCamp (fun c => { c with spires := tmap {} c.spires f }) s

/-- The most cycles that an E5 segment takes, memory waits among them (R178). -/
def floorCycles (g : Geo) (u : Run) : Nat := 410 * segWork g u.row u.seg / 64

/-- The Spire's counters of a segment that ends (R245): cycles, memory waits among them, staging waits, CTUs. -/
def spireCounters (i : Nat) (g : Geo) (u : Run) (memwait : Nat) (s : State) : State :=
  let at' (o : Nat) : Nat := 0x40000 + 0x1000 * i + o
  let put (s : State) (p : Nat × Nat) : State := if p.2 = 0 then s else bump (at' p.1) p.2 s
  let busy := u.cycles / 10000
  let busy := if (u.level = 5 ∨ u.floor) ∧ !u.decode then min busy (floorCycles g u) else busy
  [(0x08, busy), (0x0C, min memwait busy), (0x10, u.stall / 10000), (0x14, u.ctus)].foldl put s

/-- The actual time of a segment against the projected one (R179), an E5 segment within its bound (R178). -/
def ratioOf (s : State) (i : Nat) (g : Geo) (u : Run) : Nat × Nat :=
  let ns := (s.tick - u.start) * 8 / 5
  let ns := if (u.level = 5 ∨ u.floor) ∧ !u.decode then min ns (spireNs s i (segWork g u.row u.seg) 410) else ns
  (ns, u.ns)

/-- A row that has just completed: the bits of its substream's end, its model update, and the record of the row k
below issued (R253, R254, R256). The end takes a free value of at most 16 bits. -/
def rowComplete (c n : Nat) (b : Bool) (row : Nat) (s : State) : State :=
  match frameOf s c n b with
  | none => s
  | some r =>
    let g := frameGeo s r
    if !rowDone g r row then s
    else
      let (v, s) := draw s
      let tail (q : Budget) : Budget := if q.row = row then { q with actual := q.actual + v % 17 } else q
      let s := modFrame c n b (fun r => { r with budgets := r.budgets.map tail }) s
      let s := match (budgetOf r row).map tail with
        | some q => if q.floor then s else modCtx c (updateModel g r.irap q row) s
        | none => s
      let next := row + r.k
      if g.rows ≤ next then s
      else modFrame c n b (fun r => issueRow s (ctxOf s c) next r) s

/-- The reconstructions of list 0 of a picture, in the order named. -/
def refRecons (x : Ctx) (p : Pic) : List (List (BitVec 40)) := p.refs.map fun n => (bufOf x n.buf).recon

/-- A reconstruction stored in its buffer (R198, R221, R224, R225). -/
def storeRecon (eight : Bool) (compress : Bool) (h chroma : Nat) (planes : List (List (List Nat))) (b : Buf) : Buf :=
  let (w, d, n) := packRecon compress (reconPlanes eight h chroma planes)
  { b with recon := w, desc := d, stored := n }

/-- What a conforming decoder makes of a picture goes into its buffer (R227, R291, R296). A reference of a decode frame
goes with the rows of it that are incomplete. -/
def buildPic (c n : Nat) (b : Bool) (i : Nat) (s : State) : State :=
  match frameOf s c n b with
  | none => s
  | some r =>
    let g := frameGeo s r
    let x := ctxOf s c
    let p := picAt r i
    let f := frameFields s r
    let codec := fnat f 2
    let eight := decide (codec = 0 ∧ fnat f 3 = 0)
    let flat (n : Nat) : List (List Nat) := List.replicate n (List.replicate g.w (if eight then 128 else 512))
    let cw := (flat (if fnat f 4 = 0 then g.ph / 2 else g.ph)).map fun l => l.take (g.w / 2)
    let sub := match r.subBuf with
      | some k => (bufOf x k).recon
      | none => (reconPlanes eight g.ph (fnat f 4) [flat g.ph, cw, cw]).flatten
    let planes := if r.decode then
        Config.decodeUnit codec (bytesOf r) (hiddenOf g r)
          (p.refs.map fun k => if k.found = 0 then ((bufOf x k.buf).recon, (bufOf x k.buf).holes) else (sub, [])) sub
      else
        Config.decode codec (spsInts (spsOf x g r.cf r.ch r.frame r.space (frameRate s x r)))
          (sliceOf g r p i).ctus (refRecons x p)
    modCtx c (modBuf p.buf (storeRecon eight (r.decode || fnat f 16 = 1) g.ph (fnat f 4) planes)) s

/-- The picture of a frame whose last row is final goes into its buffer (R229). -/
def finishPic (c n : Nat) (b : Bool) (i : Nat) (s : State) : State :=
  match frameOf s c n b with
  | none => s
  | some r => if (picAt r i).recRows < (frameGeo s r).prows then s else buildPic c n b i s

/-- DECODE_ABANDON (R289): a bound frame at its Spire deadline with work left; its tasks go, its members and
running segments stop, and its rows are incomplete. -/
def execDecodeAbandon (ctx slot : Nat) (bottom : Bool) (s : State) : Ran :=
  ran s (match frameOf s ctx slot bottom with
    | some r =>
      let g := frameGeo s r
      if !r.decode || !r.bound || r.incomplete || decide (r.done.length = g.rows * g.segs) ||
          decide (frameNow s r < r.tS) then s
      else
        let work (t : Task) : Bool := isFrame t.ctx t.frame t.bottom r && (t.kind = .dparse || t.kind = .dseg)
        let mine := some (ctx, slot, bottom)
        let stop (p : Spire) : Spire := if p.bound = mine then freeSpire ctx p else p
        let idle (p : Dome) : Dome := if p.bound = mine then { p with row := none, run := none } else p
        let s := modCamp (fun c => { c with
          matching := c.matching.filter fun t => !work t
          ready := c.ready.filter fun t => !work t
          pendSpill := c.pendSpill.filter fun t => !work t
          readySpill := c.readySpill.filter fun t => !work t
          spires := tmap {} c.spires fun _ p => stop p
          domes := tmap {} c.domes fun _ p => idle p }) s
        let s := buildPic ctx slot bottom 0 (modFrame ctx slot bottom (fun r => { r with incomplete := true }) (dropCold s))
        let holes := (List.range (g.prows - (picAt r 0).recRows)).map fun i => (picAt r 0).recRows + i
        promote (modCtx ctx (fun x => defect slot (tally 14 1 (modBuf (picAt r 0).buf (fun b => { b with holes := holes }) x))) s)
    | none => s)

/-- The statistics of a VVC frame whose last segment has finished wait for their fit (R237). -/
def noteFit (c n : Nat) (b : Bool) (s : State) : State :=
  match frameOf s c n b with
  | none => s
  | some r =>
    let g := frameGeo s r
    if r.decode ∨ fnat r.cf 2 ≠ 1 ∨ r.done.length < g.rows * g.segs then s
    else
      let l := (r.ctus.filter (·.level ≤ 3)).map fun u => (u.dist, u.bits, u.tokens)
      modCtx c (fun x => { x with fits := x.fits ++ [(n, l)] }) s

/-- A segment finished on Spire `i`: the records, counters, budgets and the ladder (R175, R179). -/
def endSegment (i : Nat) (u : Run) (memwait : Nat) (s : State) : State :=
  match frameOf s u.ctx u.frame u.bottom with
  | none => releaseSpire u.ctx i s
  | some r =>
    let g := frameGeo s r
    let u := runTo s i (tget {} s.camp.spires i).waiting.isSome u
    let s := spireCounters i g u memwait s
    let s := modSpire i (fun p => { p with run := none, waiting := none }) s
    let k := g.picOf u.row
    let note (p : Pic) : Pic :=
      { p with
        lostSegs := if p.refs.any (·.found ≠ 0) then min 0xFFFF (p.lostSegs + 1) else p.lostSegs
        intraSegs := if p.refs ≠ [] ∧ validRefs p.refs = [] then min 0xFFFF (p.intraSegs + 1) else p.intraSegs }
    let s := modFrame u.ctx u.frame u.bottom (fun r =>
      let r := modPic k note { r with done := (u.row, u.seg) :: r.done, ratios := (ratioOf s i g u :: r.ratios).take 16 }
      modPic k (fun p => { p with recRows := rebuiltRows g r k }) r) s
    let s := noteFit u.ctx u.frame u.bottom (finishPic u.ctx u.frame u.bottom k s)
    let s := if u.decode then s else rowComplete u.ctx u.frame u.bottom u.row s
    let s := promote (checkLadder u.ctx u.frame u.bottom s)
    match frameOf s u.ctx u.frame u.bottom with
    | some r =>
      let p := tget {} s.camp.spires i
      if unstarted s r g p.member = [] then releaseSpire u.ctx i s else s
    | none => s

/-- A CTU of E0 to E4 outside floor rows waits for staging (R266). -/
def mustWait (s : State) (u : Run) (c : CtuRec) : Bool :=
  match frameOf s u.ctx u.frame u.bottom with
  | some r => !u.floor && decide (u.level < 5) && !mayStage s r (recordBytes c) c.bins
  | none => false

/-- A CTU staged (R236, R265, R266): its record takes the place of its reserve, and rate control has its bits. -/
def stageCtu (u : Run) (c : CtuRec) (s : State) : State :=
  let spend (b : Budget) : Budget := if b.row = u.row then { b with actual := b.actual + c.bits } else b
  modFrame u.ctx u.frame u.bottom (fun r => { r with
    ctus := c :: r.ctus, budgets := r.budgets.map spend
    reserve := r.reserve - 80, staged := r.staged + recordBytes c, pendBins := r.pendBins + c.bins
    recs := r.recs ++ [(u.row, u.seg, recordBytes c, c.bins)] }) s

/-- The CTUs of a segment staged in order, until one has to wait: its wait is counted, and stage 10 holds it. -/
def stageAll (i : Nat) (u : Run) (memwait : Nat) : List CtuRec → State → State
  | [], s => endSegment i u memwait s
  | c :: l, s =>
    if mustWait s u c then
      bump 0x5E004 1 (modSpire i (fun p => { p with
        run := some (runTo s i p.waiting.isSome u), waiting := some { left := c :: l, memwait := memwait } }) s)
    else stageAll i u memwait l (stageCtu u c s)

/-- The lowest row of a frame that a member of its gang is still coding (R238). -/
def lowestRow (g : Geo) (r : FrameRec) : Nat := ((List.range g.rows).takeWhile (rowDone g r)).length

/-- SEGMENT_DONE (R175): a segment's stages have done their work on what the Spire found; its CTUs are staged, and the
segment ends or its stage 10 waits for staging space. Reads stay within the fetch cap (R241). -/
def execSegmentDone (spire : Nat) (q : SegIn) (s : State) : Ran :=
  ran s (
    let p := tget {} s.camp.spires spire
    match p.run, p.waiting with
    | some u, none =>
      (match frameOf s u.ctx u.frame u.bottom with
        | none => releaseSpire u.ctx spire s
        | some r =>
          let at' (o : Nat) : Nat := 0x40000 + 0x1000 * spire + o
          if u.decode then endSegment spire u q.memwait (if q.fetched = 0 then s else bump (at' 0x28) q.fetched s)
          else
            let g := frameGeo s r
            let k := g.picOf u.row
            let x := codeSegment (ctxOf s u.ctx) g r (picAt r k) u (lowestRow g r) p.allow q
            let fetched := min q.fetched (picAt r k).fetchLeft
            let put (s : State) (p : Nat × Nat) : State := if p.2 = 0 then s else bump (at' p.1) p.2 s
            let s := [(0x18, x.capped), (0x1C, x.fallback), (0x20, x.denied), (0x28, fetched)].foldl put s
            let s := modFrame u.ctx u.frame u.bottom (modPic k fun p => { p with fetchLeft := p.fetchLeft - fetched }) s
            let s := modCtx u.ctx (fun c => { c with concealed := min 0xFFFFFFFF (c.concealed + x.concealed) }) s
            stageAll spire u q.memwait x.ctus (modSpire spire (fun p => { p with allow := x.left }) s))
    | _, _ => s)

/-- STAGING_RESUME (R266): the waiting segment goes on once its next CTU may be staged. -/
def execStagingResume (spire : Nat) (s : State) : Ran :=
  ran s (
    let p := tget {} s.camp.spires spire
    match p.run, p.waiting with
    | some u, some w =>
      (match w.left with
        | c :: l => if mustWait s u c then s else
            let u := runTo s spire true u
            stageAll spire u w.memwait l (stageCtu u c (modSpire spire (fun p => { p with run := some u, waiting := none }) s))
        | [] => endSegment spire u w.memwait s)
    | _, _ => s)

/-! ## Urgent binds and substitutes (R183, R184) -/

/-- BIND_URGENT (R183): encode BIND tasks of the frame that are unbound at their latest bind time. -/
def execBindUrgent (ctx frame : Nat) (s : State) : Ran :=
  ran s (
    let due (r : FrameRec) : Bool := r.ctx = ctx && r.frame = frame && !r.decode && !r.bound && !r.urgent &&
      decide (latestBind s r ≤ frameNow s r)
    (s.camp.frames.filter due).foldl (fun s r =>
      let s := modFrame ctx frame r.bottom (fun r => { r with urgent := true, causes := r.causes ||| 8 }) s
      raise 3 0 (bump 0x30014 1 (modCtx ctx (fun x => { x with urgents := min 0xFFFFFFFF (x.urgents + 1) }) s))) s)

/-- An EFFORT_SHED event (R184, R186). -/
def shedEvent (c frame level cause shed gang sig source : Nat) (s : State) : State :=
  emit 0x05E0 c source (leBytes 8 frame ++ [BitVec.ofNat 8 level, BitVec.ofNat 8 cause] ++ leBytes 2 shed ++
    leBytes 2 gang ++ leBytes 2 (min 0xFFFF sig)) s

/-- An access unit handed to the egress flows that carry its context, or its group's stream (R175, R269,
R388). A flow's settings at the unit's launch govern it, so a disabled flow takes it too, and forgets those
whose launch has passed (R374). -/
def handOff (s : State) (r : FrameRec) (bottom : Bool) (bytes rest : Nat) (nals : List Nal) : State :=
  let x := ctxOf s r.ctx
  let f := frameFields s r
  let launch := launchOf s r
  let mine (f : Fields) : Bool :=
    (fnat f 2 = 1 || fnat f 2 = 2) && (fnat f 5 = r.ctx || match x.member with
      | some m => fnat f 2 = 2 && fnat f 5 = 0x100 + m.group
      | none => false)
  let d := diff32 launch (rasterNs s (tbD s x.tb))
  let window := if d < 0 then 1 else if 2000000000 < d then 2 else 0
  let u : EgUnit :=
    { ctx := r.ctx, frame := r.frame, bottom, launch, bytes, rest, peak := (frameRate s x r).peak, stamp := unitStamp s (fnat f 1) r.frame bottom, nals
      pts := unitPts s f r.frame bottom (signalled r.frame (frameRate s x r) x.rate), window }
  let live (v : EgUnit) : Bool := v.next ≠ 0 || decide (rasterNs s (tbD s x.tb) ≤ v.launch)
  let add (q : EFlow) : EFlow :=
    if !mine q.f then q
    else if fnat q.f 1 = 1 then { q with units := q.units ++ [u] }
    else { q with units := q.units.filter live ++ [u] }
  { s with flows := { s.flows with egress := tmap none s.flows.egress fun _ q => q.map add } }

/-- Free values that together stay within `most`, `n` of them (R252). -/
def drawParts (most : Nat) : Nat → State → List Nat × State
  | 0, s => ([], s)
  | n + 1, s =>
    let (v, s) := draw s
    let v := v % (most + 1)
    let (l, s) := drawParts (most - v) n s
    (v :: l, s)

/-- The pictures of a frame handed off in order, the filler with the last (R249, R271): their slices, bits, and the
captions, which go with the first. -/
def handOffAll (s : State) (r : FrameRec) (x : Ctx) (slices : List Slice) (bits : List Nat)
    (captions : List (BitVec 24)) (filler : Nat) : State :=
  let g := frameGeo s r
  let last := r.pics.length - 1
  r.pics.zipIdx.foldl (fun t (p, i) =>
    let fill := if i = last then ceilDiv filler 8 else 0
    let nals := nalsOf s x g r p i (slices.getD i (sliceOf g r p i)) (if i = 0 then captions else []) fill
    let rest := if i = 0 ∧ last = 1 then ceilDiv (bits.getD 1 0 + filler) 8 else 0
    handOff t r (i == 1) (ceilDiv (bits.getD i 0) 8 + fill) rest nals) s

/-- The fields of a frame that was never released, as its context holds them. -/
def asReleased (s : State) (r : FrameRec) : FrameRec :=
  let x := ctxOf s r.ctx
  if r.released then r else { r with cf := x.f, ch := x.rate.h, rk := some (rateNow s x), sched := x.sched }

/-- The models that a substituted IRAP would have ended run on: the stream still carries their parameters (R251). -/
def reopenOlds (r : FrameRec) (k : Rate) : Rate :=
  let back (o : OldModel) : OldModel := if o.until' = some r.frame then { o with until' := none } else o
  if r.irap && k.olds.any (·.until' = some r.frame) then { k with olds := k.olds.map back, oldFrom := r.frame + 1 } else k

/-- The slice of a substitute (R184): a fill at the composition's fill colour, or a repeat of the picture with POC
`ref`. -/
def substituteSlice (g : Geo) (r : FrameRec) (p : Pic) (colour : Nat × Nat × Nat) (fill : Bool) (ref : Nat) : Slice :=
  { poc := p.poc, list0 := if fill then [] else [ref], list1 := [], entries := g.prows
    nonRef := !fill && decide (fnat r.cf 2 = 1), tmvp := false, saoOn := false, alfSet := none, gdr := none
    boundary := none, ctus := [], fill := if fill then some colour else none, skip := !fill }

/-- A frame substituted (R184): a repeat, not kept, or at the start of the context a kept fill IRAP, whose bottom field
repeats its top one. -/
def substituteOne (s : State) (r : FrameRec) : State :=
  let r := asReleased s r
  let x := ctxOf s r.ctx
  let g := frameGeo s r
  let fill := r.opening
  let colour := match compOf s r.ctx with
    | some y => (fnat y.f 4, fnat y.f 5, fnat y.f 6)
    | none => (64, 512, 512)
  let eight := decide (fnat r.cf 2 = 0 ∧ fnat r.cf 3 = 0)
  let r := { r with
    substitute := true, irap := fill, gdrStart := false
    pics := r.pics.zipIdx.map fun (p, i) => { p with irap := fill && i == 0, gdr := none, aps := false, alf := none } }
  let hdr := headerBits s x g r
  let (heads, s) := drawParts (hdr + reserve g (fnat r.cf 2) 0) r.pics.length s
  let r := { r with bits := heads.sum, fBits := heads.sum, hdr := hdr }
  let gone := (r.pics.zipIdx.filter fun (_, i) => !(fill && i == 0)).map (·.1.buf)
  let s := closeGroup r (dropFrame r s)
  let s := modCtx r.ctx (fun y =>
    let y := gone.foldl (fun y b => modBuf b (dropped s.tick) { y with kept := y.kept.filter (· ≠ b) }) y
    let y := if !fill then { y with rate := reopenOlds r y.rate }
      else
        let v (c : Nat) : Nat := if eight then to8 c else c
        let plane (h w c : Nat) : List (List Nat) := List.replicate h (List.replicate w (v c))
        let ch := if fnat r.cf 4 = 0 then g.ph / 2 else g.ph
        modBuf (picAt r 0).buf (storeRecon eight (fnat r.cf 16 = 1) g.ph (fnat r.cf 4)
          [plane g.ph g.w colour.1, plane ch (g.w / 2) colour.2.1, plane ch (g.w / 2) colour.2.2]) y
    r.pics.foldl (fun y p => modBuf p.buf (unheld s.tick) y) y) s
  let x := ctxOf s r.ctx
  let filler := fillerOf s x r r.bits
  let s := modCtx r.ctx (fun y => { closeRate s r y with
    irapCount := y.irapCount + b2n fill
    substitutes := min 0xFFFFFFFF (y.substitutes + r.pics.length) }) s
  let s := shedEvent r.ctx r.frame 5 16 0 0 256 0xFFFF s
  let earlier := match x.kept.find? fun b => (bufOf x b).frame < r.frame with
    | some b => (bufOf x b).poc.toNat
    | none => 0
  let slices := r.pics.zipIdx.map fun (p, i) =>
    if fill ∧ i = 0 then substituteSlice g r p colour true 0
    else substituteSlice g r p colour false (if fill then (picAt r 0).poc else earlier)
  handOffAll s r x slices heads (captionsOf s r.ctx r.frame) filler

/-- SUBSTITUTE_PICTURE (R184): the frame, still unbound at L - guard. -/
def execSubstitutePicture (ctx frame : Nat) (s : State) : Ran :=
  ran s (
    let due (r : FrameRec) : Bool := r.ctx = ctx && r.frame = frame && !r.decode && !r.bound &&
      decide (launchOf s r - guardNs r ≤ frameNow s r)
    promote (settleClosing ctx ((s.camp.frames.filter due).foldl substituteOne s)))

/-! ## Domes (R175, R267) -/

/-- Domes that are free. -/
def freeDomes (s : State) : List Nat :=
  (List.range (domeCount s)).filter fun d => (tget {} s.camp.domes d).bound.isNone

/-- A frame has a ready DOME or DPARSE task and no Domes yet. -/
def wantsDomes (s : State) (r : FrameRec) : Bool :=
  r.bound && r.domes.isEmpty && s.camp.ready.any fun t =>
    isFrame t.ctx t.frame t.bottom r && (t.kind = .dome || t.kind = .dparse)

/-- The frames of the ready DOME and DPARSE tasks, in the order of R165. -/
def domeOrder (s : State) : List FrameRec :=
  let l := s.camp.ready.filterMap fun t => if t.kind = .dome ∨ t.kind = .dparse then taskFrame s t else none
  ((List.range 16).reverse).flatMap fun p => l.filter fun r => fnat r.sched 1 = p

/-- DOME_BIND (R175): in the order of R165 and without backfill, a frame takes its d_f Domes at once. -/
def execDomeBind (s : State) : Ran :=
  ran s (
    match (domeOrder s).find? (wantsDomes s) with
    | none => s
    | some r =>
      let df := domesFor r.k
      let ds := (freeDomes s).take df
      if ds.length < df then s
      else
        let on (p : Dome) : Dome := { p with bound := some (r.ctx, r.frame, r.bottom), df := df }
        let s := modCamp (fun c => { c with domes := ds.foldl (fun t d => tmod {} t d on) c.domes }) s
        modFrame r.ctx r.frame r.bottom (fun r => { r with domes := ds }) s)

/-- DOME_TASK_DONE (R267, R268): a Dome ends a segment of its substream, at 2 bins a cycle. A coded segment's records
leave the staging buffer; the last one of a row brings the bits that end the substream (R253). -/
def execDomeTaskDone (dome row seg : Nat) (s : State) : Ran :=
  ran s (
    let p := tget {} s.camp.domes dome
    match p.bound with
    | some (c, n, b) =>
      if p.run ≠ some (row, seg) then s
      else (match frameOf s c n b with
        | none => modDome dome (fun _ => {}) s
        | some r =>
          let g := frameGeo s r
          let last := decide (seg + 1 = g.segs)
          let s := modDome dome (fun p => { p with run := none, row := if last then none else p.row }) s
          let mine (q : Nat × Nat × Nat × Nat) : Bool := q.1 = row && q.2.1 = seg
          let l := r.recs.filter mine
          let bins := (l.map (·.2.2.2)).sum
          let coded (own : Bool) : Nat := ((r.ctus.filter fun u => u.row = row && (!own || u.col / 4 = seg)).map (·.bits)).sum
          let tail := match budgetOf r row with
            | some q => q.actual - coded false
            | none => 0
          let s := modFrame c n b (fun r => { r with
            coded := (row, seg) :: r.coded, staged := r.staged - (l.map (·.2.2.1)).sum, pendBins := r.pendBins - bins
            recs := r.recs.filter fun q => !mine q }) s
          let at' (o : Nat) : Nat := 0x50000 + 0x1000 * dome + o
          let s := if r.decode then s
            else bump (at' 0xC) (ceilDiv bins 2) (bump (at' 0x8) (coded true + (if last then tail else 0))
              (bump (at' 0x4) bins s))
          promote s)
    | none => s)

/-! ## Closing (R175, R186, R214, R219, R260, R292) -/

/-- A REF_MISSING, REF_STALE or REF_CORRUPT event of an encode frame (R219). -/
def refEvent (r : FrameRec) (p : Pic) (n : RefName) (s : State) : State :=
  let code := match n.found with
    | 1 => 0x05E4
    | 2 => 0x05E3
    | _ => 0x05E2
  emit code r.ctx n.buf (leBytes 8 r.frame ++ leBytes 8 n.frame ++ [BitVec.ofNat 8 n.gen,
    BitVec.ofNat 8 n.foundGen, BitVec.ofNat 8 (markCode n.foundMark), BitVec.ofNat 8 n.cause] ++
    leBytes 2 p.lostSegs ++ leBytes 2 p.intraSegs) s

/-- The same of a decode frame (R292): the source index is the substitute's buffer, or 0xFFFF for grey. -/
def refEventDecode (r : FrameRec) (segs : Nat) (n : RefName) (s : State) : State :=
  let code := match n.found with
    | 1 => 0x05E4
    | 2 => 0x05E3
    | _ => 0x05E2
  let z := n.found = 3
  emit code r.ctx (r.subBuf.getD 0xFFFF) (leBytes 8 r.frame ++ leBytes 4 (intWord n.poc).toNat ++ leBytes 4 0 ++
    [BitVec.ofNat 8 (if z then 0 else n.gen), BitVec.ofNat 8 (if z then 0 else n.foundGen),
      BitVec.ofNat 8 (if z then 0 else markCode n.foundMark), BitVec.ofNat 8 n.cause] ++
    leBytes 2 (min 0xFFFF segs) ++ leBytes 2 0) s

/-- The Domes of a frame released. -/
def freeDomesOf (r : FrameRec) (s : State) : State :=
  modCamp (fun c => { c with domes := r.domes.foldl (fun t d => tset {} t d {}) c.domes }) s

/-- What a closed frame adds to its context's figures: the bytes that its reconstructions take (R223 word 8), its IRAPs,
and the caption triplets beyond the 31 that a picture carries (R275). -/
def noteClose (g : Geo) (r : FrameRec) (captions : Nat) (x : Ctx) : Ctx :=
  let one (p : Pic) : Nat × Nat := ((bufOf x p.buf).stored, 5 * (bufOf x p.buf).recon.length)
  { x with
    stored := ((r.pics.map one).reverse ++ x.stored).take (64 * g.pics)
    irapCount := min 0xFFFFFFFF (x.irapCount + (r.pics.filter (·.irap)).length)
    rate := { x.rate with captionsDropped := min 0xFFFFFFFF (x.rate.captionsDropped + (captions - 31)) } }

/-- An encode frame's CLOSE: handed to egress at its launch, its holds ended, its bits counted, and its
reports sent; an access unit whose assembly took more than 30 microseconds is counted (R281). The headers take free
values of at most H[n] together (R252). -/
def closeEncode (r : FrameRec) (late : Bool) (s : State) : State :=
  let g := frameGeo s r
  let captions := captionsOf s r.ctx r.frame
  let (heads, s) := drawParts r.hdr r.pics.length s
  let rows (i : Nat) : Nat := ((r.budgets.filter fun b => g.picOf b.row = i).map (·.actual)).sum
  let bits := heads.zipIdx.map fun (h, i) => h + rows i
  let r := { r with bits := bits.sum }
  let s := if late then bump 0x5E00C 1 s else s
  let s := modCtx r.ctx (noteClose g r captions.length) s
  let s := freeDomesOf r (dropFrame r s)
  let s := closeGroup r (releaseFrame r s)
  let x := ctxOf s r.ctx
  let filler := fillerOf s x r r.bits
  let s := modCtx r.ctx (fun x => { closeRate s r x with
    levels := x.levels.modify r.level fun n => min 0xFFFFFFFF (n + 1) }) s
  let s := handOffAll s r x [] bits captions filler
  let s := if 0 < r.level then
      shedEvent r.ctx r.frame r.level r.causes r.shed r.k r.sigmaMax (r.members.headD 0) (bump 0x30010 1 s)
    else s
  let s := floorEvent r (ctxOf s r.ctx) s
  r.pics.foldl (fun s p => (p.refs.filter (·.found ≠ 0)).foldl (fun s n => refEvent r p n s) s) s

/-- The hash SEI of a unit does not match the picture (R299): each plane's CRC or checksum; MD5 is not checked. -/
def hashFails (codec : Nat) (r : FrameRec) (recon : List (BitVec 40)) : Bool :=
  match r.unitEnd.bind (·.hash) with
  | some (k, l) => k ≠ 0 && decide (l ≠ Config.pictureHash codec k recon)
  | none => false

/-- A decode frame's CLOSE: what was concealed or replaced is counted, and a whole picture waits for its
slot (R290 to R301). -/
def closeDecode (r : FrameRec) (s : State) : State :=
  let x := ctxOf s r.ctx
  let p := picAt r 0
  let g := frameGeo s r
  let hidden := hiddenCtus g r
  let lost := p.refs.filter (·.found ≠ 0)
  let checked := fnat r.cf 14 = 1 && hidden = 0 && lost.isEmpty && !r.incomplete
  let miss := checked && hashFails (fnat r.cf 2) r (bufOf x p.buf).recon
  let corrupt := (bufOf x p.buf).mark = .corrupt
  let clean := hidden = 0 && lost.isEmpty && !r.incomplete && !miss && !corrupt
  let head := (unitIn x r.frame r.bottom).map (·.head)
  let shown := !r.unshown && !corrupt && decide ((countNow s (tbD s (frameTb s r)) : Int) < r.frame)
  let s := freeDomesOf r (dropFrame r s)
  let s := if shown then modCtx r.ctx (modBuf p.buf fun b => held { b with await := true }) s else s
  let s := if r.unshown then modCtx r.ctx (modBuf p.buf (dropped s.tick)) s else s
  let s := releaseFrame r s
  let s := modCtx r.ctx (fun x =>
    let x := tally 4 1 (tally 10 (errorRows r) (tally 11 hidden (tally 12 lost.length (dropUnit r.frame r.bottom x))))
    let x := if miss then tally 16 1 x else x
    let x := if r.unshown then x
      else if clean then cleanPicture r.irap r.gdrStart (match head with
        | some h => h.recovery
        | none => 0) x
      else defect r.frame x
    if r.incomplete || corrupt || r.unshown then x
    else { x with whole := ((p.buf, (bufOf x p.buf).gen) :: x.whole.filter (·.1 ≠ p.buf)).take 16 }) s
  let s := modCtx r.ctx (countLost lost) s
  lost.foldl (fun s n => refEventDecode r p.lostSegs n s) s

/-- FRAME_CLOSE (R175): the CLOSE task of a picture of the frame that is ready. -/
def execFrameClose (ctx frame : Nat) (late : Bool) (s : State) : Ran :=
  ran s (match s.camp.ready.find? fun t => t.kind = .close && t.ctx = ctx && t.frame = frame with
    | none => s
    | some t => match taskFrame s t with
      | none => s
      | some r =>
        let s := if r.decode then pumpUnits ctx 8 (closeDecode r s) else closeEncode r late s
        promote (settleClosing ctx s))

/-! ## ALF, power and throttling (R20, R179, R237, R473) -/

/-- ALF_FIT_COMPLETE (R237): the sets fitted from a VVC frame whose last segment has finished are ready. -/
def execAlfFitComplete (ctx frame : Nat) (s : State) : Ran :=
  ran s (
    let x := ctxOf s ctx
    match x.fits.find? (·.1 = frame) with
    | none => s
    | some (n, l) =>
      modCtx ctx (fun x => { x with
        alf := some (n, Config.alfFit l), alfSent := false, fits := x.fits.filter fun p => n < p.1 }) s)

/-- SPIRE_POWER_UP (R20): a Spire of the profile in effect becomes powered. -/
def execSpirePowerUp (spire : Nat) (s : State) : Ran :=
  ran s (if spire < profileSpires s s.watch.profile ∧
      s.dev.state ≠ .off ∧ s.dev.state ≠ .boot ∧ s.dev.state ≠ .safe then
    modSpire spire (fun p => { p with powered := true, leaving := false }) s else s)

/-- Every bound encode frame projected again after a change of a clock (R179). -/
def reproject (s : State) : State :=
  (s.camp.frames.filter fun r => r.bound && !r.decode).foldl
    (fun s r => checkLadder r.ctx r.frame r.bottom s) s

/-- THROTTLE_TICK (R473): the requests and the steps; the frames of Spires whose clock changed are projected
again (R179). -/
def execThrottleTick (s : State) : Ran :=
  ran s (
    let t := throttle s
    if stepsInForce t = stepsInForce s then t else reproject (throttle (runAll s)))

/-- A profile in effect from its change boundary (R19, R20): removed Spires power down when free, their
requests discarded (R474), added ones by SPIRE_POWER_UP; the caps come down to the new maximum (R483) and
the contexts' release positions follow. -/
def enterProfile (p : Nat) (s : State) : State :=
  let s := runAll s
  let w := { s.watch with profile := p }
  let n := profileSpires { s with watch := w } p
  let top := profileMax { s with watch := w } p
  let off (i : Nat) (x : Spire) : Spire :=
    if i < n then { x with leaving := false }
    else if x.bound.isSome then { x with leaving := true } else { x with powered := false }
  let s := { s with watch := { w with cap := min w.cap top, dipCap := min w.dipCap top } }
  let s := dropCold (modCamp (fun c => { c with spires := tmap {} c.spires off }) s)
  reproject ((openCtxs s).foldl (fun s (c, _) => retakeUnits c s) s)

end Sys2Proof.Machine
end

