-- ==== Sys2Proof/Machine/Lantern.lean ====
section
/-! DEFINITION. Lantern (R329 to R336): images in two checked copies, items, repair and scrubbing, and the
copies in Keep's store. -/

namespace Sys2Proof.Machine

/-- Composition `c` changed. -/
def modComp (c : Nat) (f : Comp → Comp) (s : State) : State :=
  { s with cup := { s.cup with comps := tmod none s.cup.comps c fun x => x.map f } }

/-- Lantern image `i`. -/
def imageOf (s : State) (i : Nat) : Option LImage := tget none s.cup.images i

/-- The state with Lantern image `i` changed. -/
def modImage (i : Nat) (f : LImage → LImage) (s : State) : State :=
  { s with cup := { s.cup with images := tmod none s.cup.images i fun x => x.map f } }

/-! ## Tiles (R330, R332) -/

/-- Tiles in a row of an image: 256 samples wide. -/
def LImage.cols (m : LImage) : Nat := ceilDiv m.width 256

/-- Tiles of an image: 16 lines high. -/
def LImage.tiles (m : LImage) : Nat := m.cols * ceilDiv m.height 16

/-- `n` bytes of an image copy from an offset. -/
def copyRead (t : Tab Byte) (a : Nat) : Nat → List Byte
  | 0 => []
  | n + 1 => tget 0#8 t a :: copyRead t (a + 1) n

/-- Bytes written to an image copy from an offset on. -/
def copyWrite (t : Tab Byte) (a : Nat) : List Byte → Tab Byte
  | [] => t
  | b :: l => copyWrite (tset 0#8 t a b) (a + 1) l

/-- The runs of bytes that make tile `k` of an image: offset and length of each of its lines. -/
def tileRuns (m : LImage) (k : Nat) : List (Nat × Nat) :=
  let x := k % m.cols * 256
  let y := k / m.cols * 16
  (List.range (min 16 (m.height - y))).map fun l => (((y + l) * m.width + x) * 5, min 256 (m.width - x) * 5)

/-- The bytes of a tile in a copy. -/
def tileBytes (m : LImage) (t : Tab Byte) (k : Nat) : List Byte :=
  (tileRuns m k).flatMap fun (a, n) => copyRead t a n

/-- A tile's check on copy A: its CRC-32C matches and no burst of it has failed. -/
def tileOkA (m : LImage) (k : Nat) : Bool :=
  decide (k ∉ m.badA) && decide (crc32c (tileBytes m m.a k) = m.crcA.getD k 0)

/-- A tile's check on copy B. -/
def tileOkB (m : LImage) (k : Nat) : Bool :=
  decide (k ∉ m.badB) && decide (crc32c (tileBytes m m.b k) = m.crcB.getD k 0)

/-- A tile of one copy rewritten from another. -/
def tileCopy (m : LImage) (src dst : Tab Byte) (k : Nat) : Tab Byte :=
  (tileRuns m k).foldl (fun t (a, n) => copyWrite t a (copyRead src a n)) dst

/-- Copy A's tile rewritten from copy B. -/
def repairA (k : Nat) (m : LImage) : LImage :=
  { m with a := tileCopy m m.b m.a k, crcA := m.crcA.set k (m.crcB.getD k 0), badA := m.badA.filter (· ≠ k) }

/-- Copy B's tile rewritten from copy A. -/
def repairB (k : Nat) (m : LImage) : LImage :=
  { m with b := tileCopy m m.a m.b k, crcB := m.crcB.set k (m.crcA.getD k 0), badB := m.badB.filter (· ≠ k) }

/-- An image committed (R330): copy B is written from copy A, and every tile of both gets its CRC. -/
def commitImage (m : LImage) : LImage :=
  let crcs := (List.range m.tiles).map fun k => crc32c (tileBytes m m.a k)
  { m with b := m.a, crcA := crcs, crcB := crcs, badA := [], badB := [], committed := true }

/-- The Lantern store's bytes that an image takes: two copies, each tile with its CRC. -/
def imageStore (m : LImage) : Nat := 2 * (m.width * m.height * 5 + 4 * m.tiles)

/-- A LANTERN_INTEGRITY event (R336). -/
def integrity (ctx image frame item kind tile : Nat) (s : State) : State :=
  let cols := match imageOf s image with
    | some m => max 1 m.cols
    | none => 1
  emit 0x0AE0 ctx image (leBytes 8 frame ++ [BitVec.ofNat 8 item, BitVec.ofNat 8 kind] ++
    leBytes 2 (tile % cols) ++ leBytes 2 (tile / cols) ++ leBytes 2 0) (raise 6 1 s)

/-! ## Items (R331, R332) -/

/-- The enabled items of a composition: number, item and image. -/
def liveItems (s : State) (x : Comp) : List (Nat × LItem × LImage) :=
  x.items.filterMap fun (i, l) =>
    match l with
    | some l => if fnat l.f 1 = 1 then (imageOf s (fnat l.f 2)).map fun m => (i, l, m) else none
    | none => none

/-- An enabled item of any composition names image `i`. -/
def imageUsed (s : State) (i : Nat) : Bool :=
  s.cup.comps.any fun (_, x) => match x with
    | some x => x.items.any fun (_, l) => match l with
      | some l => fnat l.f 1 = 1 && fnat l.f 2 = i
      | none => false
    | none => false

/-- The image column at the left of an item's window at frame `n` (R331). -/
def scrollAt (l : LItem) (m : LImage) (n : Nat) : Nat :=
  ((fld l.f 7 * ((n : Int) - l.start)) % (max 1 m.width : Nat)).toNat

/-- The tile columns that a window touches at frame `n`. -/
def tileCols (l : LItem) (m : LImage) (n : Nat) : List Nat :=
  let x := scrollAt l m n
  let w := fnat l.f 3
  (List.range m.cols).filter fun c => (List.range w).any fun i => (x + i) % max 1 m.width / 256 = c

/-- The tiles whose row of tiles has its first composed line in frame lines `lo` to `hi` - 1. -/
def tilesIn (l : LItem) (m : LImage) (n lo hi : Nat) : List Nat :=
  let y := fnat l.f 6
  let rows := (List.range (ceilDiv (fnat l.f 4) 16)).filter fun t => lo ≤ y + 16 * t && y + 16 * t < hi
  rows.flatMap fun t => (tileCols l m n).map fun c => t * m.cols + c

/-- One tile checked for a frame (R332): copy A, then copy B; the image is DAMAGED when both fail. -/
def checkTile (c item image n k : Nat) (s : State) : State :=
  match imageOf s image with
  | none => s
  | some m =>
    if tileOkA m k then s
    else
      let s := bump 0x60010 1 s
      if tileOkB m k then integrity c image n item 1 k s
      else integrity c image n item 3 k (modImage image (fun m => { m with damaged := true }) (bump 0x60010 1 s))

/-- The word of an image copy at a column and a line. -/
def lanternWord (m : LImage) (x y : Nat) : BitVec 40 :=
  let t := if tileOkA m (y / 16 * m.cols + x / 256) then m.a else m.b
  BitVec.ofNat 40 (ofLe (copyRead t ((y * m.width + x) * 5) 5))

/-- The word that an item shows of its image at a place of the frame, none outside its window (R331, R332). -/
def itemPixel (l : LItem) (m : LImage) (n x y : Nat) : Option (BitVec 40) :=
  let (dx, dy) := (x - fnat l.f 5, y - fnat l.f 6)
  if x < fnat l.f 5 ∨ y < fnat l.f 6 ∨ fnat l.f 3 ≤ dx ∨ fnat l.f 4 ≤ dy then none
  else some (lanternWord m ((scrollAt l m n + dx) % max 1 m.width) dy)

/-- The tiles of a composition's items that start in a range of frame lines, checked. -/
def checkLines (c : Nat) (x : Comp) (n lo hi : Nat) (s : State) : State :=
  (liveItems s x).foldl (fun s (i, l, m) =>
    (tilesIn l m n lo hi).foldl (fun s k => checkTile c i (fnat l.f 2) n k s) s) s

/-- LANTERN_TILE_REPAIR (R332): copy A's tile rewritten from copy B, when A's check fails and B's passes. -/
def execLanternTileRepair (image tile : Nat) (s : State) : Ran :=
  ran s (match imageOf s image with
    | some m =>
      if m.committed && decide (tile < m.tiles) && !tileOkA m tile && tileOkB m tile then
        modImage image (repairA tile) s
      else s
    | none => s)

/-- One tile of an image scrubbed (R333): a copy that fails is rewritten from the other. -/
def scrubTile (image k : Nat) (s : State) : State :=
  match imageOf s image with
  | none => s
  | some m =>
    match tileOkA m k, tileOkB m k with
    | true, true => s
    | false, true => integrity 0xFFFF image 0 0xFF 1 k (modImage image (repairA k) (bump 0x60010 1 s))
    | true, false => integrity 0xFFFF image 0 0xFF 2 k (modImage image (repairB k) (bump 0x60010 1 s))
    | false, false =>
      integrity 0xFFFF image 0 0xFF 3 k (modImage image (fun m => { m with damaged := true }) (bump 0x60010 2 s))

/-- LANTERN_SCRUB (R333): every tile of both copies of every committed image. -/
def execLanternScrub (s : State) : Ran :=
  ran s (s.cup.images.foldl (fun s (i, m) =>
    match m with
    | some m => if m.committed then (List.range m.tiles).foldl (fun s k => scrubTile i k s) s else s
    | none => s) s)

/-! ## Commands (R330, R331, R335) -/

/-- 0x0A01: define an image; a redefinition replaces it. -/
def opDefineLanternImage : Op where
  opcode := 0x0A01
  specs := fun _ _ => [pFix 0 63, pNum 2 65534 2, pNum 2 4320 2, pAny]
  busy := fun _ f s => (heldUnit s 3 (fnat f 1)).isSome
  once := fun _ f s => if imageUsed s (fnat f 1) then some .badState else none
  post := fun _ f s =>
    let m : LImage := { width := fnat f 2, height := fnat f 3, crc := 0 }
    let used := (s.cup.images.map fun (i, x) => match x with
      | some x => if i = fnat f 1 then 0 else imageStore x
      | none => 0).sum
    if 512 * mib < used + imageStore m then some .noResource else none
  apply := fun _ f s =>
    let m : LImage := { width := fnat f 2, height := fnat f 3, crc := intWord (fld f 4) }
    { s := { s with cup := { s.cup with images := tset none s.cup.images (fnat f 1) (some m) } } }

/-- 0x0A02: write an image chunk; fields image, byte offset and byte count, then the bytes (PRESUMED, log
entry 26). The image is uncommitted from then on. -/
def opWriteLanternImageChunk : Op where
  opcode := 0x0A02
  specs := fun _ _ => [pFix 0 63, pAny, pFix 1 64000]
  extra := fun c n => decide (n = ceilDiv (c.params.getD 2 0).toNat 4)
  busy := fun _ f s => (heldUnit s 3 (fnat f 1)).isSome
  once := fun _ f s =>
    match imageOf s (fnat f 1) with
    | none => some .badState
    | some m =>
      if imageUsed s (fnat f 1) then some .badState
      else if m.width * m.height * 5 < fnat f 2 + fnat f 3 then some .refused else none
  apply := fun c f s =>
    { s := modImage (fnat f 1) (fun m => { m with
        a := copyWrite m.a (fnat f 2) ((ofWords (c.params.drop 3)).take (fnat f 3)), committed := false }) s }

/-- 0x0A03: commit an image, on a check unit that the firmware holds meanwhile (R330, R439, R461). -/
def opCommitLanternImage : Op where
  opcode := 0x0A03
  background := true
  specs := fun _ _ => [pFix 0 63]
  once := fun _ f s =>
    if (imageOf s (fnat f 1)).isNone || imageUsed s (fnat f 1) then some .badState else none
  busy := fun _ f s => (freeUnit s).isNone || (heldUnit s 3 (fnat f 1)).isSome
  accept := fun _ f s => holdUnit 3 (fnat f 1) s
  apply := fun _ f s =>
    let i := fnat f 1
    match imageOf s i with
    | none => { s := s, status := some .refused }
    | some m =>
      let (ok, s) := firmwareCheck 3 i (copyRead m.a 0 (m.width * m.height * 5)) m.crc s
      if ok then { s := modImage i commitImage s } else { s := s, status := some .refused }

/-- The header names a composition by its context id. -/
def ctxIsComp (c : Cmd) (s : State) : Bool := ctxId c && (compOf s c.ctx).isSome

/-- The timebase of the composition that the header names. -/
def compTarget (c : Cmd) (s : State) : Option Nat := (compOf s c.ctx).map fun x => fnat x.f 1

/-- The geometry of the composition that the header names. -/
def compGeo (c : Cmd) (s : State) : Geo :=
  match compOf s c.ctx with
  | some x => geoTb s (fnat x.f 1)
  | none => geoOf 0 0

/-- The area of a composition's enabled items but item `i`. -/
def itemArea (s : State) (c i : Nat) : Nat :=
  match compOf s c with
  | some x => (x.items.map fun (j, l) => match l with
      | some l => if j ≠ i ∧ fnat l.f 1 = 1 then fnat l.f 3 * fnat l.f 4 else 0
      | none => 0).sum
  | none => 0

/-- The bytes that Keep's store holds of an image. -/
def Persist.size (p : Persist) : Nat := p.width * p.height * 5

/-- Keep's copies but that of one item. -/
def persistBut (k : Keep) (c i : Nat) : List Persist := k.persist.filter fun p => !(p.comp = c && p.item = i)

/-- The size of the image that an item names. -/
def itemImage (s : State) (f : Fields) : Nat × Nat :=
  match imageOf s (fnat f 3) with
  | some m => (m.width, m.height)
  | none => (65534, 4320)

/-- An item copied to Keep's store with its image, or taken from it (R335). -/
def persistItem (c : Nat) (f : Fields) (s : State) : State :=
  let rest := persistBut s.keep c (fnat f 1)
  let new := match imageOf s (fnat f 3) with
    | some m => if fnat f 10 = 1 then
        [({ comp := c, item := fnat f 1, f := f.drop 1, width := m.width, height := m.height
            bytes := copyRead m.a 0 (m.width * m.height * 5), ok := true } : Persist)]
      else []
    | none => []
  { s with keep := { s.keep with persist := rest ++ new } }

/-- 0x0A10: configure a Lantern item of the header's composition. -/
def opConfigureLanternItem : Op where
  opcode := 0x0A10
  framed := true
  ctxOk := ctxIsComp
  target := compTarget
  needsTime := fun _ _ => true
  specs := fun c s =>
    let g := compGeo c s
    let quarter (f : Fields) (v : Int) : Int :=
      let v := min v (itemImage s f).2
      if fld f 2 = 1 then
        min v (((g.w * g.h / 4 - itemArea s c.ctx (fnat f 1)) / max 1 (fnat f 4) / 2 * 2 : Nat) : Int)
      else v
    [pFix 0 3, pFlag, pFix 0 63, pCross 2 g.w 2 (fun f v => min v (itemImage s f).1),
     pCross 2 g.h 2 quarter, pCross 0 g.w 2 (fun f v => min v (g.w - fld f 4)),
     pCross 0 g.h 2 (fun f v => min v (g.h - fld f 5)), pNum (-256) 256 1 true, pNum 0 1023, pFlag]
  once := fun _ f _ => if fld f 5 < 2 then some .refused else none
  post := fun c f s =>
    match imageOf s (fnat f 3) with
    | none => some .badState
    | some m =>
      if !m.committed then some .badState
      else if fnat f 10 = 1 ∧ (mib < m.width * m.height * 5 ∨
          16 ≤ (persistBut s.keep c.ctx (fnat f 1)).length ∨
          4 * mib < ((persistBut s.keep c.ctx (fnat f 1)).map (·.size)).sum + m.width * m.height * 5) then
        some .noResource
      else none
  apply := fun c f s =>
    match compOf s c.ctx with
    | none => { s := s }
    | some x =>
      let n := (countNow s (tbD s (fnat x.f 1))).toNat
      let item : LItem := { f := f.drop 1, start := n }
      { s := persistItem c.ctx f
          (modComp c.ctx (fun x => { x with items := tset none x.items (fnat f 1) (some item) }) s) }

/-- A composition's persistent items restored once Keep has verified them (R335). -/
def restoreItems (c n : Nat) (s : State) : State :=
  (s.keep.persist.filter fun p => p.comp = c).foldl (fun s p =>
    let i := fnat p.f 2
    if p.ok then
      let m := commitImage { width := p.width, height := p.height, crc := crc32c p.bytes, a := copyWrite [] 0 p.bytes }
      let s := if (imageOf s i).isSome then s
        else { s with cup := { s.cup with images := tset none s.cup.images i (some m) } }
      let item : LItem := { f := p.f, start := n }
      modComp c (fun x => { x with items := tset none x.items p.item (some item) }) s
    else integrity c i n p.item 4 0 s) s

/-- 0x0A20: read Lantern status; the spec gives its result no layout (log entry 36). -/
def opReadLanternStatus : Op where
  opcode := 0x0A20
  reads := true
  apply := fun _ _ s =>
    { s := s
      words := Config.lanternStatus (s.cup.images.filterMap fun (i, m) => m.map fun m =>
        (i, m.committed, m.damaged)) }

end Sys2Proof.Machine
end

