-- ==== Sys2Proof/Machine/Cupola.lean ====
section
/-! DEFINITION. Cupola (R304 to R328, R337 to R342): compositions, layers, assets, blending, pyramids and
delay lines. -/

namespace Sys2Proof.Machine

/-! ## Blending and pyramids (R325, R327) -/

/-- The alpha of a layer, none when it is not drawn: video 0 to 3, graphic 4 to 7, Lantern 8 to 11. -/
def layerAlpha (x : Comp) (i : Nat) : Option Nat :=
  if i < 4 then
    match tget none x.layers i with
    | some l => if fnat l.f 1 = 1 then some (fnat l.f 12) else none
    | none => none
  else if i < 8 then
    match tget none x.graphics (i - 4) with
    | some l => if fnat l.f 1 = 1 then some (fnat l.f 5) else none
    | none => none
  else
    match tget none x.items (i - 8) with
    | some l => if fnat l.f 1 = 1 then some (fnat l.f 8) else none
    | none => none

/-- One component blended over what is below, in 10 integer and 10 fraction bits. -/
def blend (a v below : Nat) : Nat := (a * (v * 1024) + (1023 - a) * below + 511) / 1023

/-- A written sample: rounded to 10 bits within 4 to 1,019. -/
def sample10 (out : Nat) : Nat := (clip 4 1019 ((out + 512) / 1024)).toNat

/-- A filter's sum over its divisor: the whole quotient, or one above it where the quotient is not whole and
its rounding is open (log entry 32), within 4 to 1,019. -/
def filtered (sum div : Nat) : Nat :=
  let q := sum / div
  (clip 4 1019 (if sum % div ≠ 0 ∧ Config.roundUp sum div then q + 1 else q : Nat)).toNat

/-- A line of chroma at 4:2:2: [1 2 1] / 4 at the even samples, the edge samples repeated. -/
def chroma422 (l : List Nat) : List Nat :=
  (List.range (l.length / 2)).map fun i =>
    let at' (k : Nat) : Nat := l.getD k 0
    let m := 2 * i
    filtered (at' (m - 1) + 2 * at' m + at' (min (l.length - 1) (m + 1))) 4

/-- Element `i` of a list of lines, its ends repeated. -/
def lineAt (l : List (List Nat)) (i : Int) : List Nat := l.getD (clip 0 (l.length - 1) i).toNat []

/-- Chroma lines at 4:2:0: line j is [1 3 3 1] / 8 over lines 2j - 1 to 2j + 2, of which `first` is the
position of line 0 in the list. -/
def chroma420 (l : List (List Nat)) (first n : Nat) : List (List Nat) :=
  (List.range n).map fun j =>
    let at' (k : Int) : List Nat := lineAt l ((first : Int) + 2 * j + k)
    (List.range (at' 0).length).map fun i =>
      filtered ((at' (-1)).getD i 0 + 3 * (at' 0).getD i 0 + 3 * (at' 1).getD i 0 + (at' 2).getD i 0) 8

/-- Each sample of a line of blocks: the sum of a 4 by 4 block, plus 8, over 16. -/
def blockLine (l : List (List Nat)) : List Nat :=
  (List.range ((l.headD []).length / 4)).map fun i =>
    ((l.map fun x => (slice x (4 * i) 4).sum).sum + 8) / 16

/-- A pyramid level: a line for every 4 lines. -/
def pyramid (l : List (List Nat)) : List (List Nat) :=
  (List.range (ceilDiv l.length 4)).map fun j => blockLine (padTo 4 (slice l (4 * j) 4))

/-! ## The pixels of the layers (R305, R313, R314, R322) -/

/-- A layer's mode as the LAYER_LATE record codes it. -/
def layerMode (l : VLayer) : Nat := if 0x2000 ≤ fnat l.f 2 then 2 else fnat l.f 3

/-- The asset `i`. -/
def assetOf (s : State) (i : Nat) : Option Asset := tget none s.cup.assets i

/-- The word of an asset in module DRAM at an index (R319). -/
def assetWord (s : State) (a : Asset) (i : Nat) : BitVec 40 := BitVec.ofNat 40 (ofLe (memRead s (a.addr + 5 * i) 5))

/-- The Y', Cb and Cr of an image's word. -/
def wordTrip (w : BitVec 40) : Trip :=
  ⟨(w.extractLsb' 0 10).toNat, (w.extractLsb' 10 10).toNat, (w.extractLsb' 20 10).toNat⟩

/-- The alpha of an image's word. -/
def wordAlpha (w : BitVec 40) : Nat := (w.extractLsb' 30 10).toNat

/-- The pixel of an asset's image at a place of the frame, its origin at `ox`, `oy`; none outside it. -/
def imagePixel (s : State) (a : Asset) (image : Nat) (ox oy : Int) (x y : Nat) : Option (BitVec 40) :=
  let px := x - ox
  let py := y - oy
  if 0 ≤ px ∧ px < a.width ∧ 0 ≤ py ∧ py < a.height then
    some (assetWord s a ((image * a.height + py.toNat) * a.width + px.toNat))
  else none

/-- A place of the frame lies in a video layer's destination. -/
def inDest (l : VLayer) (x y : Nat) : Bool :=
  decide (fld l.f 8 ≤ x ∧ (x : Int) < fld l.f 8 + fld l.f 10 ∧ fld l.f 9 ≤ y ∧ (y : Int) < fld l.f 9 + fld l.f 11)

/-- A layer draws its fallback on a line: past its hold limit, or from a direct source's first late line on
(R312, R313). -/
def falls (l : VLayer) (y : Nat) : Bool :=
  if layerMode l = 1 then
    match l.missed with
    | some k => decide (k ≤ y)
    | none => false
  else l.state == 2

/-- What a layer's fallback gives at a place: nothing, the fill colour, or the still in the destination. -/
def fallbackPixel (s : State) (x : Comp) (l : VLayer) (px py : Nat) : Option Trip :=
  if !inDest l px py then none
  else if fnat l.f 17 = 1 then some ⟨fld x.f 4, fld x.f 5, fld x.f 6⟩
  else if fnat l.f 17 = 2 then
    (assetOf s (fnat l.f 18)).bind fun a => (imagePixel s a 0 (fld l.f 8) (fld l.f 9) px py).map wordTrip
  else none

/-- The input space of a video layer (R316): field 14, or what the source reports, BT.709 where it reports none. -/
def videoSpace (l : VLayer) (reported : Nat) : Nat :=
  (if fnat l.f 13 = 0 then max 1 (min 4 reported) else fnat l.f 13) - 1

/-- The space that a video layer's source reports (R316): a flow's field 26, else what its signal says. -/
def reportedSpace (s : State) (l : VLayer) (seen : Nat) : Nat :=
  let id := fnat l.f 2
  if 0x1000 ≤ id then seen
  else match tget none s.flows.ingress id with
    | some x => fnat x.f 25
    | none => seen

/-- The 3D table that a video layer's conversion reads. -/
def videoTable (s : State) (l : VLayer) : Option (Nat → BitVec 40) :=
  if fnat l.f 14 = 1 then (assetOf s (fnat l.f 15)).map fun a i => assetWord s a i else none

/-- A video layer's pixel in the output space, from what it gives in its own. -/
def videoPixel (s : State) (x : Comp) (l : VLayer) (i reported : Nat) (given : List LayerPix) (px py : Nat) :
    Option Trip :=
  if falls l py then fallbackPixel s x l px py
  else if !inDest l px py then none
  else (given.find? (·.layer = i)).map fun p =>
    convert (videoTable s l) (videoSpace l reported) x.space ⟨p.y, p.cb, p.cr⟩

/-- The image of a sequence of `frames` that a graphic layer shows at frame `n` (R321). -/
def sequenceImage (l : GLayer) (frames n : Nat) : Nat :=
  let i := (n - l.start) / max 1 (fnat l.f 7)
  if fnat l.f 8 = 0 then i % max 1 frames else min i (frames - 1)

/-- A graphic layer's pixel in the output space, with its alpha. -/
def graphicPixel (s : State) (x : Comp) (l : GLayer) (n px py : Nat) : Option (Nat × Trip) :=
  (assetOf s (fnat l.f 2)).bind fun a =>
    (imagePixel s a (sequenceImage l a.frames n) (fld l.f 3) (fld l.f 4) px py).map fun w =>
      (wordAlpha w, convert none (if fnat l.f 6 = 0 then x.space else fnat l.f 6 - 1) x.space (wordTrip w))

/-- The pixel of layer `i` of the stack at a place of frame `n`, with its own alpha. -/
def layerPixel (s : State) (x : Comp) (n : Nat) (r : RowIn) (i : Nat) (given : List LayerPix) (px py : Nat) :
    Option (Nat × Trip) :=
  if i < 4 then
    (tget none x.layers i).bind fun l =>
      (videoPixel s x l i (reportedSpace s l (r.reported.getD i 0)) given px py).map fun p => (1023, p)
  else if i < 8 then (tget none x.graphics (i - 4)).bind fun l => graphicPixel s x l n px py
  else
    (tget none x.items (i - 8)).bind fun l => (imageOf s (fnat l.f 2)).bind fun m =>
      (itemPixel l m n px py).map fun w => (wordAlpha w, wordTrip w)

/-- The line of the frame at index `i` of the lines around row `row`: a field's lines lie two apart. -/
def frameLine (g : Geo) (row : Nat) (r : RowIn) (i : Nat) : Nat :=
  let k := 64 * g.inPic row + i - r.above.length
  if g.pair then 2 * k + g.picOf row else k

/-- The line that a layer draws at index `i`: its own, or the nearest one before it that returned in time (R314). -/
def drawnLine (r : RowIn) (layer i : Nat) : Nat :=
  (((List.range (i + 1)).reverse).find? fun j => (layer, j) ∉ r.readMiss).getD 0

/-- One component of a pixel over what is below, with both alphas (R325). -/
def layOver (al : Nat) (p : Nat × Trip) (below : Nat × Nat × Nat) : Nat × Nat × Nat :=
  let a := (p.1 * al + 511) / 1023
  (blend a p.2.a.toNat below.1, blend a p.2.b.toNat below.2.1, blend a p.2.c.toNat below.2.2)

/-- The stack of R305 over the fill colour, bottom to top, at index `i` of the lines around a row and column `px`;
with a delay line Lantern is left to the slot's output (R334). -/
def stackPixel (s : State) (x : Comp) (g : Geo) (n row : Nat) (r : RowIn) (i px : Nat) : Nat × Nat × Nat :=
  let all := r.above ++ r.lines ++ r.below
  let top := if fnat x.f 7 = 0 then 12 else 8
  let (y, cb, cr) := (List.range top).foldl (fun below k =>
    match layerAlpha x k with
    | none => below
    | some al =>
      let j := drawnLine r k i
      match layerPixel s x n r k ((all.getD j []).getD px []) px (frameLine g row r j) with
      | some p => layOver al p below
      | none => below) (fnat x.f 4 * 1024, fnat x.f 5 * 1024, fnat x.f 6 * 1024)
  (sample10 y, sample10 cb, sample10 cr)

/-! ## Rows (R306, R325, R327, R334, R337) -/

/-- The lines of a plane at 1/8 scale: the mean of each 8 by 8 block, at the edges of the samples present. -/
def proxyPlane (l : List (List Nat)) : List (List Nat) :=
  (List.range (ceilDiv l.length 8)).map fun j =>
    let block := slice l (8 * j) 8
    (List.range (ceilDiv (l.headD []).length 8)).map fun i =>
      let v := block.flatMap fun x => slice x (8 * i) 8
      (quot v.sum v.length).toNat

/-- A row with its pyramid and proxy lines. -/
def lineRow (ys cbs crs : List (List Nat)) : LineRow :=
  let q := pyramid ys
  { ys, cbs, crs, quarter := q, sixteenth := pyramid q
    proxy := [proxyPlane ys, proxyPlane cbs, proxyPlane crs] }

/-- The lines that a row of pixels becomes in the composition's chroma format. -/
def composeRow (s : State) (x : Comp) (g : Geo) (n row : Nat) (r : RowIn) : LineRow :=
  let a := r.above.length
  let k := r.lines.length
  let all := (List.range (a + k + r.below.length)).map fun i => (List.range g.w).map fun px => stackPixel s x g n row r i px
  let ys := (slice all a k).map fun l => l.map (·.1)
  let cbs := all.map fun l => chroma422 (l.map (·.2.1))
  let crs := all.map fun l => chroma422 (l.map (·.2.2))
  if fnat x.f 2 = 1 then lineRow ys (slice cbs a k) (slice crs a k)
  else lineRow ys (chroma420 cbs a (k / 2)) (chroma420 crs a (k / 2))

/-- A row of the fill colour, which a slot that was never written reads as (R338). -/
def fillRow (x : Comp) (g : Geo) (row : Nat) : LineRow :=
  let h := g.rowHeight row
  let line (v w : Nat) : List Nat := List.replicate w v
  let c := if fnat x.f 2 = 1 then h else h / 2
  lineRow (List.replicate h (line (fnat x.f 4) g.w)) (List.replicate c (line (fnat x.f 5) (g.w / 2)))
    (List.replicate c (line (fnat x.f 6) (g.w / 2)))

/-- One sample of a written line under the Lantern items of frame `n` at a place of the frame. -/
def stampSample (items : List (Nat × LItem × LImage)) (n px py : Nat) (of' : Trip → Int) (v : Nat) : Nat :=
  items.foldl (fun v (_, l, m) =>
    match itemPixel l m n px py with
    | some w => sample10 (blend ((wordAlpha w * fnat l.f 8 + 511) / 1023) (of' (wordTrip w)).toNat (v * 1024))
    | none => v) v

/-- A row of a slot with the Lantern items of frame `n` stamped in (R334); a chroma sample takes the item's pixel
that it is co-sited with (log entry 95). -/
def stampRow (items : List (Nat × LItem × LImage)) (x : Comp) (g : Geo) (n row : Nat) (w : LineRow) : LineRow :=
  let plane (up : Nat) (across : Nat) (of' : Trip → Int) (l : List (List Nat)) : List (List Nat) :=
    l.mapIdx fun j line =>
      let k := 64 * g.inPic row + up * j
      let py := if g.pair then 2 * k + g.picOf row else k
      line.mapIdx fun i v => stampSample items n (across * i) py of' v
  let up := if fnat x.f 2 = 1 then 1 else 2
  { w with ys := plane 1 1 (·.a) w.ys, cbs := plane up 2 (·.b) w.cbs, crs := plane up 2 (·.c) w.crs }

/-- The lines of a row as a picture's source holds them: each luma line with the chroma lines that start on it. -/
def rowLines (x : Comp) (w : LineRow) : List (List Nat × List Nat × List Nat) :=
  w.ys.mapIdx fun i y =>
    if fnat x.f 2 = 1 then (y, w.cbs.getD i [], w.crs.getD i [])
    else if i % 2 = 0 then (y, w.cbs.getD (i / 2) [], w.crs.getD (i / 2) []) else (y, [], [])

/-- The position in the order of writing, newest first, of the slot that the output reads, counted once
the input of the frame has its slot. -/
def readIndex (x : Comp) : Nat := fnat x.f 7 - x.holdOut

/-- The slot that is read, none for one that was never written. -/
def readSlot (x : Comp) : Option LineSlot := x.slots[readIndex x]?

/-- A slot with a row of it replaced, or with the row added at its end. -/
def LineSlot.put (row : Nat) (w : LineRow) (q : LineSlot) : LineSlot :=
  { q with rows := if row < q.rows.length then q.rows.set row w else q.rows ++ [w] }

/-- The row that goes out and the delay line's slots, once a row has been composed (R334, R338): without a delay
line the row itself; else the row joins the newest slot, and the slot that is read gives its own row, in which the
Lantern items are stamped in place. -/
def passRow (s : State) (x : Comp) (g : Geo) (n row : Nat) (w : LineRow) : LineRow × List LineSlot :=
  if fnat x.f 7 = 0 then (w, x.slots)
  else
    let slots := x.slots.modify 0 (·.put row w)
    let i := readIndex x
    match slots[i]?.bind fun q => q.rows[row]? with
    | none => (stampRow (liveItems s x) x g n row (fillRow x g row), slots)
    | some q =>
      let q := stampRow (liveItems s x) x g n row q
      (q, slots.modify i (·.put row q))

/-- The late lines of a row (R314, R341): of the layers that are drawn, each counted once, and not where a direct
layer's fallback governs. -/
def lateLines (x : Comp) (g : Geo) (row : Nat) (r : RowIn) : Nat :=
  let hit (p : Nat × Nat) : Bool :=
    let governed := decide (p.1 < 4) && match tget none x.layers p.1 with
      | some l => falls l (frameLine g row r p.2)
      | none => false
    (layerAlpha x p.1).isSome && decide (r.above.length ≤ p.2 ∧ p.2 < r.above.length + r.lines.length) && !governed
  ((r.readMiss.eraseDups).filter hit).length

/-! ## Layers at a frame boundary (R311 to R315) -/

/-- A LAYER_LATE event (R315). -/
def layerEvent (c i : Nat) (l : VLayer) (frame kind line run : Nat) (s : State) : State :=
  emit 0x06E0 c i (leBytes 8 frame ++ [BitVec.ofNat 8 kind, BitVec.ofNat 8 (layerMode l)] ++ leBytes 2 line ++
    leBytes 4 run ++ leBytes 2 (fnat l.f 2)) (raise 6 0 s)

/-- The state with layer `i` of a composition set. -/
def setLayer (c i : Nat) (l : VLayer) (s : State) : State :=
  modComp c (fun x => { x with layers := tset none x.layers i (some l) }) s

/-- A source has completed no frame within the last two of its own frame periods. -/
def sourceLate (s : State) (id : Nat) : Bool :=
  match tget none s.cup.sources id with
  | none => true
  | some q =>
    let (num, den) := rateN q.rate
    q.count == 0 || decide (2 * den * 625000000 < (s.tick - q.at') * num)

/-- A buffered or decode layer is late at a boundary (R313, R297). -/
def layerLate (s : State) (l : VLayer) : Bool :=
  let id := fnat l.f 2
  if 0x2000 ≤ id then (ctxOf s (id - 0x2000)).showing.isEmpty else sourceLate s id

/-- The hold limit: none for the limit that holds for ever. -/
def holdLimit (l : VLayer) : Option Nat := if fnat l.f 16 = 65535 then none else some (fnat l.f 16)

/-- The layer's state of R342 after `run` late frames. -/
def layerState (l : VLayer) (selected : Option Nat) (run : Nat) : Nat :=
  if run = 0 then 0
  else if selected = none then 2
  else match holdLimit l with
    | some h => if h < run then 2 else 1
    | none => 1

/-- A layer's run of late frames goes on at frame `n`: its events and counters. -/
def lateFrame (c i : Nat) (l : VLayer) (n kind line : Nat) (s : State) : State :=
  let run := l.run + 1
  let s := setLayer c i { l with run := run, state := layerState l l.selected run } s
  let s := if run = 1 then layerEvent c i l n kind line 0 s else s
  if holdLimit l = some run ∨ (holdLimit l = some 0 ∧ run = 1) then layerEvent c i l n 3 0 0 s else s

/-- A frame that is not late: a run that it ends is reported. -/
def liveFrame (c i : Nat) (l : VLayer) (n : Nat) (s : State) : State :=
  let s := setLayer c i { l with run := 0, state := 0 } s
  if l.run = 0 then s else layerEvent c i l n 4 0 l.run s

/-- The last source line that a layer needs. -/
def lastLine (l : VLayer) : Nat := fnat l.f 5 + fnat l.f 7 - 1

/-- A direct layer's frame is over (R312): a frame whose last line never came in its window is a miss. -/
def endDirect (c i : Nat) (l : VLayer) (n : Nat) (s : State) : State :=
  let whole := decide (n < l.lineFrame) || (decide (l.lineFrame = n) && decide (l.line = some (lastLine l)))
  let missed := l.missed.isSome
  let l := { l with missed := none }
  if missed then setLayer c i l s
  else if whole then liveFrame c i { l with selected := some n } n s
  else
    let line := match l.line with
      | some k => if l.lineFrame = n then k + 1 else fnat l.f 5
      | none => fnat l.f 5
    lateFrame c i l n 2 line (bump 0x60008 1 s)

/-- A video layer at the start of composed frame `n`. -/
def startLayer (c i n : Nat) (prev : Option Nat) (s : State) : State :=
  match compOf s c with
  | none => s
  | some x =>
    match tget none x.layers i with
    | none => s
    | some l =>
      if fnat l.f 1 = 0 then s
      else if layerMode l = 1 then
        (match prev with
          | some m => endDirect c i l m s
          | none => s)
      else if layerLate s l then lateFrame c i l n 1 0 (bump 0x60004 1 s)
      else
        let id := fnat l.f 2
        let sel := if 0x2000 ≤ id then some n else (tget none s.cup.sources id).map (·.count)
        liveFrame c i { l with selected := sel } n s

/-! ## Delay lines (R337 to R339) -/

/-- The composition after a change of its delay length at a boundary (R339). -/
def changeDelay (old new : Comp) : Comp :=
  let l' := fnat new.f 7
  if fnat old.f 7 = l' then new
  else if l' = 0 ∨ fnat old.f 7 = 0 then { new with slots := [], holdOut := 0 }
  else { new with holdOut := l' - readIndex old }

/-- The delay line at the start of composed frame `n`: its input takes a slot, and a read of an unwritten
slot is counted. -/
def startLine (c n : Nat) (s : State) : State :=
  match compOf s c with
  | none => s
  | some x =>
    let l := fnat x.f 7
    if l = 0 then s
    else
      let x := { x with slots := ({ frame := n } :: x.slots).take (l + 5) }
      let s := if (readSlot x).isNone then bump 0x60018 1 s else s
      modComp c (fun y => { y with slots := x.slots }) s

/-- The ancillary packets of a source's newest complete frame: those of its SDI input, or those that the ST 2110-40
flows name it as their companion for, with the same RTP timestamp (R357, R378). -/
def sourceAnc (s : State) (id : Nat) : List AncPkt :=
  match tget none s.cup.sources id with
  | none => []
  | some q => q.anc ++ s.flows.ingress.flatMap fun (_, x) => match x with
      | some x =>
        if fnat x.f 1 = 1 ∧ fnat x.f 2 = 5 ∧ fnat x.f 24 = id then
          (x.ancs.filter fun a => some a.1 = q.stamp).flatMap (·.2)
        else []
      | none => []

/-- The ancillary packets of composed frame `n`: those of the source of video layer 0 while that layer is enabled and
not late (R358). -/
def frameAnc (s : State) (x : Comp) : List AncPkt :=
  match tget none x.layers 0 with
  | some l => if fnat l.f 1 = 0 ∨ l.run ≠ 0 then [] else sourceAnc s (fnat l.f 2)
  | none => []

/-- Composed frame `n` as its outputs send it: live, or from the output slot of a delay line (R338, R358). -/
def startOut (c n : Nat) (anc : List AncPkt) (s : State) : State :=
  modComp c (fun x =>
    let x := { x with slots := match x.slots with
      | q :: rest => if q.frame = n then { q with anc } :: rest else x.slots
      | [] => [] }
    let o : OutFrame := if fnat x.f 7 = 0 then { frame := n, input := some n, anc }
      else match readSlot x with
        | some q => { frame := n, input := some q.frame, anc := q.anc }
        | none => { frame := n, input := none, anc := [] }
    { x with outs := (o :: x.outs).take 8 }) s

/-- A composed frame goes out as the fill colour, or repeats the frame before (R339). -/
def outMuted (x : Comp) (n : Nat) : Bool :=
  match x.outs.dropWhile fun o => decide (n < o.frame) with
  | o :: p :: _ => o.input.isNone || (o.input == p.input)
  | [o] => o.input.isNone
  | [] => false

/-- Composed frame `n` of a composition begins at A(n) (R306): the frame before is over, layers select their
sources, and the delay line moves on. -/
def startCompose (c n : Nat) (s : State) : State :=
  match compOf s c with
  | none => s
  | some x =>
    let s := (List.range 4).foldl (fun s i => startLayer c i n x.cur s) s
    let s := modComp c (fun y => { y with
      cur := some n, rows := 0, last := none, holdOut := y.holdOut - 1 }) s
    let anc := (compOf s c).elim [] (frameAnc s)
    startOut c n anc (startLine c n s)

/-- The output space follows field 3 at an IRAP of the context (R309). -/
def irapSpace (c : Nat) (s : State) : State := modComp c (fun x => { x with space := fnat x.f 3 }) s

/-! ## Sources (R311, R312) -/

/-- A frame of a buffered source is complete in its ring: one of the format the ring was set up for (R311,
R341). -/
def completeSource (source format rate : Nat) (stamp : Option Nat) (anc : List AncPkt) (s : State) : State :=
  let shape := sourceShape s source
  let sdi := decide (0x1000 ≤ source)
  let locked := !sdi || (laneOf s (sdiLane source)).trs
  if source ∈ ringSources s ∧ sourceOpen s source ∧ locked ∧ (shape.isNone ∨ shape = some (format, rate)) then
    let count := match tget none s.cup.sources source with
      | some q => q.count + 1
      | none => 1
    let q : Source := { format, rate, count, at' := s.tick, stamp, anc }
    { s with cup := { s.cup with sources := tset none s.cup.sources source (some q) } }
  else s

/-- SOURCE_FRAME_COMPLETE (R311, R341): the frame's completion as Cupola sees it, whatever row of its source
completed it. -/
def execSourceFrameComplete (source format rate : Nat) (s : State) : Ran :=
  ran s (completeSource source format rate none [] s)

/-- The first composed line, in the frame, whose vertical filter of 6 taps reaches source line `k` of a layer
(R312, R317); a layer without a scaler copies its lines. -/
def firstReach (l : VLayer) (k : Nat) : Int :=
  let cy := fnat l.f 5
  let ch := fnat l.f 7
  let dh := fnat l.f 11
  if ch = dh then fld l.f 9 + k - cy
  else
    let below (y : Nat) : Bool := decide ((2 * y + 1) * ch + 2 * dh * cy + 6 * dh < 2 * dh * k + dh)
    fld l.f 9 + ((List.range dh).takeWhile below).length

/-- A source line that needs to be in the line buffer for composed frame `n` by now is in its window (R312). -/
def inWindow (s : State) (tb : Nat) (n line : Int) : Bool :=
  let t := tbD s tb
  let m := n - t.offset
  let (_, _, ltot, _) := formatOf t.format
  let stot : Int := (samplesOf t.format t.rate).getD 1
  let (num, den) := rateN t.rate
  let period : Int := den * 1000000000 / num
  let now := rasterNs s t
  let early := if 64 ≤ line then positionNs t m (line - 64) 0
    else positionNs t m line 0 - 64 * period / ltot
  decide (early ≤ now ∧ now ≤ positionNs t m line stot + 20000)

/-- A direct layer's first late line in frame `n` (R312): it draws its fallback from there on. -/
def missLine (c i : Nat) (l : VLayer) (n : Nat) (y : Int) (s : State) : State :=
  let k := (clip 0 65535 y).toNat
  lateFrame c i { l with missed := some k } n 2 k (bump 0x60008 1 s)

/-- DIRECT_LINE_ARRIVAL (R312): a line in its window is kept; the first one outside makes the layer late for
the rest of the frame. -/
def execDirectLineArrival (comp layer line : Nat) (s : State) : Ran :=
  ran s (match compOf s comp with
    | none => s
    | some x =>
      match x.cur, tget none x.layers layer with
      | some n, some l =>
        let tb := fnat x.f 1
        let y := firstReach l line
        if fnat l.f 1 = 0 ∨ layerMode l ≠ 1 ∨ line < fnat l.f 5 ∨ lastLine l < line then s
        else if inWindow s tb n y then
          (if l.missed.isSome then s else setLayer comp layer { l with line := some line, lineFrame := n } s)
        else if inWindow s tb (n + 1) y then
          setLayer comp layer { l with line := some line, lineFrame := n + 1 } s
        else if l.missed.isSome then s
        else missLine comp layer l n y s
      | _, _ => s)

/-- The source line that a direct layer waits for in frame `n`, none once all have come. -/
def awaited (l : VLayer) (n : Nat) : Option Nat :=
  if n < l.lineFrame then none
  else
    let k := match l.line with
      | some k => if l.lineFrame = n then k + 1 else fnat l.f 5
      | none => fnat l.f 5
    if lastLine l < k then none else some k

/-- The direct layers of a composition as a row of frame `n` up to frame line `hi` is written: one whose awaited line
has not come by the end of its window is late from there on (R312). -/
def checkDirect (c n hi : Nat) (s : State) : State :=
  (List.range 4).foldl (fun s i =>
    match compOf s c with
    | none => s
    | some x =>
      match tget none x.layers i with
      | none => s
      | some l =>
        if fnat l.f 1 = 0 ∨ layerMode l ≠ 1 ∨ l.missed.isSome then s
        else match awaited l n with
          | none => s
          | some k =>
            let y := firstReach l k
            let t := tbD s (fnat x.f 1)
            let late := positionNs t (n - t.offset) y ((samplesOf t.format t.rate).getD 1) + 20000
            if y < hi ∧ late < rasterNs s t then missLine c i l n y s else s) s

/-- COMPOSED_ROW_WRITTEN (R306, R325, R327, R332, R338): the next CTU row of the frame in progress is written, after
the checks of the direct lines and of the Lantern tiles that start in it, and the row that goes out advances its
picture's row count, with its pyramid rows. -/
def execComposedRowWritten (comp : Nat) (r : RowIn) (s : State) : Ran :=
  ran s (match compOf s comp with
    | none => s
    | some x =>
      match x.cur with
      | none => s
      | some n =>
        let g := geoTb s (fnat x.f 1)
        let row := x.rows
        if g.rows ≤ row then s
        else
          let hi := 64 * g.pics * (g.inPic row + 1)
          let s := checkDirect comp n hi s
          let s := if g.picOf row = 0 then checkLines comp x n (64 * g.pics * row) hi s else s
          let x := (compOf s comp).getD x
          let (w, slots) := passRow s x g n row (composeRow s x g n row r)
          let s := modComp comp (fun x => { x with rows := row + 1, last := some w, slots := slots }) s
          setRows comp n (g.picOf row) (g.inPic row + 1) (rowLines x w)
            (setPyramids comp n (g.picOf row) w.quarter w.sixteenth (bump 0x6000C (lateLines x g row r) s)))

/-! ## Compositions as commands (R309, R316, R321, R326) -/

/-- L_max of R309. -/
def delayMax (s : State) (tb : Nat) : Nat :=
  let (num, den) := rateN (tbD s tb).rate
  ceilDiv (60 * num) den

/-- A Lantern item of the composition is enabled. -/
def itemsOn (x : Comp) : Bool := x.items.any fun (_, l) => match l with
  | some l => fnat l.f 1 = 1
  | none => false

/-- The state after 0x0601. -/
def composeState (c : Nat) (f : Fields) (s : State) : State :=
  let is := (ctxOf s c).st
  match compOf s c with
  | none =>
    let n := (countNow s (tbD s (fnat f 1))).toNat
    let x : Comp := { f := f, space := fnat f 3 }
    restoreItems c n { s with cup := { s.cup with comps := tset none s.cup.comps c (some x) } }
  | some x =>
    let y := { x with f := f, space := if is = .closed ∨ (ctxOf s c).decode then fnat f 3 else x.space }
    modComp c (fun _ => changeDelay x y) s

/-- 0x0601: configure a composition. -/
def opConfigureComposition : Op where
  opcode := 0x0601
  framed := true
  ctxOk := fun c _ => ctxId c
  target := fun c s => match compTarget c s with
    | some t => some t
    | none => some (c.params.getD 0 0).toNat
  needsTime := fun _ _ => true
  specs := fun _ s => [pFix 0 15, pSel [0, 1], pSel [0, 1, 2, 3], pNum 4 1019, pNum 4 1019, pNum 4 1019,
    fun f => { kind := .num 0 7200, cross := fun v => min v (delayMax s (fnat f 1)) }]
  post := fun c f s =>
    if (tbOf s (fnat f 1)).isNone then some .badState
    else
      let moves : Bool := match compOf s c.ctx with
        | some x => (fld x.f 1 ≠ fld f 1 || fld x.f 2 ≠ fld f 2) && ((ctxOf s c.ctx).st ≠ .closed || itemsOn x)
        | none => false
      if moves then some .badState else admitAfter (composeState c.ctx f s)
  apply := fun c f s => { s := composeState c.ctx f s }

/-- An SDI output names a composition (R363). -/
def sdiSends (s : State) (c : Nat) : Bool :=
  (List.range 16).any fun i =>
    let l := laneOf s (16 + i)
    fnat l.media 1 = 2 && fnat l.media 3 = c

/-- Audio flows bound to a composition that is gone are bound to none (R380). -/
def unbindComp (c : Nat) (s : State) : State :=
  let free (x : IFlow) : IFlow := { x with bind := x.bind.filter fun (d, _, _) => d ≠ c }
  { s with flows := { s.flows with ingress := tmap none s.flows.ingress fun _ x => x.map free } }

/-- 0x0602: delete a composition. -/
def opDeleteComposition : Op where
  opcode := 0x0602
  framed := true
  ctxOk := ctxIsComp
  target := compTarget
  needsTime := fun _ _ => true
  post := fun c _ s =>
    match compOf s c.ctx with
    | none => some .badState
    | some x =>
      if (ctxOf s c.ctx).st ≠ .closed ∨ itemsOn x ∨ sdiSends s c.ctx then some .badState else none
  apply := fun c _ s => { s := unbindComp c.ctx { s with cup := { s.cup with comps := tset none s.cup.comps c.ctx none } } }

/-- A committed asset of one of the kinds. -/
def assetIs (s : State) (i : Nat) (kinds : List Nat) : Bool :=
  match assetOf s i with
  | some a => a.committed && decide (a.kind ∈ kinds)
  | none => false

/-- The geometry of a source, or of the composition while a source's is not known; a field of an interlaced
one. -/
def sourceGeo (s : State) (id : Nat) (g : Geo) : Geo :=
  match sourceShape s id with
  | some (f, r) => geoOf f r
  | none => g

/-- A source may be direct (R312): no decode context, and the composition's rate and scanning. -/
def directOk (s : State) (id tb : Nat) : Bool :=
  decide (id < 0x2000) && match sourceShape s id with
    | some (f, r) => decide (r = (tbD s tb).rate) && (f == 2) == ((tbD s tb).format == 2)
    | none => false

/-- The fields of 0x0610. -/
def layerSpecs (c : Cmd) (s : State) : List (Fields → Spec) :=
  let g := compGeo c s
  let tb := (compTarget c s).getD 0
  let src (f : Fields) : Geo := sourceGeo s (fnat f 3) g
  let dim (v lo hi : Int) : Int := clip ((lo + 1) / 2 * 2) (hi / 2 * 2) v
  [pFix 0 3, pFlag, fun _ => { kind := .pred fun v => decide (0 ≤ v) && sourceIdOk v.toNat },
   fun f => { kind := .pred fun v => v = 0 ∨ (v = 1 ∧ directOk s (fnat f 3) tb) },
   fun f => { kind := .num 0 ((src f).w - 2) 2 }, fun f => { kind := .num 0 ((src f).ph - 2) 2 },
   fun f => { kind := .num 2 (src f).w 2, cross := fun v => min v ((src f).w - fld f 5) },
   fun f => { kind := .num 2 (src f).ph 2, cross := fun v => min v ((src f).ph - fld f 6) },
   pNum (-32768) 32766 2 true, pNum (-32768) 32766 2 true,
   pCross 2 32766 2 (fun f v => dim v (iceil (fld f 7) 16) (16 * fld f 7)),
   pCross 2 32766 2 (fun f v => dim v (iceil (fld f 8) 16) (16 * fld f 8)),
   pNum 0 1023, pSel [0, 1, 2, 3, 4], pSel [0, 1], pNum 0 1023, pNum 0 65535, pSel [0, 1, 2], pNum 0 1023]

/-- The ring of a source that a layer names: an SDI input's is set up for what is detected now, unless it is
in use. -/
def setupRing (id : Nat) (s : State) : State :=
  if id < 0x1000 ∨ 0x2000 ≤ id ∨ id ∈ ringSources s then s
  else
    let l := laneOf s (sdiLane id)
    let new : Option Source := if l.trs then some { format := l.format, rate := l.rate, count := 0, at' := s.tick } else none
    { s with cup := { s.cup with sources := tset none s.cup.sources id new } }

/-- The state after 0x0610. -/
def layerState' (c : Nat) (f : Fields) (s : State) : State :=
  let s := if fnat f 2 = 1 ∧ fnat f 4 = 0 then setupRing (fnat f 3) s else s
  let old := match compOf s c with
    | some x => tget none x.layers (fnat f 1)
    | none => none
  let new : VLayer := { f := f.drop 1 }
  let keep := match old with
    | some l => if fnat l.f 2 = fnat f 3 ∧ fnat l.f 3 = fnat f 4 then { l with f := f.drop 1 } else new
    | none => new
  setLayer c (fnat f 1) keep s

/-- 0x0610: configure a video layer. -/
def opConfigureVideoLayer : Op where
  opcode := 0x0610
  framed := true
  ctxOk := ctxIsComp
  target := compTarget
  needsTime := fun _ _ => true
  specs := layerSpecs
  post := fun c f s =>
    if !sourceOpen s (fnat f 3) then some .badState
    else if fnat f 15 = 1 ∧ !assetIs s (fnat f 16) [2] then some .badState
    else if fnat f 18 = 2 ∧ !assetIs s (fnat f 19) [0] then some .badState
    else admitAfter (layerState' c.ctx f s)
  apply := fun c f s => { s := layerState' c.ctx f s }

/-- The state after 0x0611; a sequence counts from the effect boundary. -/
def graphicState (c : Cmd) (f : Fields) (s : State) : State :=
  let n := (countNow s (tbD s ((compTarget c s).getD 0))).toNat
  let g : GLayer := { f := f.drop 1, start := n }
  modComp c.ctx (fun x => { x with graphics := tset none x.graphics (fnat f 1) (some g) }) s

/-- 0x0611: configure a graphic layer. -/
def opConfigureGraphicLayer : Op where
  opcode := 0x0611
  framed := true
  ctxOk := ctxIsComp
  target := compTarget
  needsTime := fun _ _ => true
  specs := fun _ _ => [pFix 0 3, pFlag, pFix 0 1023, pNum (-32768) 32766 2 true, pNum (-32768) 32766 2 true,
    pNum 0 1023, pSel [0, 1, 2, 3, 4], pNum 1 255, pSel [0, 1]]
  post := fun c f s =>
    if !assetIs s (fnat f 3) [0, 1] then some .badState else admitAfter (graphicState c f s)
  apply := fun c f s => { s := graphicState c f s }

/-- 0x0630: mastering metadata; display primaries, white point, maximum and minimum luminance, MaxCLL and
MaxFALL, in the order of the SEI syntax (PRESUMED, log entry 26). -/
def opSetMasteringMetadata : Op where
  opcode := 0x0630
  framed := true
  ctxOk := ctxIsComp
  target := compTarget
  needsTime := fun _ _ => true
  specs := fun _ _ => List.replicate 12 pAny
  apply := fun c f s => { s := modComp c.ctx (fun x => { x with mastering := f }) s }

/-- A video layer's word of R342. -/
def layerWord (x : Comp) (i : Nat) : Word :=
  match tget none x.layers i with
  | some l => natWord (fnat l.f 1 * 2 ^ 31 + l.state * 2 ^ 28 + min 0xFFFF l.run)
  | none => 0

/-- A Lantern item's word of R342. -/
def itemWord (s : State) (x : Comp) (i : Nat) : Word :=
  match tget none x.items i with
  | some l =>
    let bad := match imageOf s (fnat l.f 2) with
      | some m => m.damaged
      | none => false
    natWord (fnat l.f 1 * 2 ^ 31 + b2n bad * 2 ^ 30 + fnat l.f 9 * 2 ^ 29 + fnat l.f 2)
  | none => 0

/-- The address of the proxy in the slot of an input frame (R337, R342). -/
def proxyAddr (s : State) (c : Nat) (x : Comp) (slot : Option LineSlot) : List Word :=
  match slot with
  | none => [0, 0]
  | some q =>
    let g := geoTb s (fnat x.f 1)
    let a := Config.slotPlace c q.frame % dramBytes s + fSrc g.w g.h (fnat x.f 2) + fPyr g.w g.h
    [natWord a, natWord (a / 2 ^ 32)]

/-- 0x0640: read composition status. -/
def opReadCompositionStatus : Op where
  opcode := 0x0640
  reads := true
  ctxOk := fun c _ => ctxId c
  apply := fun c _ s =>
    match compOf s c.ctx with
    | none => { s := s, words := List.replicate 13 0 }
    | some x =>
      { s := s
        words := [natWord (2 ^ 24 + x.space * 2 ^ 20 + fnat x.f 2 * 2 ^ 19 + fnat x.f 7)] ++
          proxyAddr s c.ctx x (if fnat x.f 7 = 0 then none else x.slots.head?) ++
          proxyAddr s c.ctx x (if fnat x.f 7 = 0 then none else readSlot x) ++
          (List.range 4).map (layerWord x) ++ (List.range 4).map (itemWord s x) }

/-! ## Assets (R319, R320) -/

/-- An asset lies clear of others at an address. -/
def assetClear (s : State) (a n : Nat) : Bool :=
  decide (a + n ≤ dramBytes s - 4 * 2 ^ 30) && s.cup.assets.all fun (_, x) => match x with
    | some x => decide (a + n ≤ x.addr ∨ x.addr + x.size ≤ a)
    | none => true

/-- Where an asset is placed: a free value (log entry 35), or the end of another asset where that would
overlap one. -/
def placeAsset (n : Nat) (s : State) : Nat × State :=
  let (v, s) := draw s
  let a := v % (dramBytes s - 4 * 2 ^ 30)
  if assetClear s a n then (a, s)
  else
    let ends := 0 :: s.cup.assets.map fun (_, x) => match x with
      | some x => x.addr + x.size
      | none => 0
    ((ends.find? fun b => assetClear s b n).getD 0, s)

/-- A layer of any composition names asset `i`. -/
def assetUsed (s : State) (i : Nat) : Bool :=
  s.cup.comps.any fun (_, x) => match x with
    | none => false
    | some x =>
      x.layers.any (fun (_, l) => match l with
        | some l => (fnat l.f 14 = 1 && fnat l.f 15 = i) || (fnat l.f 17 = 2 && fnat l.f 18 = i)
        | none => false) ||
      x.graphics.any fun (_, l) => match l with
        | some l => fnat l.f 2 = i
        | none => false

/-- A pending command names asset `i`. -/
def assetPending (s : State) (i : Nat) : Bool :=
  s.cmd.pend.any fun p =>
    (p.opcode = 0x0610 && ((fnat p.f 15 = 1 && fnat p.f 16 = i) || (fnat p.f 18 = 2 && fnat p.f 19 = i))) ||
    (p.opcode = 0x0611 && fnat p.f 3 = i)

/-- The state with an asset set. -/
def setAsset (i : Nat) (a : Option Asset) (s : State) : State :=
  { s with cup := { s.cup with assets := tset none s.cup.assets i a } }

/-- 0x0620: define an asset (R320); an id that is defined must be freed before it is defined again (log entry 62). -/
def opDefineAsset : Op where
  opcode := 0x0620
  specs := fun _ _ => [pFix 0 1023, pSel [0, 1, 2], pNum 2 7680 2, pNum 2 4320 2, pNum 1 1024, pAny]
  once := fun _ f s => if (assetOf s (fnat f 1)).isSome then some .badState else none
  post := fun _ f s =>
    let a : Asset := { kind := fnat f 2, width := fnat f 3, height := fnat f 4, frames := fnat f 5, crc := 0
                       addr := 0, size := 0 }
    admitAfter (setAsset (fnat f 1) (some a) s)
  apply := fun _ f s =>
    let a : Asset := { kind := fnat f 2, width := fnat f 3, height := fnat f 4, frames := fnat f 5
                       crc := intWord (fld f 6), addr := 0, size := 0 }
    let n := assetBytes a
    let (p, s) := placeAsset n s
    { s := setAsset (fnat f 1) (some { a with addr := p, size := n }) s
      words := [natWord p, natWord (p / 2 ^ 32)] }

/-- 0x0621: write an asset chunk; fields id, byte offset and byte count, then the bytes (PRESUMED, log entry
26). -/
def opWriteAssetChunk : Op where
  opcode := 0x0621
  busy := fun _ f s => (heldUnit s 2 (fnat f 1)).isSome
  specs := fun _ _ => [pFix 0 1023, pAny, pFix 1 64000]
  extra := fun c n => decide (n = ceilDiv (c.params.getD 2 0).toNat 4)
  once := fun _ f s =>
    match assetOf s (fnat f 1) with
    | none => some .badState
    | some a =>
      if a.committed then some .badState
      else if a.size < fnat f 2 + fnat f 3 then some .refused else none
  apply := fun c f s =>
    match assetOf s (fnat f 1) with
    | none => { s := s }
    | some a => { s := memWrite (a.addr + fnat f 2) ((ofWords (c.params.drop 3)).take (fnat f 3)) s }

/-- 0x0622: commit an asset, on a check unit that the firmware holds meanwhile (R320, R439, R461). -/
def opCommitAsset : Op where
  opcode := 0x0622
  background := true
  specs := fun _ _ => [pFix 0 1023]
  once := fun _ f s => if (assetOf s (fnat f 1)).isNone then some .badState else none
  busy := fun _ f s => (freeUnit s).isNone || (heldUnit s 2 (fnat f 1)).isSome
  accept := fun _ f s => holdUnit 2 (fnat f 1) s
  apply := fun _ f s =>
    let i := fnat f 1
    match assetOf s i with
    | none => { s := s, status := some .refused }
    | some a =>
      let (ok, s) := firmwareCheck 2 i (memRead s a.addr a.size) a.crc s
      if ok then { s := setAsset i (some { a with committed := true }) s } else { s := s, status := some .refused }

/-- 0x0623: free an asset. -/
def opFreeAsset : Op where
  opcode := 0x0623
  busy := fun _ f s => (heldUnit s 2 (fnat f 1)).isSome
  specs := fun _ _ => [pFix 0 1023]
  once := fun _ f s =>
    if (assetOf s (fnat f 1)).isNone || assetUsed s (fnat f 1) || assetPending s (fnat f 1) then some .badState
    else none
  apply := fun _ f s => { s := setAsset (fnat f 1) none s }

/-! ## Registers (R343) -/

/-- CUP_STAT. -/
def cupStat (s : State) : Word :=
  let comps := (s.cup.comps.filter fun (_, x) => x.isSome).length
  let on := match s.dev.state with
    | .standby | .run | .degraded => true
    | _ => false
  let bad := s.cup.images.any fun (_, m) => match m with
    | some m => m.damaged
    | none => false
  natWord (comps * 2 ^ 16 + min 16 (scalersUsed s) * 2 ^ 11 + b2n bad * 2 + b2n on)

/-- CUP_ASSET_MIB. -/
def assetMib (s : State) : Word :=
  natWord (ceilDiv (s.cup.assets.map fun (_, a) => match a with
    | some a => a.size
    | none => 0).sum mib)

end Sys2Proof.Machine
end

