-- ==== Sys2Proof/Machine/Memory.lean ====
section
/-! DEFINITION. The memory subsystem (R404 to R437): the address map, BAR2, requests with their errors and
owners, row disturbance, refresh, training, set points and the failure ladder. -/

namespace Sys2Proof.Machine

/-! ## The address map (R404, R406, R407) -/

/-- The rank of an address: channel and subchannel, S of R406. -/
def rankOf (a : Nat) : Nat := bits a 11 8 ^^^ bits a 24 21

/-- The bank of an address: bank group times 4 plus bank. -/
def bankOf (a : Nat) : Nat := (bits a 20 18 ^^^ bits a 27 25) * 4 + (bits a 17 16 ^^^ bits a 29 28)

/-- The row of an address: A[36:21] or A[37:21], of which the bits above the installed size are 0. -/
def rowOf (a : Nat) : Nat := bits a 37 21

/-- The start of the reserved region: the top 4 GiB. -/
def reservedBase (s : State) : Nat := dramBytes s - 4 * 2 ^ 30

/-- An address lies in the Lantern store (R407). -/
def inLantern (s : State) (a : Nat) : Bool :=
  decide (reservedBase s + 1536 * mib ≤ a ∧ a < reservedBase s + 2048 * mib)

/-- The 64-byte bursts that `n` bytes from an address touch. -/
def burstsOf (a n : Nat) : List Nat := (List.range ((a % 64 + n + 63) / 64)).map fun i => a / 64 * 64 + 64 * i

/-- A store: bytes written, and every burst written whole is good again (R431). -/
def memStore (a : Nat) (l : List Byte) (s : State) : State :=
  let whole (b : Nat) : Bool := decide (a ≤ b ∧ b + 64 ≤ a + l.length)
  let s := memWrite a l s
  { s with mem := { s.mem with bad := s.mem.bad.filter fun b => !whole b } }

/-- The state with the memory subsystem changed. -/
def modMem (f : Mem → Mem) (s : State) : State := { s with mem := f s.mem }

/-- The state with channel `c` changed. -/
def modChan (c : Nat) (f : Chan8 → Chan8) (s : State) : State :=
  modMem (fun m => { m with chans := tmod {} m.chans c f }) s

/-- The state with bank `b` of rank `r` changed. -/
def modBank (r b : Nat) (f : Bank → Bank) (s : State) : State :=
  modMem (fun m => { m with banks := tmod {} m.banks (32 * r + b) f }) s

/-- Bank `b` of rank `r`. -/
def bankAt (s : State) (r b : Nat) : Bank := tget {} s.mem.banks (32 * r + b)

/-! ## BAR2 (R408) -/

/-- BAR2_WRITE (R408, R329): what falls in the reserved region is discarded, and counted once for each of the Lantern
store and the rest. -/
def execBar2Write (offset : Nat) (bytes : List Byte) (s : State) : Ran :=
  ran s (
    let a := s.mem.bar2 * 2 ^ 30 + offset
    if !barUp s || decide (2 ^ 32 < offset + bytes.length) then s
    else
      let k := reservedBase s - a
      let s := memStore a (bytes.take k) s
      let lost := (List.range (bytes.length - k)).map fun i => a + k + i
      let s := if lost.any (inLantern s) then raise 6 3 (bump 0x60014 1 s) else s
      if lost.any fun x => !inLantern s x then bump 0xA0020 1 s else s)

/-- A byte as BAR2 reads it: zero in the reserved region. -/
def bar2Byte (s : State) (a : Nat) : Byte := if a < reservedBase s then memByte s a else 0#8

/-- BAR2_READ (R408): the completion is poisoned when a burst it reads has failed (R432). -/
def execBar2Read (offset len : Nat) (s : State) : Ran :=
  ran s (
    let a := s.mem.bar2 * 2 ^ 30 + offset
    if !barUp s || decide (2 ^ 32 < offset + len) then s
    else
      let bad := (burstsOf a len).any fun b => b < reservedBase s && b ∈ s.mem.bad
      send (.bar2 offset ((List.range len).map fun i => bar2Byte s (a + i)) bad) s)

/-! ## Row disturbance (R418 to R421) -/

/-- The default latency target of a port (R412). -/
def targetDefault (p : Nat) : Nat :=
  if p < 16 then 2000
  else if p < 28 then 1000
  else match p with
    | 28 => 4000
    | 29 => 2000
    | 30 => 1000
    | 31 => 4000
    | 32 => 1000
    | _ => 8000

/-- A port's latency target in force. -/
def targetOf (s : State) (p : Nat) : Nat := (tget none s.mem.targets p).getD (targetDefault p)

/-- A Spire's port is forced to the highest urgency (R414). -/
def portForced (s : State) (p : Nat) : Bool := decide (p < 16) && (tget {} s.camp.spires p).forced

/-- A port that row-disturbance rules may throttle (R420). -/
def mayThrottle (s : State) (p : Nat) : Bool := decide (p < 16 ∨ p = 31 ∨ p = 33) && !portForced s p

/-- An RH_THROTTLE event (R421). -/
def rhEvent (port rank bank action row count : Nat) (s : State) : State :=
  emit 0x07E0 0xFFFF port ([BitVec.ofNat 8 (rank / 2), BitVec.ofNat 8 (rank % 2), BitVec.ofNat 8 bank,
    BitVec.ofNat 8 action] ++ leBytes 4 row ++ leBytes 2 (min 0xFFFF count) ++ leBytes 2 0) s

/-- Activations of a tracked row. -/
def RowTrack.count (r : RowTrack) : Nat := (r.ports.map (·.2)).sum

/-- The port that made most of a row's activations, the lowest-numbered of equals. -/
def RowTrack.top (r : RowTrack) : Nat :=
  (r.ports.foldl (fun (p, n) (q, m) => if n < m ∨ (n = m ∧ q < p) then (q, m) else (p, n)) (34, 0)).1

/-- One more activation of a row by a port. -/
def RowTrack.add (port : Nat) (r : RowTrack) : RowTrack :=
  { r with ports := if r.ports.any (·.1 = port) then
      r.ports.map fun (p, n) => if p = port then (p, n + 1) else (p, n)
    else r.ports ++ [(port, 1)] }

/-- The table of tracked rows after an activation: 32 entries, of which a row that is not among them takes
the place of one activated least (log entry 38). -/
def trackRow (port row : Nat) (l : List RowTrack) : List RowTrack :=
  if l.any (·.row = row) then l.map fun r => if r.row = row then r.add port else r
  else
    let new : RowTrack := { row := row, ports := [(port, 1)] }
    if l.length < 32 then l ++ [new]
    else
      let least := l.foldl (fun m r => min m r.count) (l.headD new).count
      let keep := l.takeWhile fun r => r.count ≠ least
      keep ++ l.drop (keep.length + 1) ++ [new]

/-- A throttle keeps a port from activating rows of a bank now (R420). -/
def throttled (s : State) (port rank bank : Nat) : Bool :=
  mayThrottle s port && s.mem.throttles.any fun t =>
    t.port = port && t.rank = rank && t.bank = bank &&
      decide (s.tick * 1000 < t.last * 1000 + fnat s.mem.rh 2 * 625)

/-- A refresh, or a refresh management command, on a bank: it closes the row, lowers the accumulated activations as
JEDEC lays down (PRESUMED, log entry 37) and holds the bank for 130 ns (R410). -/
def refreshBank (r b : Nat) (s : State) : State :=
  modBank r b (fun k => { k with
    row := none, hits := 0, raa := k.raa - Config.raaimt, used := s.tick, held := s.tick + 82 }) s

/-- A refresh management command (R418, R419). -/
def refreshManage (r b : Nat) (s : State) : State := bump 0xA0010 1 (refreshBank r b s)

/-- A row has reached the threshold: refresh management, and its top port throttled unless it is exempt. -/
def rowTrigger (r b : Nat) (t : RowTrack) (s : State) : State :=
  let port := t.top
  let s := raise 10 3 (bump 0xA0014 1 (refreshManage r b s))
  let mark (x : RowTrack) : RowTrack := if x.row = t.row then { x with fired := true } else x
  let s := modBank r b (fun k => { k with rows := k.rows.map mark }) s
  if mayThrottle s port then
    let rest := s.mem.throttles.filter fun x => !(x.port = port && x.rank = r && x.bank = b)
    let new : Throttle := { port := port, rank := r, bank := b, more := true, last := s.tick, row := t.row, count := t.count }
    rhEvent port r b 1 t.row t.count (modMem (fun m => { m with throttles := rest ++ [new] }) s)
  else rhEvent port r b 2 t.row t.count s

/-- A row activated by a port. -/
def activate (port r b row : Nat) (s : State) : State :=
  let s := modBank r b (fun k => { k with
    row := some row, hits := 0, raa := k.raa + 1, rows := trackRow port row k.rows }) s
  let upd (t : Throttle) : Throttle := if t.port = port ∧ t.rank = r ∧ t.bank = b then { t with last := s.tick } else t
  let s := modMem (fun m => { m with throttles := m.throttles.map upd }) s
  let s := if Config.raaimt ≤ (bankAt s r b).raa then refreshManage r b s else s
  match (bankAt s r b).rows.find? (·.row = row) with
  | some t => if !t.fired && decide (fnat s.mem.rh 1 ≤ t.count) then rowTrigger r b t s else s
  | none => s

/-- An access to a row of a bank (R409): a hit, counted while another request waits on the bank, or the row is
activated. -/
def touchBank (port r b row : Nat) (others : Bool) (s : State) : State :=
  let s := if (bankAt s r b).row = some row then
      modBank r b (fun k => { k with hits := if others then k.hits + 1 else 0 }) s
    else activate port r b row s
  let s := modBank r b (fun k => { k with used := s.tick }) s
  if fnat s.mem.policy 1 = 0 then modBank r b (fun k => { k with row := none, hits := 0 }) s else s

/-- RH_WINDOW_END (R419, R420, R421): the counts start anew, throttles of the window before end, and the next
window's threshold applies. -/
def execRhWindowEnd (s : State) : Ran :=
  ran s (
    let ended := s.mem.throttles.filter fun t => !t.more
    let s := ended.foldl (fun s t => rhEvent t.port t.rank t.bank 3 t.row t.count s) s
    modMem (fun m => { m with
      throttles := (m.throttles.filter (·.more)).map fun t => { t with more := false }
      banks := tmap {} m.banks fun _ k => { k with rows := [] }
      rh := fset m.rh 1 m.rhNext }) s)

/-! ## Errors and owners (R430 to R433, R437) -/

/-- The counter of corrected (0) or uncorrectable (4) bursts of a rank (R437, R491). -/
def rankCounter (r o : Nat) : Nat := 0xA1000 + 0x100 * (r / 2) + 4 + 8 * (r % 2) + o

/-- A corrected error in a rank (R430): counted in total and in the clock hour. -/
def correctedError (r : Nat) (s : State) : State :=
  let s := bump (rankCounter r 0) 1 s
  let hour := s.bel.clock.sec.toNat / 3600
  let s := if hour = s.mem.hour then s else modMem (fun m => { m with hour := hour, ceHour := [] }) s
  let s := modMem (fun m => { m with ceHour := tmod 0 m.ceHour r (· + 1) }) s
  if tget 0 s.mem.ceHour r = fnat s.mem.policy 4 then modChan (r / 2) (fun c => { c with ceRate := true }) s
  else s

/-- MEM_UE_INFO and the address latched, or one more failure since (R437). -/
def latchError (a owner port : Nat) (scrub : Bool) (s : State) : State :=
  modMem (fun m =>
    if m.ueValid then { m with ueMore := min 0xFF (m.ueMore + 1) }
    else { m with ueValid := true, ueScrub := scrub, ueOwner := owner, uePort := port, ueMore := 0, ueAddr := a }) s

/-- Counts of an ingress flow: word `i` of R402 advanced. -/
def flowCount (i w n : Nat) (s : State) : State :=
  let add (x : IFlow) : IFlow := { x with counts := x.counts.modify w fun k => min 0xFFFFFFFF (k + n) }
  { s with flows := { s.flows with ingress := tmod none s.flows.ingress i fun x => x.map add } }

/-- The effect of an uncorrectable burst on its owner (R432). `part` is, for the firmware region, 0 code that
reloads, 1 data, 2 code whose first reload mismatches, 3 code whose second one does too (R461), plus 4 times the
control core, of which 0 to 4 is known; for a Lantern tile its number twice, plus 1 in copy B; for a composed source the
CTU's address in the frame twice, plus 1 for a pyramid alone; for a search-cache read the buffer plus 16 times the
CTU's address in the picture. -/
def ownerEffect (owner object part port : Nat) (s : State) : State :=
  match owner with
  | 1 | 2 => spoilBuf object part s
  | 3 => sourceFailed object (part / 2) (part % 2 = 1) port s
  | 4 => fetchFailed object (part % 16) (part / 16) port (spoilBuf object (part % 16) s)
  | 5 => bump 0x6000C part s
  | 6 => modImage object (fun m =>
      if part % 2 = 0 then { m with badA := if part / 2 ∈ m.badA then m.badA else part / 2 :: m.badA }
      else { m with badB := if part / 2 ∈ m.badB then m.badB else part / 2 :: m.badB }) s
  | 7 => flowCount object 12 part s
  | 8 => flowCount object 3 1 s
  | 9 =>
    let hit (x : EFlow) : EFlow := match x.units with
      | [] => x
      | u :: t => { x with units := { u with failed := part :: u.failed } :: t }
    { s with flows := { s.flows with egress := tmod none s.flows.egress object fun x => x.map hit } }
  | 11 =>
    let core := if part / 4 ≤ 4 then part / 4 else 0xFF
    (match part % 4 with
      | 0 => s
      | 1 => internalEvent 3 core 0xFFFF 0 0 s
      | _ =>
        let n := (freeUnit s).getD 15
        let u : Chk := { poly := 1, client := 4, object := object, bytes := 4096 }
        let (e, s) := draw s
        let (c, s) := draw s
        let s := mismatch n u (natWord e) (natWord c) s
        if part % 4 = 2 then s
        else { s with keep := { s.keep with owedInternal := s.keep.owedInternal ++ [(4, core)] } })
  | _ => s

/-- An uncorrectable burst (R431): counted, latched and told to its owner; one that is known to have failed is
not counted again (R434). -/
def uncorrectable (a owner object part port : Nat) (scrub : Bool) (s : State) : State :=
  let b := a / 64 * 64
  let s := if b ∈ s.mem.bad then s
    else
      let s := modMem (fun m => { m with bad := b :: m.bad }) s
      latchError a owner port scrub (bump (rankCounter (rankOf a) 4) 1 s)
  ownerEffect owner object part (if scrub then 0xFF else port) s

/-- The burst of a request that fails: one found now, or one known to have failed. -/
def failedBurst (s : State) (q : MemReq) : Option Nat :=
  if q.failed then some q.addr
  else if q.write.isSome then none
  else (burstsOf q.addr q.len).find? fun b => decide (b ∈ s.mem.bad)

/-- The errors of a request: corrected and uncorrectable. -/
def requestErrors (q : MemReq) (scrub : Bool) (s : State) : State :=
  let s := if q.corrected then correctedError (rankOf q.addr) s else s
  match failedBurst s q with
  | some a => uncorrectable a q.owner q.object q.part (if scrub then 0xFF else q.port) scrub s
  | none => s

/-- A write of a request: one to the Lantern store from any port but the firmware's is discarded and counted
(R329). -/
def requestWrite (q : MemReq) (s : State) : State :=
  match q.write with
  | none => s
  | some l =>
    if inLantern s q.addr then
      if q.port = 32 then s else raise 6 3 (bump 0x60014 1 s)
    else memStore q.addr l s

/-- The DRAM is in use, though a switch may hold it (R426). -/
def memUp (s : State) : Bool :=
  match s.dev.state with
  | .off | .boot => false
  | _ => true

/-- The DRAM serves requests: it is in use, and not in a set-point switch (R426). -/
def memServes (s : State) : Bool := memUp s && decide (s.mem.engine ≠ .switch)

/-- The deadline of a request in ns after its arrival (R412). -/
def requestDue (s : State) (q : MemReq) : Nat :=
  match q.deadline with
  | some d => if q.port = 28 ∨ q.port = 30 then d else targetOf s q.port
  | none => targetOf s q.port

/-! ## The order of service (R413, R415) -/

/-- Subchannel `r`. -/
def subAt (s : State) (r : Nat) : Subch := tget {} s.mem.subs r

/-- The state with subchannel `r` changed. -/
def modSub (r : Nat) (f : Subch → Subch) (s : State) : State := modMem (fun m => { m with subs := tmod {} m.subs r f }) s

/-- The time left before a waiting request's deadline, in 0.01 ns. -/
def timeLeft (s : State) (w : Waiting) : Int :=
  (requestDue s w.req : Int) * 100 - (w.req.waited : Int) * 100 - ((s.tick - w.came) * 160 : Nat)

/-- The urgency of a waiting request (R413, R414). -/
def urgency (s : State) (w : Waiting) : Nat :=
  let t := (requestDue s w.req : Int) * 100
  let left := timeLeft s w
  if portForced s w.req.port ∨ left ≤ 0 then 3 else if left * 4 ≤ t then 2 else if left * 2 ≤ t then 1 else 0

/-- Two requests wait on one bank of their subchannel. -/
def sameBank (v w : Waiting) : Bool := decide (bankOf v.req.addr = bankOf w.req.addr)

/-- A throttle keeps a waiting request from activating its row. -/
def blocked (s : State) (r : Nat) (w : Waiting) : Bool :=
  let b := bankOf w.req.addr
  decide ((bankAt s r b).row ≠ some (rowOf w.req.addr)) && throttled s w.req.port r b

/-- The bank of a waiting request is ready for it. -/
def ready (s : State) (r : Nat) (w : Waiting) : Bool :=
  decide ((bankAt s r (bankOf w.req.addr)).held ≤ s.tick) && !blocked s r w

/-- A waiting request hits an open row that has served fewer than 16 consecutive hits while another waits on the
bank. -/
def goodHit (s : State) (r : Nat) (l : List Waiting) (w : Waiting) : Bool :=
  let k := bankAt s r (bankOf w.req.addr)
  decide (k.row = some (rowOf w.req.addr)) &&
    (decide (k.hits < 16) || decide ((l.filter fun v => sameBank v w).length ≤ 1))

/-- The requests of a subchannel that its queues hold: every read, and the first 64 writes, `n` of which are taken
already; a later write waits at its port. -/
def queued : Nat → List Waiting → List Waiting
  | _, [] => []
  | n, w :: t =>
    if w.req.write.isNone then w :: queued n t
    else if n < 64 then w :: queued (n + 1) t
    else queued n t

/-- The request served at one level: below 3 the oldest good hit, else the oldest. -/
def pickLevel (s : State) (r : Nat) (l : List Waiting) (level : Nat) : Option Waiting :=
  let cands := l.filter fun w => decide (urgency s w = level) && ready s r w
  (if level < 3 then cands.find? (goodHit s r l) else none).or cands.head?

/-- The oldest write to drain when 48 wait or no read does. -/
def pickDrain (s : State) (r : Nat) (l : List Waiting) : Option Waiting :=
  let writes := l.filter (·.req.write.isSome)
  if 48 ≤ writes.length ∨ writes.length = l.length then writes.find? (fun w => !blocked s r w) else none

/-- The request that a command slot of subchannel `r` serves (R415). -/
def pick (s : State) (r : Nat) : Option Waiting :=
  let l := queued 0 (subAt s r).queue
  ([3, 2, 1, 0].findSome? (pickLevel s r l)).or (pickDrain s r l)

/-- An urgency-3 request waits on a bank (R410). -/
def urgentOn (s : State) (r b : Nat) : Bool :=
  (subAt s r).queue.any fun w => decide (bankOf w.req.addr = b ∧ urgency s w = 3)

/-- A bank whose postponed refresh is overdue: no urgency-3 request waits on it any more. -/
def overdue (s : State) (r : Nat) : Option Nat :=
  (List.range 32).find? fun b => decide (0 < (bankAt s r b).postponed) && !urgentOn s r b

/-- The requests that have reached urgency 3 by deadline, each counted once. -/
def noteUrgent (r : Nat) (s : State) : State :=
  let late (w : Waiting) : Bool := !w.urgent && decide (timeLeft s w ≤ 0)
  let n := ((subAt s r).queue.filter late).length
  if n = 0 then s
  else bump 0xA0024 n (modSub r (fun q => { q with
    queue := q.queue.map fun w => if late w then { w with urgent := true } else w }) s)

/-- Rank `r` wakes from power-down (R411). -/
def wakeRank (r : Nat) (s : State) : State :=
  modChan (r / 2) (fun c => if r % 2 = 0 then { c with pd0 := false } else { c with pd1 := false }) s

/-- A waiting request served: its row is open, and its errors are handled with its access. -/
def serveRequest (r : Nat) (w : Waiting) (s : State) : State :=
  let q := w.req
  let others := decide (1 < ((subAt s r).queue.filter fun v => sameBank v w).length)
  let s := modSub r (fun x => { x with queue := x.queue.erase w, slots := x.slots + 1 }) s
  let s := touchBank q.port r (bankOf q.addr) (rowOf q.addr) others (wakeRank r s)
  requestErrors q false (requestWrite q s)

/-- One command slot of subchannel `r` (R415): an overdue refresh, else the request picked. -/
def commandSlot (r : Nat) (s : State) : State :=
  if !memServes s then s
  else
    let s := noteUrgent r s
    match overdue s r with
    | some b => modBank r b (fun k => { k with postponed := k.postponed - 1 }) (refreshBank r b s)
    | none => match pick s r with
      | some w => serveRequest r w s
      | none => s

/-- The bursts of a request: each 64-byte burst that it touches, with its part of the bytes written; the errors that
come with it are its first burst's. -/
def bursts (q : MemReq) : List MemReq :=
  let n := (q.write.map List.length).getD q.len
  ((burstsOf q.addr n).map fun b =>
    let a := max q.addr b
    let k := min (q.addr + n) (b + 64) - a
    { q with addr := a, len := k, write := q.write.map fun l => (l.drop (a - q.addr)).take k
             corrected := q.corrected && decide (a = q.addr), failed := q.failed && decide (a = q.addr) }).filter
    fun x => decide (0 < x.len)

/-- MEMORY_REQUEST (R415): the request's bursts wait at their subchannels, and each subchannel has as many command
slots as bursts came; further slots come with the ticks (log entry 92). -/
def execMemoryRequest (q : MemReq) (s : State) : Ran :=
  ran s (
    let l := bursts q
    if !memUp s || decide (34 ≤ q.port) || decide (dramBytes s < q.addr + (q.write.map List.length).getD q.len) then s
    else
      let s := l.foldl (fun s x => modSub (rankOf x.addr) (fun u => { u with
        queue := u.queue ++ [{ req := x, came := s.tick }] }) s) s
      l.foldl (fun s x => commandSlot (rankOf x.addr) s) s)

/-- The command slots of one tick: one for each subchannel at which something waits. -/
def slotsTick (s : State) : State :=
  if s.mem.subs.all fun (_, u) => u.queue.isEmpty then s
  else (List.range 16).foldl (fun s r => if (subAt s r).queue.isEmpty then s else commandSlot r s) s

/-! ## Patrol scrubbing (R433) -/

/-- The scrub period of a subchannel in ticks: field 3 of 0x0701 in hours, or 15 min where it is raised (R427). -/
def scrubPeriod (s : State) (r : Nat) : Nat :=
  625000000 * (if r / 2 ∈ s.mem.raised then 900 else 3600 * fnat s.mem.policy 3)

/-- The bursts of a subchannel. -/
def rankBursts (s : State) : Nat := dramBytes s / 1024

/-- A subchannel is more than 1 % behind its period. -/
def scrubBehind (s : State) (r : Nat) : Bool :=
  let u := subAt s r
  let p := scrubPeriod s r
  decide (rankBursts s * p < 100 * (rankBursts s * (s.tick - u.period)) - 100 * (u.scrubbed * p))

/-- An address in the firmware region, which is scrubbed every 10 s whatever the period (R407, R433). -/
def inFirmware (s : State) (a : Nat) : Bool := decide (reservedBase s ≤ a ∧ a < reservedBase s + 1536 * mib)

/-- A scrubbed burst noted: the period ends with the last one. -/
def noteScrub (a : Nat) (s : State) : State :=
  modSub (rankOf a) (fun u =>
    if inFirmware s a then { u with slots := 0 }
    else if rankBursts s ≤ u.scrubbed + 1 then { u with slots := 0, scrubbed := 0, period := s.tick }
    else { u with slots := 0, scrubbed := u.scrubbed + 1 }) s

/-- PATROL_SCRUB (R433): the read of one burst, in a slot that R415 leaves idle, or in one of every 256 while the
subchannel is behind. -/
def execPatrolScrub (q : MemReq) (s : State) : Ran :=
  ran s (
    let r := rankOf q.addr
    if !memServes s || decide (dramBytes s < q.addr / 64 * 64 + 64) then s
    else if (pick s r).isSome && !(scrubBehind s r && decide (255 ≤ (subAt s r).slots)) then s
    else
      let q := { q with addr := q.addr / 64 * 64, len := 64, write := none }
      noteScrub q.addr (requestErrors q true s))

/-! ## Refresh, pages and power-down (R409 to R411) -/

/-- REFRESH_DUE (R410): postponed while an urgency-3 request waits on the bank, by at most four intervals. -/
def execRefreshDue (rank group bank : Nat) (s : State) : Ran :=
  let b := 4 * group + bank
  ran s (if !memServes s || decide (16 ≤ rank ∨ 8 ≤ group ∨ 4 ≤ bank) then s
    else if urgentOn s rank b && decide ((bankAt s rank b).postponed < 4) then
      modBank rank b (fun k => { k with postponed := k.postponed + 1 }) s
    else refreshBank rank b s)

/-- Controller clocks of the set point in effect have passed since tick `t` (R405). -/
def clocksSince (s : State) (t n : Nat) : Bool :=
  decide (n * (if s.mem.setpoint = 0 then 100 else 125) ≤ (s.tick - t) * 160)

/-- PAGE_IDLE_CLOSE (R409): the bank's idle timer has expired. -/
def execPageIdleClose (rank bank : Nat) (s : State) : Ran :=
  ran s (if rank < 16 ∧ bank < 32 ∧ clocksSince s (bankAt s rank bank).used (fnat s.mem.policy 1) = true then
    modBank rank bank (fun k => { k with row := none, hits := 0, used := if k.row.isSome then s.tick else k.used }) s
  else s)

/-- Rank `r` has no request pending, every bank closed, and its timer has expired (R411). -/
def rankIdle (s : State) (r : Nat) : Bool :=
  (subAt s r).queue.isEmpty && (List.range 32).all fun b =>
    let k := bankAt s r b
    k.row.isNone && clocksSince s k.used (fnat s.mem.policy 2)

/-- POWER_DOWN_ENTRY (R411): a request that arrives in the same clock prevents it. -/
def execPowerDownEntry (rank : Nat) (arrival : Bool) (s : State) : Ran :=
  ran s (
    if arrival || !rankIdle s rank || decide (fnat s.mem.policy 2 = 0 ∨ 16 ≤ rank) || !memServes s then s
    else modChan (rank / 2) (fun c => if rank % 2 = 0 then { c with pd0 := true } else { c with pd1 := true }) s)

/-! ## Training, set points and the ladder (R422 to R429) -/

/-- A Spire's port is forced (R426). -/
def anyForced (s : State) : Bool := s.camp.spires.any fun (_, p) => p.forced

/-- The set point that opcode 0x0704's selector and the profile ask for (R18, R425). -/
def wantedSetpoint (s : State) : Nat :=
  match s.mem.selector with
  | 1 => 0
  | 2 => 1
  | _ => if s.watch.profile = 2 then 1 else 0

/-- A request for a set point (R424): a later one replaces an earlier one, and one for the set point in
effect asks for nothing. -/
def askSetpoint (d : Nat) (s : State) : State :=
  modMem (fun m =>
    if m.engine = .switch ∨ m.engine = .check then { m with request := some d }
    else { m with request := if d = m.setpoint then none else some d }) s

/-- The engine back in IDLE: a request for the set point now in effect has no effect. -/
def engineIdle (s : State) : State :=
  modMem (fun m => { m with engine := .idle, request := if m.request = some m.setpoint then none else m.request }) s

/-- Raised scrubbing of a channel (R427). -/
def raiseScrub (c : Nat) (s : State) : State :=
  modMem (fun m => { m with raised := if c ∈ m.raised then m.raised else m.raised ++ [c] }) s

/-- Step 1 of the ladder for a channel that finds no working setting (R427): step 2 follows at once, unless
another ladder runs or the ladder holds the set point. -/
def startLadder (c sub : Nat) (margin : Int) (s : State) : State :=
  if c ∈ s.mem.degraded then s
  else
    let s := modMem (fun m => { m with degraded := m.degraded ++ [c] }) s
    let s := modChan c (fun x => { x with step := 1 }) s
    let s := raise 10 2 (trainEvent c 1 s.mem.setpoint sub 1 margin s)
    if s.mem.ladder.isSome || s.mem.ladderHold then raiseScrub c s
    else askSetpoint (1 - s.mem.setpoint) (modMem (fun m => { m with ladder := some c }) s)

/-- Every channel of a mask starts its ladder. -/
def startLadders (failed sub : Nat) (margin : Int) (s : State) : State :=
  (List.range 8).foldl (fun s c => if bit failed c then startLadder c sub margin s else s) s

/-- TRAINING_PASS_START (R422, R423): a periodic or temperature-triggered pass. -/
def execTrainingPassStart (channel : Nat) (thermal : Bool) (s : State) : Ran :=
  ran s (if memServes s ∧ channel < 8 ∧ s.mem.engine = .idle ∧ channel ∉ s.mem.degraded ∧
      (thermal ∨ s.dev.state ≠ .train) then
    modChan channel (fun c => { c with gather := true }) (modMem (fun m => { m with engine := .gather }) s)
  else s)

/-- A channel's pass or training committed now at the set point in effect. -/
def committed (setpoint tick : Nat) (c : Chan8) : Chan8 :=
  let c := { c with passTick := tick, gather := false }
  if setpoint = 0 then { c with ageHigh := tick } else { c with ageLow := tick }

/-- TRAINING_PASS_COMMIT (R423). -/
def execTrainingPassCommit (channel : Nat) (s : State) : Ran :=
  ran s (if s.mem.engine = .gather ∧ (tget {} s.mem.chans channel).gather then
    engineIdle (modChan channel (committed s.mem.setpoint s.tick) s)
  else s)

/-- TRAIN_FAIL (R423, R427, R434): the pass in GATHER finds no working setting; the ladder replaces a pending
request. -/
def execTrainFail (channel sub : Nat) (margin : Int) (s : State) : Ran :=
  ran s (if s.mem.engine = .gather ∧ (tget {} s.mem.chans channel).gather then
    startLadder channel sub margin (engineIdle (modChan channel (fun c => { c with gather := false }) s))
  else s)

/-- SETPOINT_SWITCH_START (R426): a request for the other set point, at an instant when no Spire's port is
forced. -/
def execSetpointSwitchStart (s : State) : Ran :=
  ran s (if s.mem.engine = .idle ∧ s.mem.request = some (1 - s.mem.setpoint) ∧ !anyForced s then
    modMem (fun m => { m with engine := .switch, request := none }) s
  else s)

/-- SETPOINT_SWITCH_COMPLETE (R423). -/
def execSetpointSwitchComplete (s : State) : Ran :=
  ran s (if s.mem.engine = .switch then
    bump 0xA0018 1 (modMem (fun m => { m with engine := .check, setpoint := 1 - m.setpoint }) s)
  else s)

/-- The outcome of step 2 of a ladder (R427): the memory stays at the other set point, held; or step 3, a
switch back that is held, with the channel's ranks scrubbed more often. -/
def ladderOutcome (c sub : Nat) (failed : Bool) (margin : Int) (s : State) : State :=
  let was := 1 - s.mem.setpoint
  let s := modMem (fun m => { m with ladder := none, ladderHold := true }) s
  if !failed then
    raise 10 2 (trainEvent c 2 was sub 2 margin (modChan c (fun x => { x with step := 2 }) s))
  else
    let s := raise 10 2 (trainEvent c 2 was sub 3 margin s)
    let s := raiseScrub c (modChan c (fun x => { x with step := 3 }) s)
    askSetpoint was (raise 10 2 (trainEvent c 3 was sub 1 margin s))

/-- SETPOINT_CHECK_COMPLETE (R423, R427): every channel's stored set has been checked; `failed` is a mask of
the channels that failed. -/
def execSetpointCheckComplete (failed sub : Nat) (margin : Int) (s : State) : Ran :=
  ran s (if s.mem.engine ≠ .check then s
    else
      let s := engineIdle s
      match s.mem.ladder with
      | some c =>
        startLadders failed sub margin (ladderOutcome c sub (bit failed c) margin s)
      | none => startLadders failed sub margin s)

/-- The training sets of every channel after initial training or a check pass (R116, R422). -/
def noteTraining (s : State) : State :=
  (List.range 8).foldl (fun s c =>
    modChan c (fun x => { x with passTick := s.tick, ageHigh := s.tick, ageLow := s.tick }) s) s

/-! ## Commands (R435) -/

/-- 0x0701: memory policy. -/
def opMemoryPolicy : Op where
  opcode := 0x0701
  specs := fun _ _ => [pNum 0 1023, pNum 0 65535, pNum 1 168, pNum 1 65535]
  apply := fun _ f s => { s := modMem (fun m => { m with policy := f }) s }

/-- A DRAM port's engine is present (R5, R412): the HZ4840-128 has no Spire 8 to 15 and no Dome 6 to 11. -/
def portPresent (s : State) (p : Nat) : Bool :=
  if p < 16 then decide (p < spireCount s) else if p < 28 then decide (p - 16 < domeCount s) else true

/-- 0x0702: a port's latency target. -/
def opPortLatencyTarget : Op where
  opcode := 0x0702
  specs := fun _ _ => [pNum 0 33, pNum 100 65535]
  post := fun _ f s => if portPresent s (fnat f 1) then none else some .noResource
  apply := fun _ f s => { s := modMem (fun m => { m with targets := tset none m.targets (fnat f 1) (some (fnat f 2)) }) s }

/-- 0x0703: row disturbance; the threshold applies from the next window. -/
def opRowDisturbanceSettings : Op where
  opcode := 0x0703
  specs := fun _ _ => [pNum 500 32767, pNum 100 100000]
  apply := fun _ f s => { s := modMem (fun m => { m with rhNext := fld f 1, rh := fset m.rh 2 (fld f 2) }) s }

/-- 0x0704: set point (R424, R425). -/
def opSetPoint : Op where
  opcode := 0x0704
  specs := fun _ _ => [pSel [0, 1, 2]]
  once := fun _ f s => if s.mem.ladderHold ∧ fld f 1 ≠ 0 then some .badState else none
  busy := fun _ _ s => s.mem.ladder.isSome
  apply := fun _ f s =>
    let s := modMem (fun m => { m with selector := fnat f 1 }) s
    if s.mem.ladderHold then { s := s }
    else
      let d := wantedSetpoint s
      let wait := decide (s.mem.engine = .gather ∧ d ≠ s.mem.setpoint)
      let s := askSetpoint d s
      if wait then { s := bump 0xA001C 1 s, status := some .deferred } else { s := s }

/-- 0x0705: retrain a channel (R429); its failure is what BACKGROUND_COMMAND_COMPLETE carries. -/
def opRetrainChannel : Op where
  opcode := 0x0705
  background := true
  specs := fun _ _ => [pNum 0 7]
  busy := fun _ _ s => s.cmd.jobs.any fun j => j.opcode = 0x0705
  apply := fun _ f s =>
    let c := fnat f 1
    let sp := s.mem.setpoint
    let s := modMem (fun m => { m with degraded := m.degraded.filter (· ≠ c), raised := m.raised.filter (· ≠ c) }) s
    let s := modChan c (fun x => { x with step := 0, passTick := s.tick, ageHigh := s.tick, ageLow := s.tick }) s
    let s := trainEvent c 4 sp 0 4 0 s
    if s.mem.degraded = [] then
      let d := wantedSetpoint s
      let s := modMem (fun m => { m with ladderHold := false, setpoint := d, request := none }) s
      { s := bump 0xA0018 (if d = sp then 2 else 1) s }
    else { s := bump 0xA0018 2 s }

/-- 0x0706: the BAR2 aperture. -/
def opBar2Aperture : Op where
  opcode := 0x0706
  specs := fun _ s => [pNum 0 (dramBytes s / 2 ^ 30 - 4 : Nat)]
  apply := fun _ f s => { s := modMem (fun m => { m with bar2 := fnat f 1 }) s }

/-! ## Registers (R436, R437) -/

/-- A mask of channels. -/
def chanMask (l : List Nat) : Nat := ((List.range 8).map fun c => if c ∈ l then 2 ^ c else 0).sum

/-- The engine state's code. -/
def engineCode : Engine → Nat
  | .idle => 0
  | .gather => 1
  | .switch => 2
  | .check => 3

/-- MEM_STAT. -/
def memStat (s : State) : Word :=
  let m := s.mem
  let hold := decide (m.engine = .idle) && m.request.isSome && anyForced s
  natWord (m.setpoint * 2 ^ 30 + b2n m.ladderHold * 2 ^ 29 + b2n (m.selector ≠ 0) * 2 ^ 28 +
    engineCode m.engine * 2 ^ 25 + b2n m.request.isSome * 2 ^ 24 + b2n hold * 2 ^ 23 +
    chanMask m.degraded * 2 ^ 8 + chanMask m.raised)

/-- MEM_CHc_STAT. -/
def chanStat (s : State) (c : Nat) : Word :=
  let x := tget {} s.mem.chans c
  natWord (x.step * 2 ^ 24 + min 0xFFFF ((s.tick - x.passTick) / 6250000) * 2 ^ 8 + b2n x.pd1 * 8 +
    b2n x.pd0 * 4 + b2n x.ceRate * 2 + b2n x.gather)

/-- MEM_UE_INFO. -/
def ueInfo (s : State) : Word :=
  let m := s.mem
  natWord (b2n m.ueValid * 2 ^ 31 + b2n m.ueScrub * 2 ^ 30 + m.ueOwner * 2 ^ 16 + m.uePort * 2 ^ 8 + m.ueMore)

/-- 0x0710: read memory status. -/
def opReadMemoryStatus : Op where
  opcode := 0x0710
  reads := true
  apply := fun _ _ s =>
    let ms (t : Nat) : Word := natWord ((s.tick - t) / 625000)
    { s := s
      words := [memStat s] ++ (List.range 8).map (chanStat s) ++
        ((List.range 8).flatMap fun c =>
          let x := tget {} s.mem.chans c
          [ms x.ageHigh, ms x.ageLow]) ++ [ueInfo s, natWord s.mem.ueAddr, natWord (s.mem.ueAddr / 2 ^ 32)] }

/-! ## The operating profile (R19 to R21, R424) -/

/-- 0x0901: the operating profile; refused when the open contexts cost more than its budget. -/
def opOperatingProfile : Op where
  opcode := 0x0901
  framed := true
  specs := fun _ _ => [pSel [0, 1, 2]]
  post := fun _ f s => if fits (lumaK s) (profileBudget s (fnat f 1)) then none else some .noResource
  apply := fun _ f s =>
    let s := enterProfile (fnat f 1) s
    if s.mem.selector = 0 ∧ !s.mem.ladderHold ∧ s.mem.ladder.isNone then
      let d := wantedSetpoint s
      let wait := decide (s.mem.engine = .gather ∧ d ≠ s.mem.setpoint)
      let s := askSetpoint d s
      { s := if wait then bump 0xA001C 1 s else s }
    else { s := s }

end Sys2Proof.Machine
end

