-- ==== Sys2Proof/Machine/Dma.lean ====
section
/-! DEFINITION. The DMA engine (R438 to R455): element lists, runs, the reshuffling modes, triggers and
their ends, pauses and domains; and the host's use of the check units (R457 to R460). A run's bytes move
at the row that ends it (log entry 40). -/

namespace Sys2Proof.Machine

/-! ## Channels -/

/-- Channel `c`. -/
def dmaOf (s : State) (c : Nat) : DmaChan := tget {} s.dma.chans c

/-- The state with channel `c` set. -/
def setDma (c : Nat) (x : DmaChan) (s : State) : State :=
  { s with dma := { s.dma with chans := tset {} s.dma.chans c x } }

/-- The list's base address. -/
def listBase (x : DmaChan) : Nat := fnat x.f 5 + fnat x.f 6 * 2 ^ 32

/-- An element of a list (R440). -/
structure Elem where
  addr  : Nat
  len   : Nat
  space : Nat
  dest  : Bool
  deriving DecidableEq, Repr

/-- Element `i` of a channel's list. -/
def elemAt (s : State) (x : DmaChan) (i : Nat) : Elem :=
  let l := memRead s (listBase x + 16 * i) 16
  { addr := ofLe (l.take 8), len := ofLe (slice l 8 4), space := (l.getD 12 0).toNat
    dest := bit (l.getD 13 0).toNat 0 }

/-- The indexes of a list from `i` on. -/
def indexesFrom (x : DmaChan) (i : Nat) : List Nat := (List.range (fnat x.f 7 - i)).map (· + i)

/-- The indexes of a run's source elements: the next n, or those that are left (R442). -/
def runSources (s : State) (x : DmaChan) : List Nat :=
  ((indexesFrom x x.elem).filter fun i => !(elemAt s x i).dest).take (fnat x.f 8)

/-- An element names a FIFO of a media tile: FIFO n serves media lane n (PRESUMED, log entry 41). -/
def elemTile (e : Elem) : Option Nat := if e.space = 3 then some (2 + e.addr / 8) else none

/-- A media tile is powered: a lane of it is on (R344), and it is not closing (R451). -/
def tileUp (s : State) (t : Nat) : Bool :=
  ((List.range 8).any fun m => fnat (tget {} s.lanes.lanes (16 + 8 * (t - 2) + m)).media 1 ≠ 0) &&
    !s.lanes.closing.any fun (u, _, _) => u = t

/-- A channel's check unit is `n`. -/
def attached (x : DmaChan) (n : Nat) : Bool := decide (x.f ≠ [] ∧ fnat x.f 14 = n)

/-- Unit `n` is open for a channel (R441). -/
def unitOpenFor (s : State) (x : DmaChan) (n : Nat) : Bool :=
  decide (n < 16) && (chkOf s n).opened && decide ((chkOf s n).holder = x.holder)

/-- An element has a fault of R441 by itself. -/
def elemBad (s : State) (x : DmaChan) (e : Elem) : Bool :=
  decide (e.len = 0 ∨ 16777216 < e.len ∨ 3 < e.space) ||
    (e.space = 3 && x.holder = .host) ||
    (e.space = 2 && !unitOpenFor s x e.addr) ||
    (e.space = 0 && decide ((if x.holder = .host then reservedBase s else dramBytes s) < e.addr + e.len))

/-- The elements that a run reaches, as far as they can be told before it moves a byte: its sources and the
destinations from the one in progress on, as long as they hold fewer bytes than the sources. -/
def runElems (s : State) (x : DmaChan) : List Elem :=
  let src := (runSources s x).map (elemAt s x)
  let n := (src.map (·.len)).sum * 4
  let dst := ((indexesFrom x x.dest).map (elemAt s x)).filter (·.dest)
  src ++ (dst.foldl (fun (l, m) e => if m ≤ n then (l ++ [e], m + e.len) else (l, m)) ([], 0)).1

/-- The domain that keeps a run from going on: host memory (4) or a media tile (R451, R454). -/
def downDomain (s : State) (x : DmaChan) : Option Nat :=
  let l := runElems s x
  if l.any (·.space = 1) && !s.pins.hostUp then some 4
  else l.findSome? fun e => (elemTile e).filter fun t => !tileUp s t

/-- A run begins, or goes on after a pause: it waits in PAUSED while one of its domains is down. -/
def startRun (c : Nat) (s : State) : State :=
  let x := dmaOf s c
  let d := downDomain s x
  let st : ChanState := if x.paused || d.isSome then .paused else .running
  setDma c { x with state := st, domain := d, inRun := true, hostRun := (runElems s x).any (·.space = 1) } s

/-! ## Triggers (R444, R445) -/

/-- A trigger dropped: a raster unit's under R156, another one in DMA_TRIG_MISSED. -/
def dropTrigger (unit : Option Nat) (s : State) : State :=
  match unit with
  | some u => raise 2 4 (bump 0x20200 1 { s with bel := { s.bel with lastMiss := u } })
  | none => bump 0xB0008 1 s

/-- A trigger of a channel's own kind (R445), from the given raster event unit if from one. -/
def triggerChan (c : Nat) (unit : Option Nat) (s : State) : State :=
  let x := dmaOf s c
  match x.state with
  | .waiting => startRun c s
  | .running | .paused => if x.trig then dropTrigger unit s else setDma c { x with trig := true } s
  | _ => s

/-- The raster event unit with action DMA start whose target is the channel (R155). -/
def rasterUnit (s : State) (c : Nat) : Option Nat :=
  (List.range 256).find? fun i =>
    let u := unitOf s i
    u.holder ≠ .free && fnat u.f 9 = 1 && fnat u.f 10 = c

/-- DMA_TRIGGER (R444): a trigger of a kind reaches a channel. -/
def execDmaTrigger (c kind : Nat) (s : State) : Ran :=
  ran s (
    let x := dmaOf s c
    if x.f = [] ∨ fnat x.f 2 ≠ kind ∨ 3 < kind then s
    else triggerChan c (if kind = 1 then some ((rasterUnit s c).getD s.bel.lastMiss) else none) s)

/-- DMA_TIMER_EXPIRY (R444): the period has passed since the command or the last expiry. -/
def execDmaTimerExpiry (c : Nat) (s : State) : Ran :=
  ran s (
    let x := dmaOf s c
    if x.f = [] ∨ fnat x.f 2 ≠ 2 ∨ 8 * s.tick < x.timer + fnat x.f 3 * 5 then s
    else triggerChan c none (setDma c { x with timer := x.timer + fnat x.f 3 * 5 } s))

/-! ## The reshuffling modes (R447 to R450) -/

/-- Pieces of `n` bytes of a list, as many as `k`. -/
def pieces (n : Nat) (l : List Byte) : Nat → List (List Byte)
  | 0 => []
  | k + 1 => l.take n :: pieces n (l.drop n) k

/-- Bytes of a sample of a width selector: 16, 24 or 32 bits in modes 1 and 2. -/
def widthBytes (sel : Nat) : Nat := if sel = 0 then 2 else if sel = 1 then 3 else 4

/-- Bits of a sample of a width selector in mode 5. -/
def widthBits302 (sel : Nat) : Nat := if sel = 0 then 16 else if sel = 1 then 20 else 24

/-- Bytes of a line's Y and of each of its chroma runs. -/
def planeBytes (w : Nat) : Nat × Nat := (5 * ceilDiv w 4, 5 * ceilDiv w 8)

/-- A mode's input unit in bytes. -/
def unitBytes (mode count width block : Nat) : Nat :=
  match mode with
  | 1 => block * count * widthBytes width
  | 2 | 5 => count * block * 4
  | 3 => 5 * count / 2
  | 4 => (planeBytes count).1 + 2 * (planeBytes count).2
  | _ => 1

/-- Mode 1: interleaved big-endian samples to planar left-justified little-endian words (R448). -/
def toPlanar (count n block : Nat) (l : List Byte) : List Byte :=
  let samples := pieces n l (block * count)
  (List.range count).flatMap fun c => (List.range block).flatMap fun j =>
    List.replicate (4 - n) 0#8 ++ (samples.getD (j * count + c) []).reverse

/-- Mode 2: the upper bits of each planar word, interleaved and big-endian (R448). -/
def toInterleaved (count n block : Nat) (l : List Byte) : List Byte :=
  let words := pieces 4 l (block * count)
  (List.range block).flatMap fun j => (List.range count).flatMap fun c =>
    ((words.getD (c * block + j) []).drop (4 - n)).reverse

/-- A pgroup's four 10-bit samples: Cb, Y0, Cr, Y1, most significant bit first (R449). -/
def pgroup (l : List Byte) : Nat × Nat × Nat × Nat :=
  let v := ofLe l.reverse
  (bits v 39 30, bits v 29 20, bits v 19 10, bits v 9 0)

/-- A line of samples in words of four, each word 5 little-endian bytes (R224, R449). -/
def packLine (samples : List Nat) : List Byte := (lineWords false samples).flatMap fun w => leBytes 5 w.toNat

/-- Samples of a packed line. -/
def unpackLine (n : Nat) (l : List Byte) : List Nat :=
  wordSamples n ((pieces 5 l (ceilDiv n 4)).map fun w => BitVec.ofNat 40 (ofLe w))

/-- Mode 3: pgroups to planes (R449). -/
def toPlanes (w : Nat) (l : List Byte) : List Byte :=
  let g := (pieces 5 l (w / 2)).map pgroup
  packLine (g.flatMap fun (_, y0, _, y1) => [y0, y1]) ++ packLine (g.map fun (cb, _, _, _) => cb) ++
    packLine (g.map fun (_, _, cr, _) => cr)

/-- Mode 4: planes to pgroups, padding discarded (R449). -/
def toPgroups (w : Nat) (l : List Byte) : List Byte :=
  let (ny, nc) := planeBytes w
  let y := unpackLine w (l.take ny)
  let cb := unpackLine (w / 2) (slice l ny nc)
  let cr := unpackLine (w / 2) (slice l (ny + nc) nc)
  (List.range (w / 2)).flatMap fun i =>
    beBytes 5 (cb.getD i 0 * 2 ^ 30 + y.getD (2 * i) 0 * 2 ^ 20 + cr.getD i 0 * 2 ^ 10 + y.getD (2 * i + 1) 0)

/-- The low `n` bits of a number, least significant first. -/
def lowBits (v : Nat) : Nat → List Bool
  | 0 => []
  | n + 1 => (v % 2 = 1) :: lowBits (v / 2) n

/-- Bytes of bits, the first bit of each byte its most significant one. -/
def bitBytes (l : List Bool) : Nat → List Byte
  | 0 => []
  | n + 1 => BitVec.ofNat 8 ((l.take 8).foldl (fun v b => 2 * v + b2n b) 0) :: bitBytes (l.drop 8) n

/-- Mode 5: planar samples to ST 302M sample data (R450): in each pair the samples least significant bit
first, V, U and C 0, F on the first sample frame of a 192-frame block, `phase` the block position of the
unit's first frame. -/
def to302 (count bitsN block phase : Nat) (l : List Byte) : List Byte :=
  let words := pieces 4 l (block * count)
  let sample (c j : Nat) : Nat := ofLe (words.getD (c * block + j) []) / 2 ^ (32 - bitsN)
  (List.range block).flatMap fun j => (List.range (count / 2)).flatMap fun p =>
    bitBytes (lowBits (sample (2 * p) j) bitsN ++ [false, false, false, (phase + j) % 192 = 0] ++
      lowBits (sample (2 * p + 1) j) bitsN ++ [false, false, false, false]) ((2 * bitsN + 8) / 8)

/-- The output of one unit of a mode. -/
def reshuffle (mode count width block phase : Nat) (l : List Byte) : List Byte :=
  match mode with
  | 1 => toPlanar count (widthBytes width) block l
  | 2 => toInterleaved count (widthBytes width) block l
  | 3 => toPlanes count l
  | 4 => toPgroups count l
  | 5 => to302 count (widthBits302 width) block phase l
  | _ => l

/-- The output of the whole units of a stream. -/
def reshuffleAll (mode count width block phase : Nat) (l : List Byte) : List Byte :=
  if mode = 0 then l
  else
    let u := unitBytes mode count width block
    let n := l.length / u
    (((pieces u l n).zip (List.range n)).flatMap fun (p, k) =>
      reshuffle mode count width block (phase + k * block) p)

/-! ## A run (R441, R442, R446) -/

/-- What the gathering of a run's source elements has given: its bytes, the bytes of host memory and FIFOs
still to come, the element it stands at, failed bursts, and the error that stops it. -/
structure Gather where
  bytes : List Byte := []
  host  : List Byte
  stop  : Option Nat := none
  bad   : Nat := 0
  err   : Nat := 0

/-- The bytes of module DRAM with those of failed bursts zero, and how many bursts failed. -/
def readElem (s : State) (a n : Nat) : List Byte × Nat :=
  ((List.range n).map fun i => if (a + i) / 64 * 64 ∈ s.mem.bad then 0#8 else memByte s (a + i),
    ((burstsOf a n).filter (· ∈ s.mem.bad)).length)

/-- An element of the list cannot be read (LIST_ECC). -/
def listFails (s : State) (x : DmaChan) (q : DmaIn) (i : Nat) : Bool :=
  decide (q.badList = some i ∨ (listBase x + 16 * i) / 64 * 64 ∈ s.mem.bad)

/-- One source element gathered. -/
def gatherElem (s : State) (x : DmaChan) (q : DmaIn) (g : Gather) (i : Nat) : Gather :=
  if g.err ≠ 0 then g
  else if listFails s x q i then { g with err := 2, stop := some i }
  else
    let e := elemAt s x i
    if elemBad s x e then { g with err := 1, stop := some i }
    else if e.space = 0 then
      let (l, n) := readElem s e.addr e.len
      { g with bytes := g.bytes ++ l, bad := g.bad + n }
    else
      let l := g.host.take e.len
      { g with bytes := g.bytes ++ l ++ List.replicate (e.len - l.length) 0#8, host := g.host.drop e.len }

/-- The stream with the failed 64-byte bursts that the row names replaced by zeros. -/
def zeroBursts (bad : List Nat) (l : List Byte) : List Byte :=
  if bad = [] then l else (l.zip (List.range l.length)).map fun (b, i) => if i / 64 ∈ bad then 0#8 else b

/-- A unit fed by a channel: a unit on selector 4 takes the bytes in pairs (R457). -/
def feedStream (l : List Byte) (u : Chk) : Chk :=
  let u := drainAll u
  if u.poly = 4 then (pieces 2 l (l.length / 2)).foldl (fun u p => feedUnit p u) u else feedUnit l u

/-- Bytes written to a destination. -/
def writeDest (e : Elem) (off : Nat) (l : List Byte) (s : State) : State :=
  match e.space with
  | 0 => if inLantern s (e.addr + off) then raise 6 3 (bump 0x60014 1 s) else memStore (e.addr + off) l s
  | 2 => setChk e.addr (feedStream l (chkOf s e.addr)) s
  | _ => send (.hostWrite (e.addr + off) l) s

/-- The output scattered into the destination elements from index `i` on, `off` bytes of the first one
being written already: the state, the index and offset reached, and the error that stops it. -/
def scatter (x : DmaChan) (q : DmaIn) : List Nat → Nat → List Byte → State → State × Nat × Nat × Nat
  | [], off, l, s => (s, fnat x.f 7, off, if l = [] then 0 else 1)
  | i :: t, off, l, s =>
    if l = [] then (s, i, off, 0)
    else
      let e := elemAt s x i
      if !e.dest then scatter x q t 0 l s
      else if listFails s x q i then (s, i, off, 2)
      else if elemBad s x e then (s, i, off, 1)
      else
        let n := e.len - off
        if l.length < n then (writeDest e off l s, i, off + l.length, 0)
        else scatter x q t 0 (l.drop n) (writeDest e off (l.take n) s)

/-- The check unit of a channel closed at the end of its run (R446, R459, R460): the state and whether the
compare failed. -/
def closeAttached (x : DmaChan) (s : State) : State × Bool :=
  let n := fnat x.f 14
  if 16 ≤ n then (s, false)
  else
    let u := chkOf s n
    let r := polyResult u.poly u.crc.toNat
    let want := natWord (fnat x.f 15)
    let fails := decide (fnat x.f 16 = 1 ∧ r ≠ want)
    let s := setChk n { loadUnit u with result := r } s
    (if fails then mismatch n u want r s else s, fails)

/-- The channels chained to channel `c` are triggered. -/
def triggerChained (c : Nat) (s : State) : State :=
  (List.range 64).foldl (fun s d =>
    let x := dmaOf s d
    if x.f ≠ [] ∧ fnat x.f 2 = 3 ∧ fnat x.f 4 = c then triggerChan d none s else s) s

/-- A run ends (R446) with an error code, 0 for none. -/
def endRun (c err : Nat) (s : State) : State :=
  let x := dmaOf s c
  let (s, fails) := closeAttached x s
  let err := if err = 0 ∧ fails then 4 else err
  let s := bump (0xB1004 + 0x10 * c) 1 s
  let s := if fnat x.f 17 < 64 then sendMsix (fnat x.f 17) s else s
  let x := { x with inRun := false, hostRun := false, error := err }
  if err ≠ 0 then raise 11 0 (setDma c { x with state := .error, trig := false } s)
  else
    let more := (indexesFrom x x.elem).any fun i => !(elemAt s x i).dest
    if more || fnat x.f 9 = 1 then
      let x := if more then x else { x with elem := 0, dest := 0, destOff := 0 }
      let s := setDma c { x with state := .waiting, trig := false } s
      let s := if x.trig then startRun c s else s
      triggerChained c s
    else triggerChained c (setDma c { x with state := .done, trig := false } s)

/-- The moves of a run: gathered, checked, fed to the attached unit, reshuffled, scattered and counted; the
state and the run's error code. -/
def moveRun (c : Nat) (q : DmaIn) (s : State) : State × Nat :=
  let x := dmaOf s c
  let src := runSources s x
  let g := src.foldl (gatherElem s x q) { host := q.host }
  let bytes := zeroBursts q.badData g.bytes
  let named := (q.badData.eraseDups.filter fun k => k * 64 < bytes.length).length
  let unit := unitBytes (fnat x.f 10) (fnat x.f 11) (fnat x.f 12) (fnat x.f 13)
  let rest := bytes.length % unit
  let (phase, s) := if fnat x.f 10 = 5 then draw s else (0, s)
  let n := fnat x.f 14
  let s := if n < 16 then setChk n (feedStream bytes (chkOf s n)) s else s
  let out := reshuffleAll (fnat x.f 10) (fnat x.f 11) (fnat x.f 12) (fnat x.f 13) (phase % 192)
    (bytes.take (bytes.length - rest))
  let (s, dest, off, derr) := scatter x q (indexesFrom x x.dest) x.destOff out s
  let s := bump (0xB1008 + 0x10 * c) out.length s
  let s := bump 0xB000C (g.bad + named) s
  let last := src.getLastD x.elem
  let err := if g.err ≠ 0 then g.err else if rest ≠ 0 then 1 else if derr ≠ 0 then derr
    else if g.bad + named ≠ 0 then 3 else 0
  let pos := if g.err ≠ 0 then g.stop.getD x.elem else if rest ≠ 0 then last else last + 1
  let next := ((indexesFrom x pos).find? fun i => !(elemAt s x i).dest).getD pos
  (setDma c { x with elem := next, dest := dest, destOff := off } s, err)

/-- DMA_RUN_END (R446): the running channel's run ends. -/
def execDmaRunEnd (c : Nat) (q : DmaIn) (s : State) : Ran :=
  ran s (if (dmaOf s c).state ≠ .running then s
    else
      let (s, err) := moveRun c q s
      endRun c err s)

/-! ## Domains (R451 to R454) -/

/-- A channel paused for a domain goes on once its domains are up, unless a command holds it (R453). -/
def resumeDomain (d : Nat) (s : State) : State :=
  (List.range 64).foldl (fun s c => if (dmaOf s c).domain = some d then startRun c s else s) s

/-- DMA_DOMAIN_RESUME (R453): host memory (4) is reachable again once the endpoint answers; a tile's
channels go on once a lane of it is on. -/
def execDmaDomainResume (d : Nat) (s : State) : Ran :=
  ran s (
    if d = 4 then
      (if s.pins.pcieReady then resumeDomain 4 { s with pins := { s.pins with hostUp := true } } else s)
    else if (d = 2 ∨ d = 3) ∧ tileUp s d then resumeDomain d s
    else s)

/-- PCIE_ENDPOINT_READY (R116, R368): from TRAIN on, with PCIE_PERST_N released, BAR0 and the rings
become usable and host memory reachable; channels paused for it go on (R453). -/
def execPcieEndpointReady (s : State) : Ran :=
  ran s (if s.pins.perstLow ∨ s.dev.state = .off ∨ s.dev.state = .boot then s
    else resumeDomain 4 { s with pins := { s.pins with pcieReady := true, hostUp := true } })

/-- HOST_MEMORY_LOST (R454). -/
def execHostMemoryLost (s : State) : Ran := ran s (loseHost s)

/-- A channel that a closing tile affects and that has not paused (R451). -/
def drainAffects (s : State) (t c : Nat) : Bool :=
  let x := dmaOf s c
  x.state = .running && (runElems s x).any fun e => elemTile e = some t

/-- A channel pauses for a closing tile (R451). -/
def pauseForTile (t c : Nat) (s : State) : State :=
  setDma c { dmaOf s c with state := .paused, domain := some t } s

/-! ## Channel commands (R438, R439, R443) -/

/-- A command names a channel that the firmware holds (R439). -/
def dmaHeld (s : State) (c : Nat) : Bool := (dmaOf s c).holder = .firmware

/-- Following completion triggers from channel `d` leads to channel `c`, within `n` links (R443). -/
def chainReaches (s : State) (c : Nat) : Nat → Nat → Bool
  | 0, _ => false
  | n + 1, d =>
    decide (d = c) || (let x := dmaOf s d
      decide (x.f ≠ [] ∧ fnat x.f 2 = 3) && chainReaches s c n (fnat x.f 4))

/-- The count of field 12 brought into the mode's range. -/
def countInMode (f : Fields) (v : Int) : Int :=
  match fnat f 11 with
  | 1 | 2 => clip 1 64 v
  | 5 => clip 2 8 v
  | _ => clip 2 7680 v

/-- The fields of 0x0801. -/
def dmaSpecs : List (Fields → Spec) :=
  [pFix 0 63, pFlag, pSel [0, 1, 2, 3], pNum 10000 1000000000,
    pWhen (fun f => fnat f 3 = 3) (pFix 0 63), pAny, pAny, pNum 1 65536,
    pCross 1 65536 1 (fun f v => min v (fld f 8)), pSel [0, 1], pSel [0, 1, 2, 3, 4, 5],
    pWhen (fun f => fnat f 11 ≠ 0) (fun f =>
      { kind := .num 1 7680 (if 3 ≤ fnat f 11 then 2 else 1), cross := countInMode f }),
    pSel [0, 1, 2], pNum 1 1024, fixedSpec (.pred fun v => decide (v ≤ 15 ∨ v = 0xFF)), pAny,
    pSel [0, 1], fixedSpec (.pred fun v => decide (v ≤ 63 ∨ v = 0xFF))]

/-- The unit that a channel used is a host's again, and the one it uses from now on is its own (R461). -/
def attachUnit (c : Nat) (old new : Nat) (s : State) : State :=
  let s := if old < 16 ∧ (chkOf s old).holder = .host
    then setChk old { chkOf s old with client := 0, object := 0xFFFF } s else s
  if new < 16 then setChk new { chkOf s new with client := 1, object := c } s else s

/-- The check unit of a channel as it stands. -/
def dmaUnit (s : State) (c : Nat) : Nat := if (dmaOf s c).f = [] then 0xFF else fnat (dmaOf s c).f 14

/-- 0x0801: configure a channel (R443). -/
def opConfigureDmaChannel : Op where
  opcode := 0x0801
  specs := fun _ _ => dmaSpecs
  once := fun _ f s =>
    let c := fnat f 1
    let x := dmaOf s c
    let u := fnat f 15
    let base := fnat f 6 + fnat f 7 * 2 ^ 32
    if dmaHeld s c || decide (x.state = .running ∨ x.state = .paused) then some .badState
    else if fnat f 3 = 3 && chainReaches s c 64 (fnat f 5) then some .badState
    else if decide (u < 16) && !unitOpenFor s { holder := .host } u then some .badState
    else if base % 16 ≠ 0 ∨ dramBytes s < base + 16 * fnat f 8 then some .refused
    else none
  apply := fun _ f s =>
    let c := fnat f 1
    let on := decide (fnat f 2 = 1)
    let st : ChanState := if on then .waiting else .idle
    let s := attachUnit c (dmaUnit s c) (fnat f 15) s
    { s := setDma c { holder := .host, f := f.drop 1, state := st, timer := 8 * s.tick } s }

/-- The channels of the two masks of 0x0802. -/
def startMask (f : Fields) : List Nat :=
  (List.range 64).filter fun c => if c < 32 then bit (fnat f 1) c else bit (fnat f 2) (c - 32)

/-- 0x0802: start channels (R444). -/
def opStartChannels : Op where
  opcode := 0x0802
  specs := fun _ _ => [pAny, pAny]
  once := fun _ f s => if (startMask f).any (dmaHeld s) then some .badState else none
  apply := fun _ f s =>
    { s := (startMask f).foldl (fun s c =>
        let x := dmaOf s c
        if x.f ≠ [] ∧ fnat x.f 2 = 0 then triggerChan c none s else s) s }

/-- A channel goes on after a pause by command (R453, R463): a run in progress continues, and a held
trigger starts one. -/
def resumeChan (c : Nat) (s : State) : State :=
  let x := { dmaOf s c with paused := false }
  let s := setDma c x s
  if x.inRun then startRun c s
  else
    let s := setDma c { x with state := .waiting, trig := false } s
    if x.trig then startRun c s else s

/-- 0x0803: pause, resume or abort a channel (R438, R453, R463). -/
def opChannelControl : Op where
  opcode := 0x0803
  specs := fun _ _ => [pFix 0 63, pSel [0, 1, 2]]
  once := fun _ f s =>
    let c := fnat f 1
    let st := (dmaOf s c).state
    let live := decide (st = .running ∨ st = .waiting ∨ st = .paused)
    let ok := if fnat f 2 = 1 then decide (st = .paused) else live
    if dmaHeld s c || !ok then some .badState else none
  apply := fun _ f s =>
    let c := fnat f 1
    let x := dmaOf s c
    match fnat f 2 with
    | 0 => { s := setDma c { x with state := .paused, paused := true } s }
    | 1 => { s := resumeChan c s }
    | _ =>
      let s := if x.inRun ∧ fnat x.f 14 < 16 then setChk (fnat x.f 14) (loadUnit (chkOf s (fnat x.f 14))) s else s
      { s := setDma c { holder := x.holder, f := x.f, timer := x.timer } s }

/-- 0x0804: release a channel. -/
def opReleaseDmaChannel : Op where
  opcode := 0x0804
  specs := fun _ _ => [pFix 0 63]
  once := fun _ f s =>
    let x := dmaOf s (fnat f 1)
    if x.holder ≠ .host ∨ x.state = .running ∨ x.state = .paused then some .badState else none
  apply := fun _ f s =>
    let c := fnat f 1
    { s := setDma c {} (attachUnit c (dmaUnit s c) 0xFF s) }

/-- 0x0805: engine settings. -/
def opEngineSettings : Op where
  opcode := 0x0805
  specs := fun _ _ => [pNum 10 10000]
  apply := fun _ f s => { s := { s with dma := { s.dma with drain := fnat f 1 } } }

/-! ## Check units as the host uses them (R457 to R460) -/

/-- A channel's run in progress feeds unit `n`: attached to it, or by an element of space 2 (R459). -/
def runFeeds (s : State) (n : Nat) : Bool :=
  s.dma.chans.any fun (_, x) => x.inRun && (fnat x.f 14 = n || (runElems s x).any fun e => e.space = 2 && e.addr = n)

/-- 0x0810: open a check unit. -/
def opOpenCheckUnit : Op where
  opcode := 0x0810
  specs := fun _ _ => [pFix 0 15, pSel [0, 1, 2, 3, 4]]
  once := fun _ f s =>
    if (chkOf s (fnat f 1)).holder = .firmware || runFeeds s (fnat f 1) then some .badState else none
  apply := fun _ f s =>
    let u := { chkOf s (fnat f 1) with holder := .host, opened := true, poly := fnat f 2 }
    { s := setChk (fnat f 1) (loadUnit u) s }

/-- 0x0811: close a check unit: every accepted write is covered, and the unit stays open at its initial
value. -/
def opCloseCheckUnit : Op where
  opcode := 0x0811
  specs := fun _ _ => [pFix 0 15, pSel [0, 1], pAny]
  once := fun _ f s =>
    let u := chkOf s (fnat f 1)
    if u.holder ≠ .host ∨ !u.opened ∨ runFeeds s (fnat f 1) then some .badState else none
  apply := fun _ f s =>
    let n := fnat f 1
    let u := drainAll (chkOf s n)
    let r := polyResult u.poly u.crc.toNat
    let want := natWord (fnat f 3)
    let bad := decide (fnat f 2 = 1 ∧ r ≠ want)
    let s := setChk n { loadUnit u with result := r } s
    { s := if bad then mismatch n u want r s else s
      words := [r, natWord u.bytes, natWord (u.bytes / 2 ^ 32), natWord (b2n bad)] }

/-- 0x0812: release a check unit (R463). -/
def opReleaseCheckUnit : Op where
  opcode := 0x0812
  specs := fun _ _ => [pFix 0 15]
  once := fun _ f s =>
    let n := fnat f 1
    if (chkOf s n).holder ≠ .host ∨ s.dma.chans.any (fun (_, x) => attached x n) ∨ runFeeds s n
    then some .badState else none
  apply := fun _ f s =>
    let u := chkOf s (fnat f 1)
    { s := setChk (fnat f 1) { result := u.result, overrun := u.overrun, widthErr := u.widthErr } s }

/-- A host write to a unit's feed register (R457, R458): bytes discarded when the unit is not the host's,
of the wrong width, or with a full queue. -/
def feedWrite (n : Nat) (l : List Byte) (s : State) : State :=
  let u := chkOf s n
  if 16 ≤ n ∨ !u.opened ∨ u.holder ≠ .host then s
  else if (u.poly = 4) ∧ l.length ≠ 2 then setChk n { u with widthErr := true } s
  else if 17 ≤ u.queue.length then setChk n { u with overrun := true } s
  else setChk n { u with queue := u.queue ++ [l] } s

/-- CHK_FEED8_WRITE (R457). -/
def execChkFeed8Write (n : Nat) (v : Word) (s : State) : Ran := ran s (feedWrite n (leBytes 1 v.toNat) s)

/-- CHK_FEED16_WRITE (R457). -/
def execChkFeed16Write (n : Nat) (v : Word) (s : State) : Ran := ran s (feedWrite n (leBytes 2 v.toNat) s)

/-- CHK_FEED32_WRITE (R457). -/
def execChkFeed32Write (n : Nat) (v : Word) (s : State) : Ran := ran s (feedWrite n (leBytes 4 v.toNat) s)

/-! ## Registers (R464, R465) -/

/-- A channel state's code. -/
def chanCode : ChanState → Nat
  | .idle => 0
  | .waiting => 1
  | .running => 2
  | .paused => 3
  | .done => 4
  | .error => 5

/-- DMA_CHc_STAT. -/
def dmaStat (s : State) (c : Nat) : Word :=
  let x := dmaOf s c
  natWord (chanCode x.state * 2 ^ 28 + x.error * 2 ^ 24 + b2n (x.holder = .firmware) * 2 ^ 23 +
    b2n x.trig * 2 ^ 22 + b2n x.domain.isSome * 2 ^ 21 + x.elem % 2 ^ 16)

/-- CHK_Un_STAT. -/
def chkStat (s : State) (n : Nat) : Word :=
  let u := chkOf s n
  natWord (b2n u.opened * 2 ^ 31 + b2n (u.holder = .firmware) * 2 ^ 30 + b2n u.overrun * 2 ^ 29 +
    b2n u.widthErr * 2 ^ 28 + u.poly * 2 ^ 25 + queuedWrites u * 2 ^ 16 + u.client * 2 ^ 8)

/-- 0x0820: read DMA and check status. -/
def opReadDmaAndCheckStatus : Op where
  opcode := 0x0820
  reads := true
  apply := fun _ _ s =>
    { s := s
      words := (List.range 64).map (dmaStat s) ++
        (List.range 16).flatMap fun n => [chkStat s n, (chkOf s n).result] }

end Sys2Proof.Machine
end

