-- ==== Sys2Proof/Machine/Audio.lean ====
section
/-! DEFINITION. Audio rings and the audio of a composition (R278, R340, R357, R380). -/

namespace Sys2Proof.Machine

/-- The state with ingress flow `i` changed. -/
def modIflow (i : Nat) (f : IFlow → IFlow) (s : State) : State :=
  { s with flows := { s.flows with ingress := tmod none s.flows.ingress i fun x => x.map f } }

/-- One of a flow's counts advanced (R402). -/
def addCount (w n : Nat) (x : IFlow) : IFlow :=
  { x with counts := x.counts.modify w fun k => min 0xFFFFFFFF (k + n) }

/-! ## Rings (R380) -/

/-- The 48 kHz count of an instant in ns (R160). -/
def count48 (ns : Int) : Int := ns * 48 / 1000000

/-- The sample times that a flow's ring holds: 2 s, with the trim and the delay of its composition. -/
def ringSpan (s : State) (x : IFlow) : Nat :=
  96000 + match x.bind with
    | some (c, trim, _) => audioDelay s c + trim
    | none => 0

/-- Sample times written into a ring from media-clock time `start` on; the oldest leave it. -/
def ringPut (s : State) (start : Nat) (l : List (List Nat)) (x : IFlow) : IFlow :=
  let behind (top t : Nat) : Nat := (top + 2 ^ 32 - t % 2 ^ 32) % 2 ^ 32
  let top := (start + l.length) % 2 ^ 32
  let keep (e : Nat × List Nat) : Bool :=
    decide (l.length < behind top e.1) && (decide (behind top e.1 ≤ ringSpan s x) || decide (2 ^ 31 ≤ behind top e.1))
  { x with ring := (l.zipIdx.map fun (v, i) => ((start + i) % 2 ^ 32, v)).reverse ++ x.ring.filter keep }

/-- The samples of a media-clock time. -/
def ringAt (x : IFlow) (t : Int) : Option (List Nat) :=
  (x.ring.find? fun e => decide ((e.1 : Int) = t % 2 ^ 32)).map (·.2)

/-- The samples of flow `i` at `n` media-clock times from `t` on: silence, counted, where one has not arrived, and
silence where the composition's frames repeat or go out as the fill colour (R340). -/
def readRing (i : Nat) (muted : Bool) (t : Int) (n : Nat) (s : State) : List (List Nat) × State :=
  match tget none s.flows.ingress i with
  | none => ([], s)
  | some x =>
    let got := (List.range n).map fun (k : Nat) => ringAt x (t + k)
    let silent := List.replicate (fnat x.f 24) 0
    if muted then (got.map fun _ => silent, s)
    else (got.map (·.getD silent), modIflow i (addCount 12 (got.filter Option.isNone).length) s)

/-! ## Bound flows (R340, R380) -/

/-- The flows bound to a composition in order: the flow, the order, and how far its samples are delayed. -/
def boundFlows (s : State) (comp : Nat) : List (Nat × Nat × Nat) :=
  (List.range 16).flatMap fun o => s.flows.ingress.filterMap fun (i, x) =>
    x.bind fun x => x.bind.bind fun (c, trim, order) =>
      if c = comp ∧ order = o then some (i, o, audioDelay s comp + trim) else none

/-- The media-clock times of composed frame `n`: the first, and how many. -/
def frameTimes (s : State) (tb n : Nat) : Int × Nat :=
  let at' (n : Int) : Int := -count48 (-(boundaryNs s tb n))
  (at' n, (at' (n + 1) - at' n).toNat)

/-- The audio of composed frame `n`: each bound flow's order and its samples, delayed (R340). -/
def frameAudio (comp : Nat) (x : Comp) (n : Nat) (s : State) : List (Nat × List (List Nat)) × State :=
  let (t, k) := frameTimes s (fnat x.f 1) n
  (boundFlows s comp).foldl (fun (l, s) (i, o, late) =>
    let (v, s) := readRing i (outMuted x n) (t - late) k s
    (l ++ [(o, v)], s)) ([], s)

/-- The audio that an SDI output embeds in composed frame `n`, up to `most` channels (R357). -/
def embedded (comp : Nat) (x : Comp) (n most : Nat) (s : State) : List (List (List Nat)) × State :=
  let (l, s) := frameAudio comp x n s
  ((l.foldl (fun (out, left) (_, v) =>
    let v := v.map (·.take left)
    (out ++ [v], left - (v.headD []).length)) (([] : List (List (List Nat))), most)).1, s)

/-- The audio that goes with an access unit, in PES of up to 8 channels (R278). -/
def unitAudio (comp : Nat) (x : Comp) (n pts : Nat) (s : State) : List TsAudio × State :=
  let (l, s) := frameAudio comp x n s
  (l.flatMap fun (o, v) => (List.range (ceilDiv (v.headD []).length 8)).map fun k =>
    { order := o, pts := pts, samples := v.map fun t => (t.drop (8 * k)).take 8 }, s)

end Sys2Proof.Machine
end

