-- ==== Sys2Proof/Machine/LineCode.lean ====
section
/-! DEFINITION. Line coding (R347, R348, R352, R355, R357): sync headers, scramblers, Gray mapping and precoding, NRZI,
the CRC-18 of an SDI line and the checksum of an ancillary packet. -/

namespace Sys2Proof.Machine

/-! ## 64b/66b (R347) -/

/-- A sync header is valid: 0b01 a data block, 0b10 a control block. -/
def headerOk (h : Nat) : Bool := h == 1 || h == 2

/-- Block lock: the newest 64 headers, oldest first in the list, are valid. -/
def blockLocks (l : List Nat) : Bool :=
  decide (64 ≤ l.length) && (l.drop (l.length - 64)).all headerOk

/-- Block lock is lost: 16 of some 64 consecutive headers are invalid. -/
def blockLost (l : List Nat) : Bool :=
  l.tails.any fun t => decide (16 ≤ ((t.take 64).filter fun h => !headerOk h).length)

/-- A self-synchronous scrambler with taps at delays `a` and `b`: each bit out is the bit in and the two earlier bits
out, `past` being the bits out, newest first. -/
def scramble (a b : Nat) : List Bool → List Bool → List Bool
  | _, [] => []
  | past, x :: l =>
    let y := xor x (xor (past.getD (a - 1) false) (past.getD (b - 1) false))
    y :: scramble a b (y :: past) l

/-- Its descrambler, whose past is that of the line. -/
def descramble (a b : Nat) : List Bool → List Bool → List Bool
  | _, [] => []
  | past, y :: l => xor y (xor (past.getD (a - 1) false) (past.getD (b - 1) false)) :: descramble a b (y :: past) l

/-- The payload scrambler of NRZ lanes, 1 + x^39 + x^58. -/
def scrambleNrz : List Bool → List Bool → List Bool := scramble 39 58

/-! ## PAM4 (R348) -/

/-- The level of a pair of bits. -/
def gray : Bool × Bool → Nat
  | (false, false) => 0
  | (false, true) => 1
  | (true, true) => 2
  | (true, false) => 3

/-- The pair of bits of a level. -/
def ungray : Nat → Bool × Bool
  | 0 => (false, false)
  | 1 => (false, true)
  | 2 => (true, true)
  | _ => (true, false)

/-- The precoder, from the symbol sent before. -/
def precode : Nat → List Nat → List Nat
  | _, [] => []
  | p, g :: l =>
    let q := (g + 4 - p % 4) % 4
    q :: precode q l

/-- What the receiver recovers. -/
def unprecode : Nat → List Nat → List Nat
  | _, [] => []
  | p, q :: l => (q + p) % 4 :: unprecode q l

/-- The symbols of a codeword that RS(544,514) and RS(528,514) correct (R347, R348). -/
def fecCorrects (nrz : Bool) : Nat := if nrz then 7 else 15

/-! ## SDI (R355, R357) -/

/-- The SDI scrambler, x^9 + x^4 + 1. -/
def scrambleSdi : List Bool → List Bool → List Bool := scramble 4 9

/-- NRZI: a one changes the level. -/
def nrzi : Bool → List Bool → List Bool
  | _, [] => []
  | p, x :: l => xor x p :: nrzi (xor x p) l

/-- One bit into the CRC-18, x^18 + x^5 + x^4 + 1, least significant bit first. -/
def crc18Bit (c : BitVec 18) (b : Bool) : BitVec 18 :=
  let c' := c >>> 1
  if xor (c.getLsbD 0) b then c' ^^^ 0x23000#18 else c'

/-- The CRC-18 of an active line's words. -/
def crc18 (l : List (BitVec 10)) : BitVec 18 :=
  l.foldl (fun c w => (List.range 10).foldl (fun c i => crc18Bit c (w.getLsbD i)) c) 0

/-- The line's CRC-18 fails. -/
def lineBad (l : SdiLine) : Bool := crc18 l.words != l.crc

/-- The checksum of an ancillary packet: the nine low bits of its words summed, and bit 9 the inverse of bit 8. -/
def ancSum (l : List (BitVec 10)) : BitVec 10 :=
  let n := (l.foldl (fun a w => a + w.toNat % 512) 0) % 512
  BitVec.ofNat 10 (if n < 256 then n + 512 else n)

/-- The checksum fails. -/
def ancBad (p : AncPkt) : Bool := ancSum p.words != p.check

end Sys2Proof.Machine
end

