-- ==== Sys2Proof/Machine/Lanes.lean ====
section
/-! DEFINITION. Serial lanes (R344 to R370): ports and their bring-up, losses, SDI inputs and outputs, the
lane commands and the LANE_ registers. Lanes are numbered as field 1 of 0x0304 numbers them: 0 to 15 the
network lanes, 16 to 31 the media lanes; a port is named by its first lane. -/

namespace Sys2Proof.Machine

/-! ## Lanes and ports -/

/-- The state with lane `n` changed. -/
def modLane (n : Nat) (f : Lane → Lane) (s : State) : State :=
  { s with lanes := { s.lanes with lanes := tmod {} s.lanes.lanes n f } }

/-- The state with every lane of a list changed. -/
def modLanes (l : List Nat) (f : Lane → Lane) (s : State) : State := l.foldl (fun s n => modLane n f s) s

/-- Port `key`. -/
def portOf (s : State) (key : Nat) : Port := tget {} s.lanes.ports key

/-- The state with port `key` set. -/
def setPort (key : Nat) (p : Port) (s : State) : State :=
  { s with lanes := { s.lanes with ports := tset {} s.lanes.ports key p } }

/-- The first lane of a lane's port. -/
def portKey (s : State) (n : Nat) : Nat := if n < 16 then portOfLane s n else n

/-- Port `key` exists: the first lane of a port of the layout in force, or an auxiliary lane (R346, R360). -/
def portExists (s : State) (key : Nat) : Bool :=
  if key < 16 then portStart (layoutOf s (key / 8)) (key % 8)
  else decide (key < 32) && decide (fnat (laneOf s key).media 1 = 3)

/-- The lanes of port `key`. -/
def portLanes (s : State) (key : Nat) : List Nat :=
  if key < 16 then (List.range (lanesPerPort (layoutOf s (key / 8)))).map (key + ·) else [key]

/-- A lane is PAM4 (R346). -/
def lanePam4 (s : State) (n : Nat) : Bool :=
  decide (n < 16) && decide (layoutOf s (n / 8) = 1 ∨ layoutOf s (n / 8) = 2 ∨ layoutOf s (n / 8) = 3)

/-- Link training is on; auxiliary ports have none (log entry 43). -/
def portTrains (s : State) (key : Nat) : Bool :=
  decide (key < 16) && decide (fnat (layoutFields s (key / 8)) 3 = 1)

/-- Auto-negotiation is on. -/
def portNegotiates (s : State) (key : Nat) : Bool :=
  decide (key < 16) && decide (fnat (layoutFields s (key / 8)) 4 = 1)

/-- A lane in PRBS or loopback takes no part in its port or SDI mode (R365). -/
def laneDiag (l : Lane) : Bool := decide (l.prbs ≠ 0 ∨ l.loop ≠ 0)

/-- The default taps and swing of a kind of lane (R350). -/
def tapsPam4 : Fields := [-6, 48, -10, 800]
def tapsNrz : Fields := [-4, 52, -8, 800]
def tapsSdi : Fields := [0, 60, -4, 800]

/-- The BAR0 offset of a lane's counter at `o` (R491). -/
def laneCounter (n o : Nat) : Nat := if n < 16 then 0x70000 + 0x100 * n + o else 0x72000 + 0x100 * (n - 16) + o

/-! ## Bring-up (R351, R352) -/

/-- A lane at row 0 of R351: squelched, nothing locked. -/
def laneDown (l : Lane) : Lane :=
  { l with tx := false, pll := false, cdr := false, block := false, am := false, train := 0
           preTx := false, preRx := false, pcs := 0, skew := 0 }

/-- A port that was up counts its fall and raises PORT_DOWN (R353). -/
def noteDown (key : Nat) (s : State) : State :=
  if (portOf s key).phase = .up then raise 7 1 (bump (laneCounter key 0xC) 1 s) else s

/-- Bring-up from row 0; a port with a lane in PRBS or loopback stays off. -/
def startPort (key : Nat) (s : State) : State :=
  if !portExists s key then s
  else
    let diag := (portLanes s key).any fun n => laneDiag (laneOf s n)
    let s := modLanes ((portLanes s key).filter fun n => !laneDiag (laneOf s n)) laneDown (noteDown key s)
    setPort key { phase := if diag then .off else .pll } s

/-- The failed lanes of a bring-up counted; the port waits for its retry (R351). -/
def failBringup (key : Nat) (lanes : List Nat) (s : State) : State :=
  setPort key { portOf s key with phase := .wait } (lanes.foldl (fun s n => bump (laneCounter n 0x10) 1 s) s)

/-- Precoding of a direction by its selector, when nothing is negotiated (R362). -/
def precodeFixed (sel : Nat) : Bool := decide (sel = 1)

/-- Precoding on the port's lanes; there is none on NRZ lanes. -/
def setPrecode (key : Nat) (tx rx : Bool) (s : State) : State :=
  if portNrz s key then s else modLanes (portLanes s key) (fun l => { l with preTx := tx, preRx := rx }) s

/-- The rows of R351 after auto-negotiation: training with the taps stored for it, or the locks. -/
def afterAneg (key : Nat) (s : State) : State :=
  let p := portOf s key
  if portTrains s key then
    setPort key { p with phase := .training }
      (modLanes (portLanes s key) (fun l => { l with train := 1, taps := l.stored.getD l.taps, stored := none }) s)
  else
    let f := layoutFields s (key / 8)
    setPrecode key (precodeFixed (fnat f 5)) (precodeFixed (fnat f 6)) (setPort key { p with phase := .locking } s)

/-- PLL_LOCK (R351): the synthesisers of a port's lanes lock and its transmitters are enabled, or the port
stays down; an SDI lane's synthesiser locks likewise. -/
def execPllLock (key : Nat) (bad : List Nat) (s : State) : Ran :=
  ran s (
    let l := laneOf s key
    let bad := bad.filter fun n => n = key ∨ n ∈ portLanes s key
    let ok := decide (bad = [])
    if decide (16 ≤ key ∧ key < 32) && decide (fnat l.media 1 = 1 ∨ fnat l.media 1 = 2) then
      (if laneDiag l || !ok then s
      else modLane key (fun l => { l with pll := true, tx := decide (fnat l.media 1 = 2) && !s.supply.squelched }) s)
    else if !portExists s key ∨ (portOf s key).phase ≠ .pll then s
    else if !ok then failBringup key bad s
    else
      let s := modLanes (portLanes s key) (fun l => { l with pll := true, tx := !s.supply.squelched }) s
      if portNegotiates s key then setPort key { portOf s key with phase := .autoneg } s else afterAneg key s)

/-- AUTONEG_COMPLETE (R351): negotiation ends, or the port restarts. -/
def execAutonegComplete (key : Nat) (ok : Bool) (s : State) : Ran :=
  ran s (if (portOf s key).phase ≠ .autoneg then s
    else if ok then afterAneg key s
    else startPort key ((portLanes s key).foldl (fun s n => bump (laneCounter n 0x10) 1 s) s))

/-- The relations of R350 between the taps. -/
def tapsOk (f : Fields) : Bool :=
  let a := -(fld f 1)
  let c := fld f 2
  let b := -(fld f 3)
  decide (0 ≤ a ∧ a ≤ 16 ∧ 32 ≤ c ∧ c ≤ 64 ∧ 0 ≤ b ∧ b ≤ 24 ∧ a + c + b ≤ 64 ∧ 8 ≤ c - a - b)

/-- TRAINING_COEFF_REQUEST (R350): the link partner asks for one step of a tap, 0 to 2 for c(-1), c(0) and
c(1); the answer tells whether the tap is at its limit. -/
def execTrainingCoeffRequest (n tap : Nat) (up : Bool) (s : State) : Ran :=
  ran s (
    let l := laneOf s n
    if l.train ≠ 1 ∨ 2 < tap then s
    else
      let new := fset l.taps (tap + 1) (fld l.taps (tap + 1) + if up then 1 else -1)
      if tapsOk new then send (.control n 8 0) (modLane n (fun l => { l with taps := new }) s)
      else send (.control n 8 1) s)

/-- LINK_TRAINING_END (R350): both sides are ready, with the precoding they negotiated, or training has
failed on some lanes. -/
def execLinkTrainingEnd (key : Nat) (bad : List Nat) (precodeTx precodeRx : Bool) (s : State) : Ran :=
  ran s (if (portOf s key).phase ≠ .training then s
    else
      let bad := (portLanes s key).filter (· ∈ bad)
      let s := modLanes bad (fun l => { l with train := 3 }) (modLanes (portLanes s key) (fun l => { l with train := 2 }) s)
      if bad ≠ [] then failBringup key bad s
      else
        let f := layoutFields s (key / 8)
        let dir (sel : Nat) (n : Bool) : Bool := if sel = 2 then n else precodeFixed sel
        setPrecode key (dir (fnat f 5) precodeTx) (dir (fnat f 6) precodeRx)
          (setPort key { portOf s key with phase := .locking } s))

/-- A lane has the locks that its coding needs (R351). -/
def laneLocked (s : State) (n : Nat) : Bool :=
  let l := laneOf s n
  l.cdr && (if portNrz s (portKey s n) then l.block else l.am)

/-- What a lane found gives the lock of its coding (R347, R352). -/
def lockSeen (s : State) (n : Nat) (x : LockSeen) : Bool :=
  if portNrz s (portKey s n) then blockLocks x.headers else decide (2 ≤ x.markers)

/-- LINK_LOCK (R351): a lane's CDR lock and block lock (NRZ) or FEC and marker lock (PAM4); when the last lane
of the port locks, a multi-lane port deskews and a single-lane one is up. -/
def execLinkLock (n : Nat) (x : LockSeen) (s : State) : Ran :=
  ran s (
    let key := portKey s n
    let p := portOf s key
    if !portExists s key || !decide (p.phase = .locking ∨ p.phase = .relock) || laneDiag (laneOf s n) ||
        !lockSeen s n x then s
    else
      let nrz := portNrz s key
      let fec := portFec s key
      let s := modLane n (fun l => { l with
        signal := true, cdr := true, block := nrz, am := !nrz || fec, pcs := if nrz then 0 else x.pcs }) s
      if !(portLanes s key).all (laneLocked s) then s
      else setPort key { p with phase := if 1 < (portLanes s key).length then .deskew else .up } s)

/-- DESKEW (R352): the arrivals of the port's lanes in ps, from its first lane on. A largest difference of
180 ns or less brings the port up, each lane held by its difference; a larger one sets DESKEW_FAIL. -/
def execDeskew (key : Nat) (arrivals : List Nat) (s : State) : Ran :=
  ran s (
    let p := portOf s key
    let lanes := portLanes s key
    if p.phase ≠ .deskew ∨ arrivals.length ≠ lanes.length then s
    else
      let latest := arrivals.foldl max 0
      let holds := arrivals.map (latest - ·)
      if holds.any (180000 < ·) then raise 7 2 (setPort key { p with deskewFail := true } s)
      else
        let s := (lanes.zip holds).foldl (fun s (n, h) => modLane n (fun l => { l with skew := h / 1000 }) s) s
        setPort key { phase := .up } s)

/-- PORT_RETRY (R351): a failed bring-up restarts. -/
def execPortRetry (key : Nat) (s : State) : Ran :=
  ran s (if (portOf s key).phase = .wait then startPort key s else s)

/-- CDR_LOCK_TIMEOUT (R351): locks not reached within 10 ms. -/
def execCdrLockTimeout (key : Nat) (s : State) : Ran :=
  ran s (if (portOf s key).phase = .locking then
    failBringup key ((portLanes s key).filter fun n => !laneLocked s n) s else s)

/-- SIGNAL_RETURN (R351): receive signal on a lane; a port that waits for its retry restarts at once when it is
present on every lane. -/
def execSignalReturn (n : Nat) (s : State) : Ran :=
  ran s (if 32 ≤ n ∨ (laneOf s n).signal then s
    else
      let s := modLane n (fun l => { l with signal := true }) s
      let key := portKey s n
      if (portOf s key).phase = .wait ∧ (portLanes s key).all (fun m => (laneOf s m).signal) then startPort key s
      else s)

/-! ## Losses (R345, R349, R353) -/

/-- What a loss takes from a lane. -/
def loseLane (k : LaneLoss) (l : Lane) : Lane :=
  match k with
  | .signal => { l with signal := false, cdr := false, block := false, am := false }
  | .cdr => { l with cdr := false, block := false, am := false }
  | .block _ => { l with block := false, am := false }
  | .marker _ => { l with am := false }

/-- A loss has happened: 16 of 64 sync headers invalid (R347), four consecutive markers missing (R352). -/
def lossReal : LaneLoss → Bool
  | .signal | .cdr => true
  | .block l => blockLost l
  | .marker n => decide (4 ≤ n)

/-- LANE_LOSS (R353): a port that was up goes down and has 100 ms to relock; one that was aligning goes back to
its locks. -/
def execLaneLoss (n : Nat) (k : LaneLoss) (s : State) : Ran :=
  ran s (if 32 ≤ n ∨ !lossReal k then s
    else
      let s := modLane n (loseLane k) s
      let key := portKey s n
      let p := portOf s key
      if laneLocked s n then s
      else match p.phase with
        | .up => setPort key { p with phase := .relock } (noteDown key s)
        | .deskew => setPort key { p with phase := .locking } s
        | _ => s)

/-- LANE_RELOCK_TIMEOUT (R353): the lanes have not relocked, and the port retrains from row 0. -/
def execLaneRelockTimeout (key : Nat) (s : State) : Ran :=
  ran s (if (portOf s key).phase = .relock then startPort key s else s)

/-- FEC_UNCORRECTABLE (R349, R396): a codeword with more symbols in error than its code corrects, counted on the port's
first lane and in its Turret's 10 ms window. -/
def execFecUncorrectable (x : LaneCount) (s : State) : Ran :=
  ran s (
    let n := x.lane
    let key := portKey s n
    if !portExists s key || !portFec s key || !(laneOf s n).am || decide (x.count ≤ fecCorrects (portNrz s key)) then s
    else
      let s := bump (laneCounter key 8) 1 s
      if key < 16 then modHealth (key / 8) (fun h => { h with fec := tmod 0 h.fec key (· + 1) }) s else s)

/-- Every port of the layouts in force and every auxiliary port. -/
def allPorts (s : State) : List Nat := (List.range 32).filter (portExists s)

/-- REF_LOST (R345): the selected LANE_REFCLK is no longer present; the tiles move to the TCXO and every port
restarts. -/
def execRefLost (s : State) : Ran :=
  ran s (if s.lanes.source = 1 ∧ !s.lanes.refclk then
    let s := { s with lanes := { s.lanes with source := 0, refLost := true } }
    (allPorts s).foldl (fun s key => startPort key s) s
  else s)

/-- LANE_REFCLK_PRESENCE_CHANGE (R345): the frequency of LANE_REFCLK against 156.25 MHz in ppm. -/
def execLaneRefclkPresenceChange (ppm : Int) (s : State) : Ran :=
  ran s { s with lanes := { s.lanes with refclk := decide (-100 ≤ ppm ∧ ppm ≤ 100) } }

/-! ## SDI (R354 to R359) -/

/-- An SDI class carries a format at a rate (R354). -/
def classCarries (cls format rate : Nat) : Bool :=
  let low := decide (rate ≤ 4)
  let high := decide (7 ≤ rate ∧ rate ≤ 9)
  (samplesOf format rate).isSome && match cls with
    | 0 => (decide (format = 0) && (low || high)) || decide (format = 2) || (decide (format = 1) && low)
    | 1 | 2 => decide (format = 1) && high
    | 3 => decide (format = 3) && low
    | 4 => decide (format = 3) && (low || high)
    | _ => decide (format = 4) && (low || high)

/-- A media lane is an SDI input, by its number in the group of all lanes. -/
def sdiIn (s : State) (n : Nat) : Bool := decide (fnat (laneOf s n).media 1 = 1) && !laneDiag (laneOf s n)

/-- The lane belongs to a quad group in force (R356, R363). -/
def quadOf (s : State) (m : Nat) : Bool :=
  let l := laneOf s (16 + 4 * (m / 4))
  decide (fnat l.media 2 = 5) && decide (fnat l.media 1 = 1 ∨ fnat l.media 1 = 2)

/-- SDI_TRS_LOCK (R355): media lane `m` finds a format of its class, with its link number, after two consecutive EAVs
at the same line length. -/
def execSdiTrsLock (m format rate : Nat) (x : TrsSeen) (s : State) : Ran :=
  ran s (if m < 16 ∧ 2 ≤ x.eavs ∧ sdiIn s (16 + m) ∧ classCarries (fnat (laneOf s (16 + m)).media 2) format rate then
    modLane (16 + m) (fun l => { l with
      signal := true, cdr := true, trs := true, format := format, rate := rate, link := x.link % 4, whole := false }) s
  else s)

/-- SDI_TRS_LOSS (R355): four EAVs are missing. -/
def execSdiTrsLoss (x : LaneCount) (s : State) : Ran :=
  let m := x.lane
  ran s (if m < 16 ∧ 4 ≤ x.count ∧ (laneOf s (16 + m)).trs then
    raise 7 3 (bump (laneCounter (16 + m) 0x28) 1
      (modLane (16 + m) (fun l => { l with trs := false, whole := false, format := 0xF, rate := 0, link := 0 }) s))
  else s)

/-- The media lanes that make up an SDI source whose first lane is `m`. -/
def sdiLanes (s : State) (m : Nat) : List Nat := if quadOf s m then (List.range 4).map (16 + m + ·) else [16 + m]

/-- The de-embedded samples of an SDI input's frame, to the audio flow that takes each lane's (R357, R380): channels 1
to 16 in group order. -/
def embedAudio (m : Nat) (audio : List (List Nat)) (s : State) : State :=
  let start := (count48 (clockNs s) - audio.length).toNat
  let take (x : IFlow) : IFlow :=
    if fnat x.f 1 = 1 ∧ fnat x.f 2 = 3 ∧ fnat x.f 3 = 4 ∧ fnat x.f 4 = m then
      ringPut s start (audio.map fun t => t.take (fnat x.f 24)) x
    else x
  { s with flows := { s.flows with ingress := tmap none s.flows.ingress fun _ x => x.map take } }

/-- SDI_FRAME_COMPLETE (R355 to R357): the last active line of an SDI input's frame. Lines whose CRC-18 fails are used
and counted; ancillary packets whose checksum fails are dropped and counted. The frame is complete when TRS lock was
held throughout on every link, and a quad link's links are four and within 16 microseconds. -/
def execSdiFrameComplete (m skew : Nat) (content : List SdiLine) (x : SdiAnc) (s : State) : Ran :=
  ran s (
    let quad := quadOf s m
    let lanes := sdiLanes s m
    if 16 ≤ m ∨ (quad ∧ m % 4 ≠ 0) ∨ !lanes.all (fun n => sdiIn s n && (laneOf s n).trs) then s
    else
      let l := laneOf s (16 + m)
      let s := bump (laneCounter (16 + m) 0x18) (content.filter lineBad).length
        (bump (laneCounter (16 + m) 0x1C) (x.packets.filter ancBad).length s)
      let s := embedAudio m x.audio s
      let late := quad && decide (16000 < skew)
      let s := if late then bump (laneCounter (16 + m) 0x20) 1 s else s
      let links := !quad || (List.range 4).all fun k => lanes.any fun n => (laneOf s n).link = k
      let whole := lanes.all fun n => (laneOf s n).whole
      let s := modLanes lanes (fun l => { l with whole := true }) s
      if whole && links && !late then
        completeSource (if quad then 0x1100 + m / 4 else 0x1000 + m) l.format l.rate none (x.packets.filter fun p => !ancBad p) s
      else s)

/-- The composed frame whose SDI alignment point is the newest that has come: A(n + 1) + O (R358). -/
def sdiFrameNow (s : State) (x : Comp) (o : Nat) : Int :=
  let t := tbD s (fnat x.f 1)
  idealCount t.rate (rasterNs s t - o) + t.offset - 1

/-- Whole line periods in the extra time of a re-phase (R359). -/
def stretchLines (t : Timebase) : Nat :=
  let (num, den) := rateN t.rate
  let (_, _, ltot, _) := formatOf t.format
  t.stretch * num * ltot / (den * 1000000000)

/-- SDI_OUTPUT_FRAME (R358, R359): an output begins its next frame, read from the output slot of a delay line.
A frame that the re-phase at the boundary has stretched is counted. -/
def execSdiOutputFrame (m : Nat) (s : State) : Ran :=
  ran s (
    let n := 16 + m
    let l := laneOf s n
    match compOf s (fnat l.media 3) with
    | none => s
    | some x =>
      let k := sdiFrameNow s x (fnat l.media 4)
      let inner := quadOf s m && decide (m % 4 ≠ 0)
      if 16 ≤ m ∨ fnat l.media 1 ≠ 2 ∨ laneDiag l ∨ !l.tx ∨ inner ∨ k < 0 ∨ l.sent = some k.toNat then s
      else
        let t := tbD s (fnat x.f 1)
        let stretched := decide (t.stretch ≠ 0 ∧ t.last = some (k.toNat + 1))
        let lines := if stretched then stretchLines t else 0
        let o := (x.outs.find? fun o => o.frame = k.toNat).getD { frame := k.toNat, input := some k.toNat, anc := [] }
        let s := if stretched then bump (laneCounter n 0x24) 1 s else s
        let (audio, s) := embedded (fnat l.media 3) x k.toNat (16 * (sdiLanes s m).length) s
        send (.sdiFrame m (o.input.getD k.toNat) lines
            ((List.range (sdiLanes s m).length).map (Config.payloadId (fnat l.media 2) t.format t.rate x.space))
            (timeCodeOf s (fnat x.f 1) k.toNat false) o.anc audio)
          (modLane n (fun l => { l with sent := some k.toNat }) s))

/-! ## Lanes in service (R364) -/

/-- An auxiliary port carries an enabled flow. -/
def carriesAux (s : State) (key : Nat) : Bool :=
  carriesIngress s key || s.flows.egress.any fun (_, x) => match x with
    | some x => fnat x.f 1 = 1 && fnat x.f 3 = 4 && fnat x.f 4 + 16 = key
    | none => false

/-- A Cupola layer or a flow names media lane `m` as SDI input. -/
def sdiNamed (s : State) (m : Nat) : Bool :=
  (s.cup.comps.any fun (_, x) => match x with
    | some x => x.layers.any fun (_, l) => match l with
      | some l =>
        let id := fnat l.f 2
        decide (0x1000 ≤ id ∧ id < 0x2000 ∧ (id = 0x1000 + m ∨ id = 0x1100 + m / 4))
      | none => false
    | none => false) ||
  s.flows.ingress.any fun (_, x) => match x with
    | some x => fnat x.f 3 = 4 && fnat x.f 4 = m
    | none => false

/-- A lane is in service (R364). -/
def inService (s : State) (n : Nat) : Bool :=
  if n < 16 then
    let key := portKey s n
    portExists s key && portUp s key && (carriesEgress s key || carriesIngress s key)
  else
    match fnat (laneOf s n).media 1 with
    | 1 => sdiNamed s (n - 16)
    | 2 => true
    | 3 => portUp s n && carriesAux s n
    | _ => false

/-! ## Lane commands (R361 to R366) -/

/-- Every lane is off (R345). -/
def allLanesOff (s : State) : Bool :=
  decide (layoutOf s 0 = 0 ∧ layoutOf s 1 = 0) &&
    (List.range 32).all fun n => fnat (laneOf s n).media 1 = 0 && !laneDiag (laneOf s n)

/-- 0x0301: select the lane reference. -/
def opSelectLaneReference : Op where
  opcode := 0x0301
  specs := fun _ _ => [pSel [0, 1]]
  once := fun _ _ s => if allLanesOff s then none else some .badState
  apply := fun _ f s => { s := { s with lanes := { s.lanes with source := fnat f 1 } } }

/-- The lanes of a Turret. -/
def turretLanes (t : Nat) : List Nat := (List.range 8).map (8 * t + ·)

/-- The network ports of a Turret under the layout in force. -/
def turretPorts (s : State) (t : Nat) : List Nat := (turretLanes t).filter (portExists s)

/-- What a Turret's ports carried is forgotten when its layout changes (R396). -/
def forgetCarried (t : Nat) (s : State) : State :=
  let drop (x : IFlow) : IFlow := { x with ports := x.ports.filter fun p => p / 8 ≠ t }
  { s with flows := { s.flows with ingress := tmap none s.flows.ingress fun _ x => x.map drop } }

/-- A Turret's layout set: its ports go down and those of the new layout come up from row 0. -/
def setLayout (t : Nat) (f : Fields) (s : State) : State :=
  let old := layoutOf s t
  let s := (turretPorts s t).foldl (fun s key => setPort key {} (noteDown key s)) s
  let s := if t = 0 then { s with lanes := { s.lanes with layoutA := f } }
    else { s with lanes := { s.lanes with layoutB := f } }
  let new := layoutOf s t
  let taps := if new = 4 then tapsNrz else tapsPam4
  let s := modLanes (turretLanes t) (fun l =>
    if laneDiag l then l
    else if old = new ∨ new = 0 then laneDown l else { laneDown l with taps := taps, stored := none }) s
  let s := forgetCarried t s
  (turretPorts s t).foldl (fun s key => startPort key s) s

/-- 0x0302: a Turret's layout (R362, R364). -/
def opConfigureTurretLayout : Op where
  opcode := 0x0302
  specs := fun _ _ => [pSel [0, 1], pSel [0, 1, 2, 3, 4], pSel [0, 1], pFlag,
    pCross 0 1 1 (fun f v => min v (fld f 4)), pSel [0, 1, 2], pSel [0, 1, 2], pFlag]
  once := fun _ f s =>
    if slice f 1 6 = layoutFields s (fnat f 1) then none
    else if fnat f 8 = 0 ∧ (turretLanes (fnat f 1)).any (inService s) then some .badState
    else none
  apply := fun _ f s =>
    { s := if slice f 1 6 = layoutFields s (fnat f 1) then s else setLayout (fnat f 1) (slice f 1 6) s }

/-- The lanes that a 0x0303 sets: the group of four with class 5 (R363). -/
def mediaLanes (f : Fields) : List Nat :=
  if fnat f 3 = 5 ∧ fnat f 2 ≠ 3 then (List.range 4).map (16 + fnat f 1 + ·) else [16 + fnat f 1]

/-- The command changes no value of its lanes (R364). -/
def mediaSame (s : State) (f : Fields) : Bool :=
  (mediaLanes f).all fun n => (laneOf s n).media.take 5 = slice f 1 5

/-- A media lane set to a mode. -/
def setMedia (f : Fields) (l : Lane) : Lane :=
  let taps := match fnat f 2 with
    | 0 => l.taps
    | 3 => tapsNrz
    | _ => tapsSdi
  let l := { laneDown l with
    media := slice f 1 6, trs := false, format := 0xF, rate := 0, link := 0, whole := false, sent := none }
  if fnat l.media 1 = 0 then l else { l with taps := taps, stored := none }

/-- The state after 0x0303. -/
def mediaState (f : Fields) (s : State) : State :=
  let lanes := mediaLanes f
  let s := lanes.foldl (fun s n => setPort n {} (noteDown n s)) s
  let s := modLanes lanes (setMedia f) s
  lanes.foldl (fun s n => startPort n s) s

/-- The tile of a lane command that leaves it with no lane on, when a running channel names it (R451). -/
def mediaPark (f : Fields) (s : State) : Option Nat :=
  let t := 2 + fnat f 1 / 8
  if !mediaSame s f && tileUp s t && !tileUp (mediaState f s) t && (List.range 64).any (drainAffects s t)
  then some t else none

/-- The class of field 3 is one that 0x0303 accepts on its lane, for the composition it names (R363). -/
def mediaClassOk (c : Cmd) (s : State) (f : Fields) (v : Int) : Bool :=
  decide (0 ≤ v ∧ v ≤ 5) && decide (v ≠ 5 ∨ fnat f 1 % 4 = 0) &&
    (decide (fnat f 2 ≠ 2) || match compOf s (c.params.getD 3 0).toNat with
      | some x =>
        let t := tbD s (fnat x.f 1)
        classCarries v.toNat t.format t.rate
      | none => true)

/-- 0x0303: a media lane (R363, R364). -/
def opConfigureMediaLane : Op where
  opcode := 0x0303
  specs := fun c s => [pFix 0 15, pSel [0, 1, 2, 3], fun f => { kind := .pred (mediaClassOk c s f) },
    pWhen (fun f => fnat f 2 = 2) (pFix 0 255), pNum 0 2000000, pSel [0, 1], pFlag]
  once := fun _ f s =>
    let comp := compOf s (fnat f 4)
    if mediaSame s f then none
    else if fnat f 2 = 2 ∧ (comp.isNone ∨ comp.any fun x => fnat x.f 2 = 0) then some .badState
    else if quadOf s (fnat f 1) ∧ (mediaLanes f).length = 1 then some .badState
    else if fnat f 7 = 0 ∧ (mediaLanes f).any (inService s) then some .badState
    else none
  busy := fun _ f s => s.lanes.closing.any fun (t, _, _) => t = 2 + fnat f 1 / 8
  park := fun _ f s => mediaPark f s
  apply := fun _ f s => { s := if mediaSame s f then s else mediaState f s }

/-- 0x0304: transmit taps and swing (R350, R367): at once with training off, else for the next training. -/
def opSetTransmitTaps : Op where
  opcode := 0x0304
  specs := fun _ _ => [pFix 0 31, pNum (-16) 0 1 true,
    pCross 32 64 1 (fun f v => min (max v (8 - fld f 2)) (64 + fld f 2)),
    pCross (-24) 0 1 (fun f v => max v (max (-(64 + fld f 2 - fld f 3)) (-(fld f 3 + fld f 2 - 8)))) true,
    pNum 400 1000 25]
  apply := fun _ f s =>
    let n := fnat f 1
    let taps := slice f 1 4
    let trains := decide (n < 16 ∧ layoutOf s (n / 8) ≠ 0) && portTrains s (portKey s n)
    { s := if trains then modLane n (fun l => { l with stored := some taps }) s
        else modLane n (fun l => { l with taps := taps, stored := none }) s }

/-- 0x0305: polarity. -/
def opSetPolarity : Op where
  opcode := 0x0305
  specs := fun _ _ => [pFix 0 31, pFlag, pFlag]
  apply := fun _ f s =>
    { s := modLane (fnat f 1) (fun l => { l with polTx := fnat f 2 = 1, polRx := fnat f 3 = 1 }) s }

/-- The state after a diagnostic setting of a lane (R365): it leaves its port or SDI mode, or returns to it
through R351 or R355. -/
def diagState (n : Nat) (set : Lane → Lane) (s : State) : State :=
  let was := laneDiag (laneOf s n)
  let s := modLane n set s
  let l := laneOf s n
  let key := portKey s n
  let now := laneDiag l
  let sends := now && decide (l.prbsDir ≠ 2 ∨ l.loop ≠ 0) && !s.supply.squelched
  if was = now then modLane n (fun l => { l with tx := if now then sends else l.tx }) s
  else
    let s := modLane n (fun l => { laneDown l with trs := false, whole := false, tx := sends }) s
    if !portExists s key then s
    else if now then setPort key {} (noteDown key s)
    else startPort key s

/-- 0x0310: PRBS generator and checker (R365). -/
def opPrbsGeneratorChecker : Op where
  opcode := 0x0310
  specs := fun _ s => [pFix 0 31, fun f => { kind := .sel (if lanePam4 s (fnat f 1) then [0, 1, 2, 3, 4, 5] else [0, 1, 2, 4]) },
    pSel [0, 1, 2], pFlag]
  once := fun _ f s =>
    let l := laneOf s (fnat f 1)
    if fnat f 4 = 0 ∧ inService s (fnat f 1) ∧ (fnat f 2 ≠ l.prbs ∨ fnat f 3 ≠ l.prbsDir) then some .badState else none
  apply := fun _ f s => { s := diagState (fnat f 1) (fun l => { l with prbs := fnat f 2, prbsDir := fnat f 3 }) s }

/-- 0x0311: loopback (R365). -/
def opLoopback : Op where
  opcode := 0x0311
  specs := fun _ _ => [pFix 0 31, pSel [0, 1, 2], pFlag]
  once := fun _ f s =>
    if fnat f 3 = 0 ∧ inService s (fnat f 1) ∧ fnat f 2 ≠ (laneOf s (fnat f 1)).loop then some .badState else none
  apply := fun _ f s => { s := diagState (fnat f 1) (fun l => { l with loop := fnat f 2 }) s }

/-! ## Registers (R366, R370) -/

/-- Bits [5:0] of a lane's status. -/
def lockBits (l : Lane) : Nat :=
  b2n l.am * 32 + b2n l.block * 16 + b2n l.cdr * 8 + b2n l.signal * 4 + b2n l.pll * 2 + b2n l.tx

/-- LANE_Nn_STAT. -/
def netLaneStat (s : State) (n : Nat) : Word :=
  let l := laneOf s n
  let layout := layoutOf s (n / 8)
  let mode := if laneDiag l then 5 else if layout = 0 then 0 else 5 - layout
  let first := decide (portKey s n = n) && portExists s n
  let p := portOf s n
  natWord (mode * 2 ^ 28 + l.train * 2 ^ 26 + b2n l.preTx * 2 ^ 25 + b2n l.preRx * 2 ^ 24 + l.pcs % 32 * 2 ^ 16 +
    l.skew % 256 * 2 ^ 8 + b2n (first && decide (p.phase = .up)) * 128 + b2n (first && p.deskewFail) * 64 + lockBits l)

/-- The bit rate of an SDI lane is the /1001 one (R354). -/
def laneFrac (s : State) (l : Lane) : Bool :=
  let frac (r : Nat) : Bool := decide ((rateN r).2 = 1001)
  match fnat l.media 1 with
  | 1 => l.trs && frac l.rate
  | 2 => match compOf s (fnat l.media 3) with
    | some x => frac (tbD s (fnat x.f 1)).rate
    | none => false
  | _ => false

/-- LANE_Mm_STAT of lane 16 + m (R370). CLASS keeps its reset value 0 while the lane is off. -/
def mediaLaneStat (s : State) (n : Nat) : Word :=
  let l := laneOf s n
  let cls := if fnat l.media 1 = 0 then 0 else fnat l.media 2
  let mode := if laneDiag l then 5 else fnat l.media 1
  let aux := decide (fnat l.media 1 = 3)
  natWord (mode * 2 ^ 28 + cls * 2 ^ 24 + b2n (laneFrac s l) * 2 ^ 23 + l.format % 16 * 2 ^ 16 +
    l.link % 4 * 2 ^ 8 + b2n (aux && decide ((portOf s n).phase = .up)) * 128 + b2n l.trs * 64 +
    (if aux then lockBits l else lockBits { l with am := false, block := false }))

/-- The status register of a lane. -/
def laneStat (s : State) (n : Nat) : Word := if n < 16 then netLaneStat s n else mediaLaneStat s n

/-- LANE_REF_STAT. -/
def refStat (s : State) : Word :=
  natWord (b2n s.lanes.refLost * 4 + b2n s.lanes.refclk * 2 + s.lanes.source)

/-- 0x0312: read lane status. The signal-to-noise ratio, eye heights and bit error ratio are measurements of
the line: free values. -/
def opReadLaneStatus : Op where
  opcode := 0x0312
  reads := true
  specs := fun _ _ => [pFix 0 31]
  apply := fun _ f s =>
    let n := fnat f 1
    let l := laneOf s n
    let byte (i : Nat) : Nat := (BitVec.ofInt 8 (fld l.taps i)).toNat
    let (snr, s) := draw s
    let (e0, s) := draw s
    let (e1, s) := draw s
    let (e2, s) := draw s
    let (ber, s) := draw s
    let pam := lanePam4 s n
    let sdi := decide (16 ≤ n) && decide (fnat l.media 1 = 1 ∨ fnat l.media 1 = 2)
    { s := s
      words := [laneStat s n, natWord (byte 3 * 65536 + byte 2 * 256 + byte 1), natWord (fnat l.taps 4), natWord snr,
        natWord e0, if pam then natWord e1 else 0, if pam then natWord e2 else 0, natWord ber,
        natWord (if sdi then (if l.format = 0xF then 0xFF else l.format) else 0)] }

end Sys2Proof.Machine
end

