-- ==== Sys2Proof/Machine/Flows.lean ====
section
/-! DEFINITION. Flow engines and the two paths (R371 to R403): classification, policing, seamless protection,
egress launch, queued traffic, memberships, path health and the interlock's commands, the TUR_ and FLOW_
registers. -/

namespace Sys2Proof.Machine

/-! ## Colours and two-rate policers (R383, R384) -/

/-- The colour of a DSCP value in a Turret's table: 0 green, 1 yellow, 2 red. -/
def dscpColour (table : Fields) (dscp : Nat) : Nat :=
  let c := bits (fnat table (2 + dscp / 16)) (2 * (dscp % 16) + 1) (2 * (dscp % 16))
  min 2 c

/-- Full buckets of a flow's policer. -/
def fullBuckets (s : State) (f : Fields) : TwoRate :=
  { tc := fnat f 29 * byteUnits, tp := fnat f 31 * byteUnits, tick := s.tick }

/-- The two-rate three-colour marker (R383): the colour and the buckets after. -/
def twoRate (s : State) (f : Fields) (x : TwoRate) (counted colour : Nat) : Nat × TwoRate :=
  let dt := s.tick - x.tick
  let tc := min (fnat f 29 * byteUnits) (x.tc + dt * fnat f 28)
  let tp := min (fnat f 31 * byteUnits) (x.tp + dt * fnat f 30)
  let b := counted * byteUnits
  let aware := decide (fnat f 27 = 2)
  let x := { x with tc := tc, tp := tp, tick := s.tick }
  if (aware && decide (colour = 2)) || decide (tp < b) then (2, x)
  else if (aware && decide (colour = 1)) || decide (tc < b) then (1, { x with tp := tp - b })
  else (0, { x with tp := tp - b, tc := tc - b })

/-! ## Ingress flows -/

/-- The key of an ingress flow on a path (R375), 0 A, 1 B, else an auxiliary port: destination, filter, UDP
port. -/
def flowKeys (f : Fields) : List (Nat × Bool × Nat × Nat × Nat) :=
  let v6 := decide (fnat f 5 = 1)
  let a (p : Nat) := (p, v6, flowAddr f v6 6, flowAddr f v6 10, fnat f 14)
  match fnat f 3 with
  | 0 => [a 0, (1, v6, flowAddr f v6 15, flowAddr f v6 19, fnat f 23)]
  | 1 => [a 0]
  | 2 => [a 1]
  | 3 => [a (16 + fnat f 4)]
  | _ => []

/-- The path of a port. -/
def portPath (port : Nat) : Nat := if port < 16 then port / 8 else port

/-- A frame matches a key. -/
def keyMatches (r : RxFrame) (k : Nat × Bool × Nat × Nat × Nat) : Bool :=
  let (p, v6, dst, src, udp) := k
  decide (p = portPath r.port ∧ v6 = r.v6 ∧ dst = r.dst ∧ udp = r.udp ∧ (src = 0 ∨ src = r.src))

/-- The flow that a frame matches: one with a source filter before one that takes any source. -/
def matchFlow (s : State) (r : RxFrame) : Option (Nat × IFlow) :=
  let hits (filtered : Bool) := s.flows.ingress.findSome? fun (i, x) => match x with
    | some x =>
      if fnat x.f 1 = 1 && (flowKeys x.f).any (fun k => keyMatches r k && (decide (k.2.2.2.1 ≠ 0) == filtered))
      then some (i, x) else none
    | none => none
  (hits true).orElse fun _ => hits false

/-- A flow waits for a second copy: it is protected and neither Turret is off (R381, R382). -/
def merges (s : State) (f : Fields) : Bool := decide (fnat f 3 = 0 ∧ layoutOf s 0 ≠ 0 ∧ layoutOf s 1 ≠ 0)

/-- The skew limit of a flow in microseconds: none where it waits for no second copy (R381, R382). -/
def skewOf (s : State) (f : Fields) : Nat := if merges s f then fnat f 26 else 0

/-- Packets passed over as lost (R379, R381). -/
def losePackets (i n : Nat) (s : State) : State :=
  if n = 0 then s else raise 9 1 (bump 0x90008 n (modIflow i (addCount 3 n) s))

/-- A duplicate (R381). -/
def dupPacket (i : Nat) (s : State) : State := bump 0x90004 1 (modIflow i (addCount 2 1) s)

/-- A sequence number extended to the value nearest the highest one accepted (R379). -/
def extendSeq (top seq : Nat) : Nat :=
  let base := top / 65536 * 65536
  let c := base + seq % 65536
  if c + 32768 < top then c + 65536
  else if top + 32768 < c ∧ 65536 ≤ c then c - 65536 else c

/-- The delivery loop of an ordered flow (R381): held packets in order, and a gap passed over once its skew
limit has passed since the earliest held packet above it; the flow, and the packets passed over. -/
def deliver381 (tick skewUs : Nat) : Nat → IFlow → IFlow × Nat
  | 0, x => (x, 0)
  | n + 1, x =>
    let g := x.released + 1
    if x.held.any (·.1 = g) then
      deliver381 tick skewUs n { x with released := g, held := x.held.filter (·.1 ≠ g) }
    else match x.held with
      | [] => (x, 0)
      | h :: t =>
        let since := t.foldl (fun m k => min m k.2) h.2
        let next := t.foldl (fun m k => min m k.1) h.1
        if since + ticksUs skewUs ≤ tick then
          let (y, lost) := deliver381 tick skewUs n { x with released := next - 1 }
          (y, lost + (next - g))
        else (x, 0)

/-- A delivered packet of an ordered flow (R378, R380): samples into the audio ring, ancillary packets to the frame of
their timestamp; a checksum that fails drops its packet, counted as malformed. -/
def deliverLoad (s : State) (x : IFlow) (r : RxLoad) : IFlow :=
  match fnat x.f 2 with
  | 3 | 4 => ringPut s r.stamp (r.audio.map (·.take (fnat x.f 24))) x
  | 5 =>
    let good := r.anc.filter fun p => !ancBad p
    let old := ((x.ancs.find? (·.1 = r.stamp)).map (·.2)).getD []
    let l := (r.stamp, old ++ good) :: x.ancs.filter (·.1 ≠ r.stamp)
    addCount 5 (r.anc.length - good.length) { x with ancs := l.take 8 }
  | _ => x

/-- What has been delivered leaves the merge region in sequence order, for where its type sends it. -/
def unload (s : State) (x : IFlow) : IFlow :=
  let (out, kept) := x.loads.partition fun r => decide (r.seq ≤ x.released)
  (out.mergeSort fun a b => decide (a.seq ≤ b.seq)).foldl (fun x r => deliverLoad s x r) { x with loads := kept }

/-- The delivery loop of flow `i` run to its end. -/
def runDelivery (i : Nat) (s : State) : State :=
  match iflowOf s i with
  | none => s
  | some x =>
    let (y, lost) := deliver381 s.tick (skewOf s x.f) (2 * x.held.length + 1) x
    losePackets i lost (modIflow i (fun _ => unload s y) s)

/-- A packet of an ordered flow (R381). -/
def orderedPacket (i : Nat) (r : RxFrame) (s : State) : State :=
  match iflowOf s i with
  | none => s
  | some x =>
    let path := if portPath r.port = 1 then 1 else 0
    if !x.started then
      let q := r.seq % 65536 + 65536
      modIflow i (fun x => unload s (addCount path 1 { x with
        started := true, released := q, top := q, held := []
        loads := [{ seq := q, stamp := r.stamp, audio := r.audio, anc := r.anc }] })) s
    else
      let q := extendSeq x.top r.seq
      if q ≤ x.released ∨ x.held.any (·.1 = q) then dupPacket i s
      else
        runDelivery i (modIflow i (fun x => addCount path 1 { x with
          held := x.held ++ [(q, s.tick)], top := max x.top q
          loads := x.loads ++ [{ seq := q, stamp := r.stamp, audio := r.audio, anc := r.anc }] }) s)

/-- The frame before frame `k` of a flow's list has a known marker packet: the first number of frame `k`. -/
def firstSeq (l : List RxVideo) (k : Nat) : Nat :=
  let own := match l[k]? with
    | some v => v.seqs.foldl min (v.seqs.headD 0)
    | none => 0
  match k with
  | 0 => own
  | j + 1 => match l[j]? with
    | some { marker := some (q, _), .. } => if q < own then q + 1 else own
    | _ => own

/-- How many packets of a frame are missing, once its marker has arrived. -/
def missingOf (l : List RxVideo) (k : Nat) : Option Nat :=
  match l[k]? with
  | some v => v.marker.map fun (q, _) => (q + 1 - firstSeq l k) - v.seqs.length
  | none => none

/-- Frame `k` of a type 0 flow is complete (R379): its missing packets are lost, and its source has a frame. -/
def completeVideo (i k : Nat) (s : State) : State :=
  match iflowOf s i with
  | none => s
  | some x =>
    let lost := (missingOf x.video k).getD 0
    let s := modIflow i (fun x => { x with video := x.video.modify k fun v => { v with complete := true } }) s
    completeSource i (fnat x.f 24 % 256) (fnat x.f 24 / 256 % 256) ((x.video[k]?).map (·.stamp)) [] (losePackets i lost s)

/-- A packet of a type 0 flow (R379): placed in the frame its time stamp names; late when that frame is
complete. -/
def videoPacket (i : Nat) (r : RxFrame) (s : State) : State :=
  match iflowOf s i with
  | none => s
  | some x =>
    let path := if portPath r.port = 1 then 1 else 0
    let v := (x.video.find? fun v => v.stamp = r.stamp).getD { stamp := r.stamp, seqs := [], marker := none }
    if r.seq ∈ v.seqs then dupPacket i s
    else if v.complete then modIflow i (addCount 4 1) s
    else
      let v := { v with
        seqs := r.seq :: v.seqs
        marker := if r.marker ∧ v.marker.isNone then some (r.seq, s.tick) else v.marker }
      let known := x.video.any fun w => w.stamp = r.stamp
      let l := if known then x.video.map fun w => if w.stamp = r.stamp then v else w else x.video ++ [v]
      let l := l.drop (l.length - 8)
      let s := modIflow i (fun x => addCount path 1 { x with video := l, top := max x.top r.seq }) s
      let k := l.findIdx fun w => w.stamp = r.stamp
      if v.marker.isSome ∧ (!merges s x.f ∨ missingOf l k = some 0) then completeVideo i k s else s

/-! ## Path health (R396) -/

/-- A tick lies within the last `us` microseconds. -/
def recent (s : State) (us : Nat) (t : Option Nat) : Bool := t.any fun t => decide (s.tick ≤ t + ticksUs us)

/-- Condition 3 fails on a Turret: a sentinel flow has received nothing on it within the timeout and something
on the other path. -/
def sentinelFails (s : State) (t : Nat) : Bool :=
  let h := healthOf s t
  let us := fnat h.f 2 * 1000
  (slice h.f 2 8).any fun i => match iflowOf s i.toNat with
    | some x =>
      let (here, there) := if t = 0 then (x.lastA, x.lastB) else (x.lastB, x.lastA)
      decide (0 ≤ i ∧ i < 4096) && fnat x.f 3 = 0 && !recent s us here && recent s us there
    | none => false

/-- Condition 3 of both Turrets judged now. -/
def judgeSentinels (s : State) : State :=
  let a := sentinelFails s 0
  let b := sentinelFails s 1
  modHealth 1 (fun h => { h with sentFail := b }) (modHealth 0 (fun h => { h with sentFail := a }) s)

/-- The codewords corrected and the PRBS bit errors found in a window, counted on their lanes (R365, R370). -/
def countWindow (corrected prbs : List (Nat × Nat)) (s : State) : State :=
  let s := corrected.foldl (fun s (n, k) => if n < 32 ∧ portFec s (portKey s n) then bump (laneCounter n 4) k s else s) s
  prbs.foldl (fun s (n, k) =>
    if n < 32 ∧ (laneOf s n).prbs ≠ 0 ∧ (laneOf s n).prbsDir ≠ 1 then bump (laneCounter n 0x14) k s else s) s

/-- FEC_WINDOW_END (R396): the end of a 10 ms window. -/
def execFecWindowEnd (w : FecWindow) (s : State) : Ran :=
  ran s (if 2 ≤ w.turret then s
    else
      let t := w.turret
      let s := countWindow w.corrected w.prbs s
      let h := healthOf s t
      let bad := (List.range 8).any fun l => carries s (8 * t + l) && decide (fnat h.f 1 < tget 0 h.fec (8 * t + l))
      modHealth t (fun h => { h with fecFail := bad, fec := [] }) s)

/-- SENTINEL_TIMEOUT (R396). -/
def execSentinelTimeout (t flow : Nat) (s : State) : Ran :=
  ran s (if t < 2 ∧ (slice (healthOf s t).f 2 8).any (fun i => i = flow) then judgeSentinels s else s)

/-- HEALTH_SETTLED (R396, R400): the conditions have held for 100 ms, and the interlock follows. -/
def execHealthSettled (t : Nat) (s : State) : Ran :=
  ran s (
    let s := judgeSentinels s
    let h := healthOf s t
    if t < 2 ∧ !h.good ∧ !portsFail s t ∧ healthHolds s t ∧ h.since.any (fun k => elapsed s k 100000) then
      interlock (pathEvent t 5 (modHealth t (fun h => { h with good := true, goodSince := s.tick }) s))
    else s)

/-- HOLDOFF_EXPIRY (R397). -/
def execHoldoffExpiry (s : State) : Ran := ran s (interlock s)

/-! ## Arrival of a frame (R372, R375) -/

/-- A port accepts a frame (R372). -/
def accepts (s : State) (r : RxFrame) : Bool :=
  let v := fnat (identOf s r.port) 15
  r.macOk && decide (r.len ≤ 9216) && (decide (r.port = 32 ∨ v = 0) || decide (r.vlan = some v))

/-- An address is one of the port's own. -/
def ownAddress (s : State) (port : Nat) (v6 : Bool) (addr : Nat) : Bool :=
  let f := identOf s port
  decide (addr ≠ 0 ∧ addr = if v6 then addr128 f 6 else fnat f 3)

/-- What the firmware does with a frame of a privileged class (R395): an answer resolves its sender; a request
or an echo for an address of the port is answered. A command datagram that it carries is taken; PTP messages and group queries
have rows of their own. -/
def firmwareFrame (r : RxFrame) (s : State) : State :=
  let own := ownAddress s r.port r.v6 r.dst
  match r.cls with
  | .neighbour =>
    if r.answer then
      (if own && decide ((r.port, r.src) ∉ s.flows.neigh) then
        { s with flows := { s.flows with neigh := s.flows.neigh ++ [(r.port, r.src)] } }
      else s)
    else if own then send (.control r.port 6 r.src) s else s
  | .echo =>
    let head := 14 + 4 + (if r.vlan.isSome then 4 else 0) + (if r.v6 then 40 else 20) + 8
    if own && !r.answer && decide (r.len ≤ 1472 + head) then send (.control r.port 7 r.src) s else s
  | .command => (match r.datagram with
    | some d => takeCommand d s
    | none => s)
  | _ => s

/-- A media frame of flow `i`: policed, then depacketized (R375, R378, R383). -/
def mediaFrame (i : Nat) (x : IFlow) (r : RxFrame) (s : State) : State :=
  let b := decide (portPath r.port = 1)
  let off := if b then 9 else 6
  let (colour, s) :=
    if fnat x.f 27 = 0 then (0, s)
    else
      let (c, p) := twoRate s x.f (if b then x.polB else x.polA) (countedLen s r.port r.len)
        (dscpColour (turretTable s r.port) r.dscp)
      (c, modIflow i (fun x => addCount (off + c) 1 (if b then { x with polB := p } else { x with polA := p })) s)
  if colour = 2 then bump 0x9000C 1 s
  else if colour = 1 ∧ fnat x.f 32 = 1 then s
  else
    let s := modIflow i (fun x => { x with
      ports := if r.port ∈ x.ports then x.ports else x.ports ++ [r.port]
      lastA := if portPath r.port = 0 then some s.tick else x.lastA
      lastB := if b then some s.tick else x.lastB }) s
    let s := judgeSentinels s
    if r.malformed then modIflow i (addCount 5 1) s
    else if fnat x.f 2 = 0 then videoPacket i r s
    else orderedPacket i r s

/-- A frame to a group that no enabled flow takes: a disabled flow's membership of that group, of that path and with
a filter that lets the frame's source pass, has its port from here on (R396). -/
def noteMember (r : RxFrame) (s : State) : State :=
  let hit (m : Nat × Nat × Nat) : Bool := decide (m.1 = portPath r.port ∧ m.2.1 = r.dst ∧ (m.2.2 = 0 ∨ m.2.2 = r.src))
  let note (x : IFlow) : IFlow :=
    if (flowMembers x.f).any hit && (decide (fnat x.f 5 = 1) == r.v6) && decide (r.port ∉ x.ports) then
      { x with ports := x.ports ++ [r.port] }
    else x
  { s with flows := { s.flows with ingress := tmap none s.flows.ingress fun _ x => x.map note } }

/-- The addresses of PTP messages over UDP of IEEE 1588-2019 Annex C and Annex D: 224.0.1.129, 224.0.0.107, FF0x::181
and FF02::6B. -/
def ptpAddress (v6 : Bool) (a : Nat) : Bool :=
  if v6 then
    decide (a = 0xFF02 * 2 ^ 112 + 0x6B) || (decide (a / 2 ^ 120 = 0xFF ∧ a / 2 ^ 116 % 16 = 0) && decide (a % 2 ^ 112 = 0x181))
  else decide (a = 0xE0000181 ∨ a = 0xE000006B)

/-- The class of R376 that an arriving frame belongs to: PTP messages at their ports and addresses, commands at the
port's address. -/
def classOf (s : State) (r : RxFrame) : FrameClass :=
  let own := ownAddress s r.port r.v6 r.dst
  match r.cls with
  | .ptpEvent => if r.udp = 319 ∧ (own ∨ ptpAddress r.v6 r.dst) then .ptpEvent else .media
  | .ptpGeneral => if r.udp = 320 ∧ (own ∨ ptpAddress r.v6 r.dst) then .ptpGeneral else .media
  | .command => if r.udp = 4880 ∧ own then .command else .media
  | c => c

/-- FRAME_RECEIVED (R372, R375): a frame on a port that is up. -/
def execFrameReceived (r : RxFrame) (s : State) : Ran :=
  ran s (if 33 ≤ r.port ∨ !portUp s r.port then s
    else if !accepts s r then
      (if r.port < 16 then bump (0x80108 + 0x100 * (r.port / 8)) 1 s
      else if r.port < 32 then bump 0x90000 1 s else s)
    else
      let r := { r with cls := classOf s r }
      match policerOf r.port r.cls with
      | some p =>
        let (pass, s) := police p (countedLen s r.port r.len) s
        if pass then firmwareFrame r s else s
      | none =>
        match (if r.cls = .media then matchFlow s r else none) with
        | some (i, x) => mediaFrame i x r s
        | none =>
          let s := if r.cls = .media then noteMember r s else s
          if r.port < 16 then bump (0x80104 + 0x100 * (r.port / 8)) 1 s else s)

/-- VIDEO_FRAME_SKEW_TIMEOUT (R379): the oldest frame of a protected flow whose skew limit has passed since its
marker's first copy. -/
def execVideoFrameSkewTimeout (i : Nat) (s : State) : Ran :=
  ran s (match iflowOf s i with
    | none => s
    | some x =>
      let due (v : RxVideo) : Bool := !v.complete && v.marker.any fun (_, t) => elapsed s t (skewOf s x.f)
      let k := x.video.findIdx due
      if fnat x.f 2 = 0 ∧ fnat x.f 3 = 0 ∧ k < x.video.length then completeVideo i k s else s)

/-- MERGE_GAP_TIMEOUT (R381). -/
def execMergeGapTimeout (i : Nat) (s : State) : Ran := ran s (runDelivery i s)

/-! ## Egress: paths of a packet (R385, R386, R398) -/

/-- Egress flow `i`. -/
def eflowOf (s : State) (i : Nat) : Option EFlow := tget none s.flows.egress i

/-- The state with egress flow `i` set. -/
def setEflow (i : Nat) (x : Option EFlow) (s : State) : State :=
  { s with flows := { s.flows with egress := tset none s.flows.egress i x } }

/-- The ports that a target sends on, in the order A, B: 0 both, 1 Turret A, 2 Turret B, 3 the interlock's
Turret, 4 an auxiliary port. -/
def targetPorts (s : State) (paths lane : Nat) : List Nat :=
  let l := match paths with
    | 0 => [lane, 8 + lane]
    | 1 => [lane]
    | 2 => [8 + lane]
    | 3 => [8 * b2n s.flows.selB + lane]
    | _ => [16 + lane]
  l.filter (portExists s)

/-- Every Turret that a target names whose layout is not off has a port starting at the lane; an auxiliary
target's lane is an auxiliary port (R385). -/
def targetOk (s : State) (paths lane : Nat) : Bool :=
  let ok (t : Nat) : Bool := layoutOf s t = 0 || portStart (layoutOf s t) lane
  match paths with
  | 0 | 3 => ok 0 && ok 1
  | 1 => portStart (layoutOf s 0) lane
  | 2 => portStart (layoutOf s 1) lane
  | _ => portExists s (16 + lane)

/-- The destination of a flow's packets on a port. -/
def destOn (f : Fields) (port : Nat) : Nat :=
  let v6 := decide (fnat f 6 = 1)
  flowAddr f v6 (if fnat f 3 = 0 ∧ portPath port = 1 then 12 else 7)

/-- A packet's transmit timestamp placed in its Turret's queue (R149); auxiliary ports have none. -/
def stampTx (ident port : Nat) (s : State) : State :=
  if 16 ≤ port then s
  else
    let t := (clockNs s * 10 + txCorrection s port) / 10
    tsqPush (port / 8) ident (t / 1000000000) (t % 1000000000) s

/-! ## Launch (R387, R388, R391) -/

/-- The context of a flow's record: its source context or 0xFFFF. -/
def launchCtx (f : Fields) : Nat := if (fnat f 2 = 1 ∨ fnat f 2 = 2) ∧ fnat f 5 < 256 then fnat f 5 else 0xFFFF

/-- The path code of a set of ports. -/
def pathCode (ports : List Nat) : Nat :=
  if ports.any (16 ≤ ·) then 3
  else if ports.any (· < 8) && ports.any (8 ≤ ·) then 2
  else if ports.any (8 ≤ ·) then 1 else 0

/-- A LAUNCH_WINDOW event (R391). -/
def windowEvent (ctx source kind path srcKind count : Nat) (launch now : Int) (s : State) : State :=
  emit 0x04E0 ctx source (leBytes 4 (BitVec.ofInt 32 launch).toNat ++ leBytes 4 (BitVec.ofInt 32 now).toNat ++
    leBytes 4 count ++ [BitVec.ofNat 8 kind, BitVec.ofNat 8 path, BitVec.ofNat 8 srcKind, 0]) s

/-- A packet launched at once: counted; an event unless one went out in the last 100 ms. -/
def windowNote (count : Nat) (last : Option Nat) (s : State) : Bool × Nat × Option Nat :=
  if last.any (fun t => !elapsed s t 100000) then (false, count + 1, last) else (true, 0, some s.tick)

/-- The raster of a flow's source. -/
def sourceTb (s : State) (f : Fields) : Timebase :=
  if fnat f 2 = 1 ∨ fnat f 2 = 2 then
    (if fnat f 5 < 256 then tbD s (ctxOf s (fnat f 5)).tb
    else match tget none s.groups (fnat f 5 - 0x100) with
      | some g => tbD s (fnat g.f 1)
      | none => { rate := 0, format := 0 })
  else match compOf s (fnat f 5) with
    | some x => tbD s (fnat x.f 1)
    | none => { rate := 0, format := 0 }

/-! ## Pace and order on the wire (R279, R387 to R389) -/

/-- The rate of a port in Gb/s. -/
def portGbps (s : State) (p : Nat) : Nat :=
  if p = 32 then 1
  else if 16 ≤ p then 25
  else match layoutOf s (p / 8) with
    | 1 => 800
    | 2 => 400
    | 3 => 100
    | _ => 25

/-- Now in ps of the tick counter. -/
def nowPs (s : State) : Nat := 1600 * s.tick

/-- The time in ps that a frame of a counted length takes on a port's wire, at the port rate (R387). -/
def wirePs (s : State) (p counted : Nat) : Nat := ceilDiv (counted * 8000) (portGbps s p)

/-- A port's wire is free. -/
def wireFree (s : State) (p : Nat) : Bool := decide (tget 0 s.flows.wire p ≤ nowPs s)

/-- A frame of a counted length on a port's wire from now on. -/
def takeWire (p counted : Nat) (s : State) : State :=
  { s with flows := { s.flows with wire := tset 0 s.flows.wire p (nowPs s + wirePs s p counted) } }

/-- The counted lengths of packets on the first path that they take (R279). -/
def countedSum (s : State) (f : Fields) (lens : List Nat) : Nat :=
  let p := (targetPorts s (fnat f 3) (fnat f 4)).headD 0
  (lens.map (countedLen s p)).sum

/-- The time that a coded unit's packets may take from `began` on: to 20 microseconds before its slot ends, the top
field of a pair its share by bytes (DESIGN CHOICE, log entry 103). -/
def slotLeft (t : Timebase) (u : EgUnit) : Nat :=
  let (num, den) := rateN t.rate
  let slot : Int := den * 1000000000 / num - 20000
  let left := (if u.window = 0 then u.launch + slot - u.began else slot).toNat
  left * u.bytes / max 1 (u.bytes + u.rest)

/-- When `c` bytes of a unit's `total` have left at the rate max(R_p, S / (P - 20 us)) (R279). -/
def paced (t : Timebase) (u : EgUnit) (c total : Nat) : Int :=
  u.began + min (8000000 * c / max 1 u.peak) (c * slotLeft t u / max 1 total)

/-- The raster time at which the next packet of a unit in progress leaves (R279, R388). -/
def packetDue (s : State) (u : EgUnit) : Int :=
  let t := sourceTb s u.f
  let (num, den) := rateN t.rate
  let (_, h, ltot, _) := formatOf t.format
  let n := max 1 u.lens.length
  match fnat u.f 2 with
  | 0 =>
    let j := if fnat u.f 23 = 2 then u.next / 4 * 4 else u.next
    if fnat u.f 23 = 1 then u.launch + j * den * 1000000000 / (num * n)
    else u.launch + j * den * 1000000000 * h / (num * ltot * n)
  | 1 | 2 => paced t u (countedSum s u.f (u.lens.take u.next)) (countedSum s u.f u.lens)
  | _ => u.launch

/-- The rate c x R_p, or c x R_mux, of a transport stream in kb/s (R278); a group takes the c of its lowest member. -/
def tsRate (s : State) (f : Fields) : Nat :=
  let of (c rate : Nat) : Nat := c * rate / 100
  if fnat f 5 < 256 then
    let x := ctxOf s (fnat f 5)
    of (fnat x.rate.h 1) (peakOf x)
  else match tget none s.groups (fnat f 5 - 0x100) with
    | some g => of (((membersOf s (fnat f 5 - 0x100)).head?.map fun m => fnat m.2.rate.h 1).getD 400) (fnat g.f 2)
    | none => 0

/-- The time in ns until the next null datagram of a transport stream that has begun (R278). -/
def nullLeft (s : State) (q : EFlow) : Option Int :=
  if fnat q.f 2 ≠ 2 ∨ fnat q.f 1 = 0 ∨ tsRate s q.f = 0 then none
  else q.lastTs.map fun (k : Nat) => (1316 * 8000000 / tsRate s q.f : Nat) - ((s.tick - k) * 8 / 5 : Nat)

/-- The launch of composed frame `n` (R388): type 0 gapped and wide at active line 0 of frame n + 1 plus O, linear and
type 5 at A(n + 1) + O. -/
def composedAt (s : State) (f : Fields) (tb : Nat) (n : Int) : Int :=
  let t := tbD s tb
  if fnat f 2 = 0 ∧ fnat f 23 ≠ 1 then positionNs t (n + 1 - t.offset) 0 0 + fld f 22
  else alignPoint t.rate (n + 1 - t.offset) + fld f 22

/-- The newest composed frame whose launch has come (R388). -/
def composedDue (s : State) (f : Fields) (tb : Nat) : Int :=
  let t := tbD s tb
  if fnat f 2 = 0 ∧ fnat f 23 ≠ 1 then reached s tb 0 0 (fld f 22) - 1
  else idealCount t.rate (heldNs s t - fld f 22) + t.offset - 1

/-- An audio flow's bound flow with its delay, the samples of a packet, and the timestamp, not yet brought to 32 bits,
of its newest packet whose time has come (R388). -/
def audioDue (s : State) (f : Fields) : Option (Nat × Nat × Nat × Int) :=
  ((boundFlows s (fnat f 5)).find? fun b => b.2.1 = fnat f 24).bind fun (i, _, late) =>
    (tget none s.flows.ingress i).map fun x =>
      let n := if fnat x.f 2 = 3 ∧ bit (fnat x.f 25) 8 then 6 else 48
      let now := count48 (heldNs s (sourceTb s f) - fld f 22) - late
      (i, late, n, now / n * n + late)

/-- What a flow sends next: a frame-start packet or not, and the ns until its time, not positive once that has come. -/
structure NextUp where
  start : Bool
  left  : Int
  deriving DecidableEq, Repr

/-- The next packet of an egress flow (R387, R388), none where it has none to send. -/
def nextUp (s : State) (q : EFlow) : Option NextUp :=
  let now := heldNs s (sourceTb s q.f)
  match q.units with
  | u :: _ =>
    if u.next ≠ 0 then some { start := false, left := packetDue s u - now }
    else if fnat q.f 1 = 0 then none
    else some { start := true, left := if u.window = 0 then max u.launch q.freeAt - now else 0 }
  | [] =>
    if fnat q.f 1 = 0 then none
    else match fnat q.f 2 with
      | 0 | 5 => (compOf s (fnat q.f 5)).map fun x =>
          let n := composedDue s q.f (fnat x.f 1)
          let n := if q.lastSent.any (fun k => decide (n ≤ k)) then n + 1 else n
          { start := decide (fnat q.f 2 = 0), left := composedAt s q.f (fnat x.f 1) n - now }
      | 3 | 4 => (audioDue s q.f).map fun (_, _, n, t) =>
          let t := if q.lastSent.any (fun k => decide (t ≤ k)) then t + n else t
          { start := false, left := -((-t * 1000000) / 48) + fld q.f 22 - now }
      | _ => none

/-- The null datagram of a transport stream that comes next, which fills the time between its packets (R278). -/
def nextNull (s : State) (q : EFlow) : Option NextUp := (nullLeft s q).map fun d => { start := false, left := d }

/-- The egress flows with a packet to send, those deleted with a frame in flight among them: each flow's number, its
next packet, and the ports that it takes. -/
def pendingUp (s : State) : List (Nat × NextUp × List Nat) :=
  (s.flows.egress ++ s.flows.tails).flatMap fun (i, q) => match q with
    | none => []
    | some q =>
      let f := match q.units with
        | u :: _ => if u.next = 0 then q.f else u.f
        | [] => q.f
      ((nextUp s q).toList ++ (nextNull s q).toList).map fun k => (i, k, targetPorts s (fnat f 3) (fnat f 4))

/-- On a port, no frame-start launch comes before a frame of a counted length that starts now has ended (R387). -/
def guardHolds (s : State) (p counted : Nat) : Bool :=
  (pendingUp s).all fun (_, k, ports) => !k.start || p ∉ ports || decide ((wirePs s p counted : Int) ≤ 1000 * k.left)

/-- On a port, no launch of either higher class comes before a queued frame that starts now has ended (R387). -/
def queueGuard (s : State) (p counted : Nat) : Bool :=
  wireFree s p &&
    ((pendingUp s).all fun (_, k, ports) => p ∉ ports || decide ((wirePs s p counted : Int) ≤ 1000 * k.left)) &&
    s.flows.timed.all fun x => x.port ≠ p ||
      decide ((wirePs s p counted : Int) ≤ 1000 * diff32 x.launch.toNat (clockNs s))

/-- The next packet of flow `i` may start on its ports: its time has come, the wires are free, none of its class is
before it, by time and then by flow, and it meets no frame-start launch (R387, R389). -/
def mayStart (s : State) (i : Nat) (k : NextUp) (ports : List Nat) (len : Nat) : Bool :=
  let ahead (j : Nat) (m : NextUp) : Bool :=
    m.start == k.start && decide (m.left ≤ 0) && (decide (m.left < k.left) || (decide (m.left = k.left) && decide (j < i)))
  decide (k.left ≤ 0) && ports.all fun p =>
    wireFree s p && (pendingUp s).all (fun (j, m, at') => j = i || p ∉ at' || !ahead j m) &&
      (k.start || guardHolds s p (countedLen s p len))

/-- One packet on the wire of every port that its flow's settings name and that has resolved its destination
(R386): the state, and the flow. -/
def sendOn (i : Nat) (f : Fields) (len seq stamp : Nat) (marker : Bool) (load : Load) (q : EFlow) (s : State) :
    State × EFlow :=
  let ports := targetPorts s (fnat f 3) (fnat f 4)
  let v6 := decide (fnat f 6 = 1)
  let (yes, no) := ports.partition fun p => resolved s p v6 (destOn f p)
  let s := no.foldl (fun s p =>
    raise 9 3 (bump 0x90014 1 (send (.control p 5 (nextHop s p v6 (destOn f p))) s))) s
  let s := yes.foldl (fun s p => takeWire p (countedLen s p len) s) s
  let s := if yes = [] then s else send (.packet i (pathCode yes) len seq stamp marker f load) s
  let s := if fnat f 25 = 1 then yes.foldl (fun s p => stampTx seq p s) s else s
  let onB := yes.any fun p => portPath p = 1
  let onA := yes.any fun p => portPath p ≠ 1
  let add (w n : Nat) (l : List Nat) : List Nat := l.modify w (· + n)
  let c := add 0 (b2n onA) (add 1 (b2n onB) (add 2 (b2n onA * len) (add 3 (b2n onB * len) (add 5 no.length q.counts))))
  (s, { q with counts := c })

/-- The modulus of a type's RTP sequence numbers (R379). -/
def seqModulus (f : Fields) : Nat := if fnat f 2 = 0 then 2 ^ 32 else 2 ^ 16

/-- The PCR of now (R160): PTP time at 27 MHz. -/
def pcrNow (s : State) : Nat := clockNs s * 27 / 1000 % (2 ^ 33 * 300)

/-- The programs of a transport stream whose PAT and PMT go with its next datagram: every 100 ms (R278). -/
def tablesDue (s : State) (q : EFlow) : List Nat :=
  if q.lastPat.any (fun k => !elapsed s k 100000) then []
  else if fnat q.f 5 < 256 then [fnat q.f 5] else (membersOf s (fnat q.f 5 - 0x100)).map (·.1)

/-- A datagram of a transport stream as the flow remembers it. -/
def noteTs (s : State) (q : EFlow) : EFlow :=
  { q with lastTs := some s.tick, lastPat := if tablesDue s q = [] then q.lastPat else some s.tick }

/-- What the next packet of a unit carries (R276, R278, R388); each datagram of a transport stream carries a PCR (DESIGN
CHOICE, log entry 103). -/
def loadOf (u : EgUnit) (q : EFlow) (s : State) : Load × State :=
  match fnat u.f 2 with
  | 0 => (.video u.frame u.next, s)
  | 1 => (.coded u.nals u.next, s)
  | 2 =>
    let (audio, s) := match compOf s u.ctx with
      | some x => if u.next = 0 ∧ !u.bottom then unitAudio u.ctx x u.frame u.pts s else ([], s)
      | none => ([], s)
    (.ts (pcrNow s) (tablesDue s q) u.ctx u.pts u.nals audio u.next, s)
  | _ =>
    let l := match compOf s (fnat u.f 5) with
      | some x => ((x.outs.find? fun o => o.frame = u.frame).map (·.anc)).getD []
      | none => []
    (.anc u.frame l, s)

/-- The next packet of a unit: the flow after it, the unit dropped once its last packet has gone. A packet whose
bytes failed in the output pool is not sent (R432). -/
def sendUnit (i : Nat) (u : EgUnit) (rest : List EgUnit) (q : EFlow) (s : State) : EFlow × State :=
  let last := decide (u.lens.length ≤ u.next + 1)
  let (load, s) := loadOf u q s
  let (s, q) := if u.next ∈ u.failed then (s, q)
    else sendOn i u.f (u.lens.getD u.next 64) q.seq u.stamp last load q s
  let q := if fnat u.f 2 = 2 then noteTs s q else q
  let all := countedSum s u.f u.lens
  let q := if last then { q with units := rest, freeAt := paced (sourceTb s u.f) u all all }
    else { q with units := { u with next := u.next + 1 } :: rest }
  ({ q with seq := (q.seq + 1) % seqModulus u.f }, s)

/-- The random start of a flow's RTP sequence numbers (R277): that of its context, or a value of its own. -/
def startSeq (f : Fields) (q : EFlow) (s : State) : EFlow × State :=
  if q.started then (q, s)
  else if (fnat f 2 = 1 ∨ fnat f 2 = 2) ∧ fnat f 5 < 256 then
    ({ q with seq := (ctxOf s (fnat f 5)).rtpSeq, started := true }, s)
  else
    let (v, s) := draw s
    ({ q with seq := v % seqModulus f, started := true }, s)

/-- A unit's first packet leaves under the flow's settings of now; a unit outside the window of R148 leaves at
once and is reported. -/
def beginUnit (i : Nat) (u : EgUnit) (lens : List Nat) (q : EFlow) (s : State) : EgUnit × EFlow × State :=
  let now := heldNs s (sourceTb s q.f)
  let from' := if u.window = 0 then u.launch else now
  let u := { u with f := q.f, lens := lens, began := max from' q.freeAt }
  let (q, s) := startSeq q.f q s
  if u.window = 0 then (u, q, s)
  else
    let s := raise 9 0 (bump 0x90010 1 s)
    let (ev, n, t) := windowNote q.window q.lastEvent s
    let ports := targetPorts s (fnat q.f 3) (fnat q.f 4)
    let since := q.window + 1
    let q := { q with window := n, lastEvent := t, counts := q.counts.modify 4 (· + 1) }
    let s := if ev then windowEvent (launchCtx q.f) i u.window (pathCode ports) 0 since u.launch now s else s
    (u, q, s)

/-- One packet of an egress audio flow (R388): the newest packet whose time has come. -/
def launchAudio (i len : Nat) (q : EFlow) (s : State) : State :=
  match audioDue s q.f, compOf s (fnat q.f 5) with
  | some (j, late, n, t), some x =>
    let tb := tbD s (fnat x.f 1)
    let frame := (idealCount tb.rate (t * 1000000 / 48) + tb.offset).toNat
    let (q, s) := startSeq q.f q s
    let (l, s) := readRing j (outMuted x frame) (t - late) n s
    let (s, q) := sendOn i q.f len q.seq (t % 2 ^ 32).toNat true (.audio l) q s
    setEflow i (some { q with seq := (q.seq + 1) % 65536, lastSent := some t.toNat }) s
  | _, _ => s

/-- A packet of a frame or access unit of a flow that has one: the next of the one in progress, or the first of the
next. -/
def launchUnit (i : Nat) (u : EgUnit) (rest : List EgUnit) (lens : List Nat) (q : EFlow) (s : State) : EFlow × State :=
  if u.next ≠ 0 then sendUnit i u rest q s
  else
    let (u, q, s) := beginUnit i u lens q s
    sendUnit i u rest q s

/-- A datagram of null packets (R278). -/
def launchNulls (i len : Nat) (q : EFlow) (s : State) : State :=
  let (s, q) := sendOn i q.f len q.seq (count90 (heldNs s (sourceTb s q.f)) % 2 ^ 32).toNat false
    (.nulls (pcrNow s) (tablesDue s q)) q s
  setEflow i (some { noteTs s q with seq := (q.seq + 1) % 65536 }) s

/-- The packet of flow `i` whose time has come. -/
def launchNext (i : Nat) (lens : List Nat) (q : EFlow) (s : State) : State :=
  match q.units with
  | u :: rest =>
    let (q, s) := launchUnit i u rest lens q s
    setEflow i (some q) s
  | [] =>
    match fnat q.f 2 with
    | 0 | 5 =>
      (match compOf s (fnat q.f 5) with
        | some x =>
          let tb := fnat x.f 1
          let n := composedDue s q.f tb
          let u : EgUnit := { frame := n.toNat, bottom := false, launch := composedAt s q.f tb n, bytes := 0
                              stamp := unitStamp s tb n.toNat false }
          let (q, s) := launchUnit i u [] lens { q with lastSent := some n.toNat } s
          setEflow i (some q) s
        | none => s)
    | _ => launchAudio i (lens.headD 64) q s

/-- A packet of a frame whose flow has been deleted (R401). -/
def launchTail (i : Nat) (q : EFlow) (s : State) : State :=
  match q.units with
  | [] => s
  | u :: rest =>
    let (q, s) := sendUnit i u rest q s
    { s with flows := { s.flows with tails := tset none s.flows.tails i (if q.units = [] then none else some q) } }

/-- The ports of a flow's next packet, and its length. -/
def nextTarget (s : State) (q : EFlow) (lens : List Nat) : List Nat × Nat :=
  let (f, len) := match q.units with
    | u :: _ => if u.next = 0 then (q.f, lens.headD 64) else (u.f, u.lens.getD u.next 64)
    | [] => (q.f, lens.headD 64)
  (targetPorts s (fnat f 3) (fnat f 4), len)

/-- A unit whose launch has come while its flow is disabled is not sent (R374). -/
def dropDisabled (s : State) (q : EFlow) : EFlow :=
  let now := heldNs s (sourceTb s q.f)
  match q.units with
  | u :: rest =>
    if u.next = 0 ∧ fnat q.f 1 = 0 ∧ (u.window ≠ 0 ∨ u.launch ≤ now) then { q with units := rest } else q
  | [] => q

/-- The ns until a timed host packet's launch, in local time (R148). -/
def timedLeft (s : State) (x : HostTimed) : Int := diff32 x.launch.toNat (clockNs s)

/-- The host packet whose launch time has come: the earliest (R148). -/
def timedDue (s : State) : Option HostTimed :=
  s.flows.timed.foldl (fun best x =>
    if 0 < timedLeft s x then best
    else match best with
      | none => some x
      | some y => if timedLeft s x < timedLeft s y then some x else some y) none

/-- A timed host packet may start (R387): its wire is free, no timed packet of a flow is before it or with it, and it
meets no frame-start launch. -/
def hostMayStart (s : State) (x : HostTimed) : Bool :=
  wireFree s x.port && guardHolds s x.port x.len && (pendingUp s).all fun (_, m, ports) =>
    m.start || x.port ∉ ports || decide (0 < m.left ∨ timedLeft s x < m.left)

/-- A host packet on the wire, of a counted length. -/
def sendHost (port tag len : Nat) (stamp : Bool) (s : State) : State :=
  let s := send (.hostPacket port tag) (takeWire port len s)
  if stamp then stampTx tag port s else s

/-- PACKET_LAUNCH (R387). -/
def execPacketLaunch (x : Launch) (s : State) : Ran :=
  ran s (match x with
    | .host =>
      (match timedDue s with
        | some q =>
          if hostMayStart s q then
            sendHost q.port q.tag q.len q.stamp { s with flows := { s.flows with timed := s.flows.timed.erase q } }
          else s
        | none => s)
    | .flow i lens =>
      let may (q : EFlow) (s : State) : Bool :=
        let (ports, len) := nextTarget s q lens
        (nextUp s q).any fun k => mayStart s i k ports len
      match tget none s.flows.tails i with
      | some q => if may q s then launchTail i q s else s
      | none =>
        match eflowOf s i with
        | none => s
        | some q =>
          let q := dropDisabled s q
          let s := setEflow i (some q) s
          if may q s then launchNext i lens q s
          else if (nextNull s q).any fun k => mayStart s i k (targetPorts s (fnat q.f 3) (fnat q.f 4)) (lens.headD 64) then
            launchNulls i (lens.headD 64) q s
          else s)

/-! ## Queued traffic (R392, R393, R398) -/

/-- Queue `k` of port `p`. -/
def drrOf (s : State) (p k : Nat) : Drr := tget {} s.flows.drr (1024 * p + k)

/-- The state with queue `k` of port `p` set. -/
def setDrr (p k : Nat) (q : Drr) (s : State) : State :=
  { s with flows := { s.flows with drr := tset {} s.flows.drr (1024 * p + k) q } }

/-- Exclusive packets wait in one set of queues, which the open gate serves (R398): those that wait at the closed
gate pass over to the same queue of the open one. -/
def followGate (s : State) : State :=
  let closed := b2n (!s.flows.selB)
  let hit (e : Nat × Drr) : Bool := e.1 / 1024 / 8 = closed && e.2.pkts.any (·.excl)
  (s.flows.drr.filter hit).foldl (fun s (key, q) =>
    let here := 8 * (1 - closed) + key / 1024 % 8
    let d := drrOf s here (key % 1024)
    setDrr here (key % 1024) { d with pkts := d.pkts ++ q.pkts.filter (·.excl) }
      (setDrr (key / 1024) (key % 1024) { q with pkts := q.pkts.filter fun p => !p.excl } s)) s

/-- The counted length of an event packet on a port (R60, R97, R373): reply header, record, and the headers of its
frame. -/
def eventLen (s : State) (p : Nat) (sub : Sub) (e : Event) : Nat :=
  let vlan := if p < 32 ∧ fnat (identOf s p) 15 ≠ 0 then 4 else 0
  countedLen s p ((eventWire sub.seq sub.lost e).length + 8 + (if fnat sub.f 2 = 1 then 40 else 20) + vlan + 18)

/-- The events of subscriber `k` that wait for a port, as packets: each takes the sequence number and the loss count
of the moment at which it is sent (R96, R97). -/
def eventPkts (s : State) (p k : Nat) : List QPkt :=
  match tget none s.cmd.subs k with
  | some sub => (sub.queue.filter (·.1 = p)).map fun (_, e) =>
      { len := eventLen s p sub e, what := .event k 0 sub.seq sub.lost e (eventWire sub.seq sub.lost e) }
  | none => []

/-- Queue `k` of port `p` as the scheduler sees it: the firmware's queues 0 to 15 hold the subscribers' events, each
its own subscriber's (DESIGN CHOICE, log entry 58). -/
def portQueue (s : State) (p k : Nat) : Drr :=
  if k < 16 then { drrOf s p k with enable := true, pkts := eventPkts s p k } else drrOf s p k

/-- The non-empty enabled queues of a port, in ascending number. -/
def busyQueues (s : State) (p : Nat) : List Nat :=
  ((List.range 16).filter fun k => eventPkts s p k ≠ []) ++
    (s.flows.drr.filter fun (key, q) => key / 1024 = p && 16 ≤ key % 1024 && q.enable && q.pkts ≠ []).map
      fun (key, _) => key % 1024

/-- The queue after `k` in the round: the next one up, or the lowest. -/
def nextQueue (l : List Nat) (k : Nat) : Option Nat := (l.find? (k < ·)).orElse fun _ => l.head?

/-- The visits of the scheduler until a head packet may leave (R392): the queue, with its deficit. -/
def visitQueues (s : State) (p : Nat) (l : List Nat) : Nat → Nat → Tab Nat → Option (Nat × Tab Nat)
  | 0, _, _ => none
  | n + 1, k, extra =>
    match nextQueue l k with
    | none => none
    | some k =>
      let q := portQueue s p k
      let d := tget q.deficit extra k + q.quantum
      let extra := tput extra k (some d)
      match q.pkts with
      | h :: _ => if h.len ≤ d then some (k, extra) else visitQueues s p l n k extra
      | [] => none

/-- The first event of subscriber `k` that waits for port `p`, gone from its queue (R96, R97). -/
def sentEvent (p k : Nat) (s : State) : State :=
  match tget none s.cmd.subs k with
  | some sub =>
    setSub k { sub with seq := sub.seq + 1, lost := 0, queue := sub.queue.eraseP (·.1 = p) } s
  | none => s

/-- The head packet of a queue sent, its counted length taken from the deficit; a queue that empties loses
it. -/
def sendHead (p k : Nat) (q : Drr) (s : State) : State :=
  match q.pkts with
  | [] => s
  | h :: t =>
    let s := if k < 16 then sentEvent p k s else s
    let s := setDrr p k { q with
      enable := decide (16 ≤ k) && q.enable, pkts := if k < 16 then [] else t
      deficit := if t = [] then 0 else q.deficit - h.len } s
    let s := takeWire p h.len { s with flows := { s.flows with visit := tset 0 s.flows.visit p (k + 1) } }
    match h.stamp with
    | some tag => stampTx tag p (send h.what s)
    | none => send h.what s

/-- QUEUED_PACKET_SEND (R392): the next queued packet of a port, from the queue under way while its deficit
lasts, else from the first queue that can send on the way through its rounds. While the guard of R387 stops it, the
port idles. -/
def execQueuedPacketSend (p : Nat) (s : State) : Ran :=
  ran s (if !portUp s p then s
    else
      let s := followGate s
      let l := busyQueues s p
      let cur := tget 0 s.flows.visit p - 1
      let q := portQueue s p cur
      if decide (tget 0 s.flows.visit p ≠ 0 ∧ cur ∈ l) && q.pkts.head?.any (fun h => decide (h.len ≤ q.deficit)) then
        (if q.pkts.head?.any (fun h => queueGuard s p h.len) then sendHead p cur q s else s)
      else
        match visitQueues s p l (150 * (l.length + 1)) cur [] with
        | none => s
        | some (k, extra) =>
          if (portQueue s p k).pkts.head?.any fun h => queueGuard s p h.len then
            let s := extra.foldl (fun s (j, d) => setDrr p j { drrOf s p j with deficit := d } s) s
            sendHead p k (portQueue s p k) s
          else s)

/-! ## Memberships and neighbours (R394, R395) -/

/-- MEMBERSHIP_REPORT_REPEAT (R394): the second report of each join and leave. -/
def execMembershipReportRepeat (s : State) : Ran :=
  ran s (
    let l := s.flows.reports
    let s := { s with flows := { s.flows with reports := [] } }
    l.foldl (fun s m => report (if m ∈ s.flows.members then 3 else 2) m s) s)

/-- MEMBERSHIP_QUERY_RESPONSE (R394): a query on a port, for one group or, with 0, for all; an older querier puts the
port into the compatibility mode of its version. -/
def execMembershipQueryResponse (port : Nat) (q : MemberQuery) (s : State) : Ran :=
  ran s (if !portUp s port then s
    else
      (s.flows.members.filter fun m => m.1 = portPath port && (q.group = 0 || m.2.1 = q.group)).foldl
        (fun s m => reportOn 4 port m s) { s with flows := { s.flows with older := tset 0 s.flows.older port q.older } })

/-- ARP_REFRESH (R395): the resolved entries of the ports that are up are asked for again. -/
def execArpRefresh (s : State) : Ran :=
  ran s ((s.flows.neigh.filter fun (p, _) => portUp s p).foldl (fun s (p, a) => send (.control p 5 a) s) s)

/-! ## Turret commands -/

/-- 0x0320: a port's identity (R371). -/
def opPortIdentity : Op where
  opcode := 0x0320
  specs := fun _ _ => [pFix 0 31,
    fixedSpec (.pred fun v => decide (0 ≤ v ∧ v ≤ 65535) && !bit v.toNat 8),
    fun f => { kind := .pred fun v => decide (fld f 2 ≠ 0 ∨ v ≠ 0) },
    pAny, pNum 1 32, pAny, pAny, pAny, pAny, pAny, pNum 1 128, pAny, pAny, pAny, pAny, pNum 0 4094, pNum 0 7]
  once := fun _ f s => if portExists s (fnat f 1) then none else some .badState
  apply := fun _ f s =>
    let p := fnat f 1
    let old := identOf s p
    let s := { s with flows := { s.flows with idents := tset none s.flows.idents p (some (f.drop 1)) } }
    let new := identOf s p
    let moved := decide (fnat old 3 ≠ fnat new 3 ∨ addr128 old 6 ≠ addr128 new 6)
    let mine := s.flows.members.filter fun m => m.1 = portPath p
    if moved && portUp s p then
      { s := mine.foldl (fun s m => reportOn 3 p m (reportOn 2 p m s))
          { s with flows := { s.flows with reports := s.flows.reports ++ mine.filter (· ∉ s.flows.reports) } } }
    else { s := s }

/-- 0x0321: path health parameters (R396). -/
def opPathHealthParameters : Op where
  opcode := 0x0321
  specs := fun _ _ =>
    let sentinel := fixedSpec (.pred fun v => decide (v < 4096 ∨ v = 0xFFFF))
    [pSel [0, 1], pNum 0 65535, pNum 1 1000, sentinel, sentinel, sentinel, sentinel, sentinel, sentinel, sentinel,
      sentinel]
  apply := fun _ f s => { s := judgeSentinels (modHealth (fnat f 1) (fun h => { h with f := f.drop 1 }) s) }

/-- 0x0322: interlock parameters (R399). -/
def opInterlockParameters : Op where
  opcode := 0x0322
  specs := fun _ _ => [pSel [0, 1], pNum 1 600, pSel [0, 1, 2]]
  apply := fun _ f s => { s := interlock { s with flows := { s.flows with lock := f } } }

/-- 0x0323: a privileged policer (R376). -/
def opPrivilegedPolicer : Op where
  opcode := 0x0323
  specs := fun _ _ => [pNum 0 15, pNum 64 100000, pNum 1600 1048576]
  apply := fun _ f s =>
    let x := policerNow s (fnat f 1)
    { s := setPolicer (fnat f 1) { x with
        rate := fnat f 2, burst := fnat f 3, bucket := min x.bucket (fnat f 3 * byteUnits) } s }

/-- 0x0324: a Turret's overhead and colour table (R373, R384). -/
def opTurretOverheadColourTable : Op where
  opcode := 0x0324
  specs := fun _ _ => [pSel [0, 1], pNum 0 63, pAny, pAny, pAny, pAny]
  apply := fun _ f s =>
    { s := if fnat f 1 = 0 then { s with flows := { s.flows with overA := f.drop 1 } }
        else { s with flows := { s.flows with overB := f.drop 1 } } }

/-- The highest DRR queue of a port. -/
def topQueue (p : Nat) : Int := if p < 16 then 1023 else 63

/-- 0x0325: a host DRR queue (R392). -/
def opDrrQueue : Op where
  opcode := 0x0325
  specs := fun _ _ => [pFix 0 31, fun f => { kind := .num 16 (topQueue (fnat f 1)) }, pNum 64 65535, pFlag]
  once := fun _ f s => if portExists s (fnat f 1) then none else some .badState
  apply := fun _ f s =>
    let q := drrOf s (fnat f 1) (fnat f 2)
    { s := setDrr (fnat f 1) (fnat f 2) { q with quantum := fnat f 3, enable := decide (fnat f 4 = 1) } s }

/-- The target of 0x0330 as a selector of `targetPorts`. -/
def hostTarget (f : Fields) : Nat :=
  match fnat f 1 with
  | 0 => 1
  | 1 => 2
  | 2 => 0
  | n => n

/-- A host packet queued on a port. -/
def queueHost (f : Fields) (p : Nat) (s : State) : State :=
  let q := drrOf s p (fnat f 3)
  let pkt : QPkt := { len := countedLen s p (fnat f 8 + 4), what := .hostPacket p (fnat f 7)
                      stamp := if fnat f 6 = 1 then some (fnat f 7) else none, excl := decide (fnat f 1 = 3) }
  setDrr p (fnat f 3) { q with pkts := q.pkts ++ [pkt] } s

/-- A host packet with a launch time (R148, R391): held for it, or sent at once and reported outside the
window. -/
def timeHost (f : Fields) (p : Nat) (s : State) : State :=
  let tag := fnat f 7
  let stamp := decide (fnat f 6 = 1)
  let d := diff32 (fld f 5) (clockNs s)
  if 0 ≤ d ∧ d ≤ 2000000000 then
    { s with flows := { s.flows with timed := s.flows.timed ++
        [{ port := p, launch := natWord (fnat f 5), tag := tag, stamp := stamp, len := countedLen s p (fnat f 8 + 4) }] } }
  else
    let s := raise 9 0 (bump 0x90010 1 s)
    let (count, last) := tget (0, none) s.flows.hostWin tag
    let (ev, n, t) := windowNote count last s
    let s := { s with flows := { s.flows with hostWin := tset (0, none) s.flows.hostWin tag (n, t) } }
    let s := if ev then windowEvent 0xFFFF tag (if d < 0 then 1 else 2) (pathCode [p]) 1 (count + 1) (fld f 5)
      (clockNs s) s else s
    sendHost p tag (countedLen s p (fnat f 8 + 4)) stamp s

/-- 0x0330: send a host packet (R393). -/
def opSendHostPacket : Op where
  opcode := 0x0330
  specs := fun c _ => [pSel [0, 1, 2, 3, 4], fun f => { kind := .fixed 0 (if fnat f 1 = 4 then 15 else 7) },
    pWhen (fun _ => c.params.getD 3 0 ≠ 1) fun f => { kind := .num 16 (if fnat f 1 = 4 then 63 else 1023) },
    pSel [0, 1], pAny, pFlag, pNum 0 65535, pNum 60 9212]
  extra := fun c n => n == ceilDiv (c.params.getD 7 0).toNat 4
  once := fun _ f s =>
    let ports := targetPorts s (hostTarget f) (fnat f 2)
    if !targetOk s (hostTarget f) (fnat f 2) then some .badState
    else if fnat f 4 = 1 then none
    else if ports.any fun p => !(drrOf s p (fnat f 3)).enable then some .badState
    else if ports.any fun p => decide (256 ≤ (drrOf s p (fnat f 3)).pkts.length) then some .noResource
    else none
  apply := fun _ f s =>
    let ports := targetPorts s (hostTarget f) (fnat f 2)
    { s := if fnat f 4 = 1 then ports.foldl (fun s p => timeHost f p s) s
        else ports.foldl (fun s p => queueHost f p s) s }

/-! ## Flow commands (R374, R377, R385) -/

/-- The merge region a flow reserves in bytes: PIR times the skew limit (R382). -/
def mergeBytes (f : Fields) : Nat :=
  if fnat f 3 = 0 ∧ fnat f 2 ≠ 0 then ceilDiv (fnat f 30 * fnat f 26) 8000 else 0

/-- The reservations of all flows. -/
def mergeTotal (s : State) : Nat :=
  (s.flows.ingress.map fun (_, x) => match x with
    | some x => mergeBytes x.f
    | none => 0).sum

/-- A type is audio. -/
def audioType (f : Fields) : Bool := decide (fnat f 2 = 3 ∨ fnat f 2 = 4)

/-- Audio flows configured, ingress and egress together (R24). -/
def audioFlows (s : State) : Nat :=
  (s.flows.ingress.filter fun (_, x) => x.any fun x => audioType x.f).length +
    (s.flows.egress.filter fun (_, x) => x.any fun x => audioType x.f).length

/-- The limits of R24 and R382 hold. -/
def tablesFit (s : State) : Bool :=
  decide (audioFlows s ≤ 1024) && decide (mergeTotal s ≤ 256 * mib) &&
    [0, 1].all fun p => decide (((wantedMembers s).filter fun m => m.1 = p).length ≤ 2048)

/-- Another enabled flow has a key of these fields. -/
def keyTaken (s : State) (i : Nat) (f : Fields) : Bool :=
  fnat f 1 = 1 && s.flows.ingress.any fun (j, x) => match x with
    | some x => j ≠ i && fnat x.f 1 = 1 && (flowKeys x.f).any fun k => decide (k ∈ flowKeys f)
    | none => false

/-- The state after 0x0401: counts begin anew, and buckets are full when the policer's fields changed. -/
def ingressState (f : Fields) (s : State) : State :=
  let i := fnat f 1
  let f := f.drop 1
  let fresh : IFlow := { f := f, polA := fullBuckets s f, polB := fullBuckets s f }
  let x := match iflowOf s i with
    | none => fresh
    | some o =>
      let samePolice := decide (slice o.f 26 6 = slice f 26 6)
      let sameKey := decide (fnat o.f 2 = fnat f 2 ∧ flowKeys o.f = flowKeys f)
      let x := { fresh with
        polA := if samePolice then o.polA else fresh.polA, polB := if samePolice then o.polB else fresh.polB
        bind := if audioType f then o.bind else none }
      if sameKey then { x with
        started := o.started, released := o.released, top := o.top, held := o.held, video := o.video
        loads := o.loads, ring := o.ring, ancs := o.ancs
        ports := if fnat f 1 = 1 ∨ flowMembers f ≠ [] then o.ports else [], lastA := o.lastA, lastB := o.lastB }
      else x
  { s with flows := { s.flows with ingress := tset none s.flows.ingress i (some x) } }

/-- The values of field 25 by type (R377). -/
def mediaFormat (f : Fields) : Spec :=
  match fnat f 3 with
  | 0 => { kind := .pred fun v => decide (0 ≤ v ∧ v < 65536) && (samplesOf (v.toNat % 256) (v.toNat / 256)).isSome }
  | 3 => { kind := .fixed 1 64, cross := fun v => if fnat f 4 = 4 then min v 16 else v }
  | 4 => { kind := .fixed 1 64 }
  | 5 => { kind := .fixed 0 4095 }
  | _ => { kind := .fixed 0 0 }

/-- The values of field 26 by type: depths 16 and 24 at 1 ms or 125 microseconds for type 3. -/
def mediaParams (f : Fields) : Spec :=
  match fnat f 3 with
  | 0 => { kind := .sel [1, 2, 3, 4] }
  | 3 => { kind := .sel [16, 24, 272, 280] }
  | _ => { kind := .sel [0] }

/-- 0x0401: configure an ingress flow. -/
def opConfigureIngressFlow : Op where
  opcode := 0x0401
  framed := true
  specs := fun _ _ => [pFix 0 4095, pFlag, pSel [0, 1, 2, 3, 4, 5],
    fun f => { kind := .sel (if fnat f 3 = 3 then [0, 1, 2, 3, 4] else [0, 1, 2, 3]) }, pNum 0 15, pSel [0, 1],
    pAny, pAny, pAny, pAny, pAny, pAny, pAny, pAny, pWhen (fun f => fnat f 4 ≠ 4) (pFix 1 65535),
    pAny, pAny, pAny, pAny, pAny, pAny, pAny, pAny, pWhen (fun f => fnat f 4 = 0) (pFix 1 65535),
    mediaFormat, mediaParams, pNum 0 50000, pSel [0, 1, 2], pNum 1 800000000, pNum 1600 16777215,
    pCross 1 800000000 1 (fun f v =>
      let v := max v (fld f 29)
      if fnat f 3 = 0 then v else min v 2000000),
    pCross 1600 16777215 1 (fun f v => max v (fld f 30)), pSel [0, 1]]
  post := fun _ f s =>
    let lane := laneOf s (16 + fnat f 5)
    if (fnat f 4 = 3 ∧ fnat lane.media 1 ≠ 3) ∨ (fnat f 4 = 4 ∧ fnat lane.media 1 ≠ 1) then some .badState
    else if keyTaken s (fnat f 1) (f.drop 1) then some .badState
    else if !tablesFit (ingressState f s) then some .noResource
    else admitAfter (ingressState f s)
  apply := fun _ f s => { s := ingressState f s }

/-- 0x0402: delete an ingress flow. -/
def opDeleteIngressFlow : Op where
  opcode := 0x0402
  framed := true
  specs := fun _ _ => [pFix 0 4095]
  post := fun _ f s => if (iflowOf s (fnat f 1)).isSome then none else some .badState
  apply := fun _ f s => { s := { s with flows := { s.flows with ingress := tset none s.flows.ingress (fnat f 1) none } } }

/-- The ports a flow's packets may leave on, whichever gate is open. -/
def flowPorts (s : State) (f : Fields) : List Nat :=
  if fnat f 3 = 3 then targetPorts s 0 (fnat f 4) else targetPorts s (fnat f 3) (fnat f 4)

/-- The launch phase of a frame-start flow in ns, and the bytes of its charge before the overhead (R390); none for
the other types. A group's stream takes the T_off of its lowest-numbered member (log entry 45). -/
def launchPhase (s : State) (f : Fields) : Option (Int × Nat) :=
  let toff (c : Nat) : Int := fld (ctxOf s c).f 9
  match fnat f 2 with
  | 0 =>
    let t := sourceTb s f
    let (num, den) := rateN t.rate
    let (_, _, ltot, voff) := formatOf t.format
    let extra := if fnat f 23 = 1 then 0 else nearDiv (voff * den * 1000000000) (num * ltot)
    some (fld f 22 + extra, fnat f 21 + 102)
  | 1 => some (toff (fnat f 5), 85)
  | 2 =>
    let c := if fnat f 5 < 256 then some (fnat f 5) else ((membersOf s (fnat f 5 - 0x100)).head?).map (·.1)
    some ((c.map toff).getD 0, 1398)
  | _ => none

/-- The frame-start launches of every port fit (R390). -/
def launchFits (s : State) : Bool :=
  let flows := s.flows.egress.filterMap fun (i, x) => x.bind fun x =>
    (launchPhase s x.f).map fun (ph, charge) => (i, ph, charge, flowPorts s x.f)
  flows.all fun (i, ph, _, ports) => ports.all fun p =>
    let ahead := flows.filter fun (j, qh, _, qs) => j < i && decide (p ∈ qs) && decide ((qh - ph).natAbs < 100)
    decide ((ahead.map fun (_, _, c, _) => countedLen s p c * 8).sum ≤ 90 * portGbps s p)

/-- The source that field 6 of 0x0410 names is one that its type takes (R385, R386). -/
def egressSourceOk (s : State) (f : Fields) : Bool :=
  match fnat f 2 with
  | 1 | 2 =>
    if fnat f 5 < 256 then
      let x := ctxOf s (fnat f 5)
      !x.decode && decide (x.st = .opening ∨ x.st = .active)
    else (tget none s.groups (fnat f 5 - 0x100)).isSome
  | n => match compOf s (fnat f 5) with
    | some x => decide (n ≠ 0 ∨ fnat x.f 2 = 1)
    | none => false

/-- The state after 0x0410: counts begin anew; units not yet begun whose launch passed while the flow was disabled
are not sent. -/
def egressState (f : Fields) (s : State) : State :=
  let i := fnat f 1
  let f := f.drop 1
  let x := match eflowOf s i with
    | none => { f := f }
    | some o =>
      if fnat o.f 5 = fnat f 5 ∧ fnat o.f 2 = fnat f 2 then
        let live (u : EgUnit) : Bool := u.next ≠ 0 || fnat o.f 1 = 1 || decide (rasterNs s (sourceTb s f) ≤ u.launch)
        { f := f, units := o.units.filter live, seq := o.seq, started := o.started, lastSent := o.lastSent
          freeAt := o.freeAt, lastTs := o.lastTs, lastPat := o.lastPat }
      else { f := f }
  setEflow i (some x) s

/-- 0x0410: configure an egress flow. -/
def opConfigureEgressFlow : Op where
  opcode := 0x0410
  framed := true
  specs := fun _ _ => [pFix 0 4095, pFlag, pSel [0, 1, 2, 3, 4, 5], pSel [0, 1, 2, 3, 4],
    fun f => { kind := .fixed 0 (if fnat f 4 = 4 then 15 else 7) },
    fun f => { kind := .pred fun v => decide ((0 ≤ v ∧ v ≤ 255) ∨ (fnat f 3 = 2 ∧ 0x100 ≤ v ∧ v ≤ 0x107)) },
    pSel [0, 1], pAny, pAny, pAny, pAny, pFix 1 65535, pAny, pAny, pAny, pAny,
    pWhen (fun f => fnat f 4 = 0) (pFix 1 65535), pNum 1 65535,
    pCross 96 127 1 (fun f v => if fnat f 3 = 2 then 33 else v), pNum 0 63, pNum 1 255,
    fun f => { kind := .num 256 8952 (if fnat f 3 = 0 then 5 else 1), cross := fun v => if fnat f 3 = 2 then 1316 else v },
    fun f => match fnat f 3 with
      | 0 | 5 => { kind := .num 0 2000000 }
      | 3 | 4 => { kind := .num 0 200000000 }
      | _ => { kind := .any },
    pSel [0, 1, 2], pNum 0 15, pFlag]
  post := fun _ f s =>
    if !targetOk s (fnat f 4) (fnat f 5) || !egressSourceOk s (f.drop 1) then some .badState
    else if !tablesFit (egressState f s) || !launchFits (egressState f s) then some .noResource
    else none
  apply := fun _ f s => { s := egressState f s }

/-- 0x0411: delete an egress flow; a frame in flight completes (R401). -/
def opDeleteEgressFlow : Op where
  opcode := 0x0411
  framed := true
  specs := fun _ _ => [pFix 0 4095]
  post := fun _ f s => if (eflowOf s (fnat f 1)).isSome then none else some .badState
  apply := fun _ f s =>
    let i := fnat f 1
    let tail := (eflowOf s i).bind fun q => match q.units with
      | u :: _ => if u.next ≠ 0 then some { q with units := [u] } else none
      | [] => none
    { s := setEflow i none (match tail with
        | some q => { s with flows := { s.flows with tails := tset none s.flows.tails i (some q) } }
        | none => s) }

/-! ## Audio binding (R380) -/

/-- The positions that other flows hold in a composition. -/
def boundOrders (s : State) (comp flow : Nat) : List Nat :=
  s.flows.ingress.filterMap fun (i, x) => match x with
    | some x => match x.bind with
      | some (c, _, o) => if c = comp ∧ i ≠ flow then some o else none
      | none => none
    | none => none

/-- The lowest free position from `o` on. -/
def freeOrder (taken : List Nat) (o : Nat) : Nat :=
  (((List.range 17).map (o + ·)).find? fun k => k ∉ taken).getD 16

/-- The state after 0x0430. -/
def bindState (f : Fields) (s : State) : State :=
  let b := if fnat f 2 = 0xFFFF then none else some (fnat f 2, fnat f 3, fnat f 4)
  modIflow (fnat f 1) (fun x => { x with bind := b }) s

/-- 0x0430: bind an audio flow to a composition. -/
def opBindAudioFlow : Op where
  opcode := 0x0430
  framed := true
  specs := fun _ s => [pFix 0 4095, fixedSpec (.pred fun v => decide ((0 ≤ v ∧ v ≤ 255) ∨ v = 0xFFFF)), pNum 0 48000,
    fun f =>
      let taken := boundOrders s (fnat f 2) (fnat f 1)
      { kind := .num 0 15, cross := fun v =>
          if fnat f 2 = 0xFFFF then v else min 15 (freeOrder taken (max v.toNat (freeOrder taken 0)) : Nat) }]
  post := fun _ f s =>
    let audio := match iflowOf s (fnat f 1) with
      | some x => audioType x.f
      | none => false
    if !audio then some .badState
    else if fnat f 2 = 0xFFFF then none
    else if (compOf s (fnat f 2)).isNone then some .badState
    else if 16 ≤ (boundOrders s (fnat f 2) (fnat f 1)).length then some .noResource
    else admitAfter (bindState f s)
  apply := fun _ f s => { s := bindState f s }

/-! ## Status and registers (R402, R403) -/

/-- The hold-off left in ticks, 0 when it is not counting. -/
def holdoffLeft (s : State) : Nat :=
  let primary := fnat s.flows.lock 1
  if b2n s.flows.selB ≠ primary ∧ (healthOf s primary).good then
    (healthOf s primary).goodSince + ticksUs (fnat s.flows.lock 2 * 1000000) - s.tick
  else 0

/-- TUR_INTERLOCK. -/
def turInterlock (s : State) : Word :=
  natWord (min 0xFFFF (ceilDiv (holdoffLeft s) 6250000) * 2 ^ 16 + fnat s.flows.lock 1 * 128 +
    fnat s.flows.lock 3 * 32 + b2n s.pins.pathForce * 16 + s.flows.lastCause * 2 + b2n s.flows.selB)

/-- TURt_HEALTH. -/
def turHealth (s : State) (t : Nat) : Word :=
  let h := healthOf s t
  natWord (b2n h.good * 128 + b2n (!h.good && healthHolds s t) * 64 + b2n h.sentFail * 4 + b2n h.fecFail * 2 +
    b2n h.portFail)

/-- 0x0331: read Turret status. -/
def opReadTurretStatus : Op where
  opcode := 0x0331
  reads := true
  apply := fun _ _ s =>
    let members (p : Nat) : Word := natWord (s.flows.members.filter fun m => m.1 = p).length
    { s := s
      words := [turInterlock s, turHealth s 0, turHealth s 1, natWord (ceilDiv (holdoffLeft s) 625000), members 0,
        members 1] }

/-- 0x0440: read flow status. -/
def opReadFlowStatus : Op where
  opcode := 0x0440
  reads := true
  specs := fun _ _ => [pFix 0 4095, pSel [0, 1]]
  once := fun _ f s =>
    let there := if fnat f 2 = 0 then (iflowOf s (fnat f 1)).isSome else (eflowOf s (fnat f 1)).isSome
    if there then none else some .badState
  apply := fun _ f s =>
    let w (n : Nat) : Word := natWord (min 0xFFFFFFFF n)
    if fnat f 2 = 0 then
      match iflowOf s (fnat f 1) with
      | some x => { s := s, words := x.counts.map w ++ [w (mergeBytes x.f)] }
      | none => { s := s }
    else
      match eflowOf s (fnat f 1) with
      | some q =>
        let c (i : Nat) : Nat := q.counts.getD i 0
        { s := s, words := [w (c 0), w (c 1), w (c 2 / 1024), w (c 3 / 1024), w (c 4), w (c 5)] }
      | none => { s := s }

/-- 0x0441: read the membership table of a path; its layout is the model's opaque one. -/
def opReadMembershipTable : Op where
  opcode := 0x0441
  reads := true
  specs := fun _ _ => [pSel [0, 1]]
  apply := fun _ f s =>
    { s := s, words := Config.membershipTable ((s.flows.members.filter fun m => m.1 = fnat f 1).map (·.2)) }

end Sys2Proof.Machine
end

