-- ==== Sys2Proof/Machine/Flags.lean ====
section
/-! DEFINITION. The flags that sum up others: SYS_IRQ_SUM and SYS_ALERT_SUM (R492, R496), and the levels of the
module's output pins that follow from the state (R43, R46, R48 to R50, R500). -/

namespace Sys2Proof.Machine

/-- A word with bit `b` set for each block that satisfies `p`. -/
def blockMask (p : Nat → Bool) : Nat := ((List.range 15).map fun b => if p b then 2 ^ b else 0).sum

/-- SYS_IRQ_SUM: bit b while block b's interrupt line is set (R492, R496). -/
def irqSum (s : State) : Word := natWord (blockMask (lineOf s))

/-- SYS_ALERT_SUM: bit b while block b's alert line is set, and bit 31 in SAFE (R492). -/
def alertSum (s : State) : Word := natWord (blockMask (alertOf s) + b2n (s.dev.state = .safe) * 2 ^ 31)

/-- ALERT_N is pulled low: a bit of SYS_ALERT_SUM is set while PWR_GOOD is high (R50, R500). -/
def alertLow (s : State) : Bool := s.supply.pwrGood && decide (alertSum s ≠ 0)

/-- The level of PATH_SEL_OUT, none for high impedance: high for Turret B (R48, R49). -/
def pathSelOut (s : State) : Option Bool := if s.supply.pwrGood then some s.flows.selB else none

/-- The level of PPS_OUT, none for high impedance (R46). -/
def ppsOut (s : State) : Option Bool :=
  if s.supply.pwrGood then some (s.pins.ppsHigh.isSome && validTime s) else none

/-! ## The positions of J2 (R43) -/

/-- What a position of J2 is, in the words of R43: an output off, on or at a level, an input with what it is
terminated by, or no signal. -/
inductive Pin where
  | noSignal | off | on | idle | low | high | highZ | ignored | pullDown | pullUp | noPull | ohm50 | acCoupled
  deriving DecidableEq, Repr

/-- A driven level, or high impedance. -/
def pinOf : Option Bool → Pin
  | some true => .high
  | some false => .low
  | none => .highZ

/-- An input's termination from PWR_GOOD on; before that it is ignored. -/
def inputPin (s : State) (p : Pin) : Pin := if s.supply.pwrGood then p else .ignored

/-- GPIO `g`'s pin: driven as an output, or an input with its pull (R51, R104). -/
def gpioPin (s : State) (g : Nat) : Pin :=
  if !s.supply.pwrGood then .highZ
  else match gpioDrive s g with
    | some b => pinOf (some b)
    | none => match fnat (gpioOf s g).f 4 with
      | 0 => .pullDown
      | 1 => .pullUp
      | _ => .noPull

/-- Position `n` of J2. The TAP of the JTAG port stays in reset and shifts nothing, since nothing in the table of
commands moves its pins (log entry 88). -/
def j2Pin (s : State) (n : Nat) : Pin :=
  if n ∈ [1, 2, 5] then (if s.supply.aux then .on else .off)
  else if n = 7 ∨ n = 13 then inputPin s .pullDown
  else if n = 9 then pinOf (ppsOut s)
  else if n = 11 then inputPin s .ohm50
  else if n = 15 then pinOf (pathSelOut s)
  else if n = 16 ∨ n = 18 then inputPin s .pullUp
  else if n = 17 then (if alertLow s then .low else .highZ)
  else if n = 19 then pinOf (some s.supply.pwrGood)
  else if n = 21 ∨ n = 22 then (if !s.supply.pwrGood then .off else if s.dev.mgmtUp then .on else .idle)
  else if n = 24 ∨ n = 25 then inputPin s .acCoupled
  else if 27 ≤ n ∧ n ≤ 34 then gpioPin s (n - 27)
  else if 36 ≤ n ∧ n ≤ 43 then gpioPin s (n - 28)
  else if n = 45 ∨ n = 49 then inputPin s .pullDown
  else if n = 46 ∨ n = 47 then inputPin s .pullUp
  else if n = 48 then .highZ
  else .noSignal

end Sys2Proof.Machine
end

