-- ==== Sys2Proof/Machine/Regs.lean ====
section
/-! DEFINITION. The BAR0 registers: their windows and offsets (R490, R491), what a read gives and does, what a
write does by each access code (R9 to R14), and the Diagnostics family (R503 to R505). -/

namespace Sys2Proof.Machine

/-! ## Counters (R491, R501) -/

/-- The offsets of block `b`'s RCLR counters in the order of R491. -/
def counterOffs (b : Nat) : List Nat :=
  let each (n base stride : Nat) (l : List Nat) : List Nat :=
    (List.range n).flatMap fun i => l.map (base + stride * i + ·)
  match b with
  | 1 => [0x10414, 0x10418]
  | 2 => [0x20024, 0x20108, 0x20114, 0x20200, 0x20208]
  | 3 => [0x3000C, 0x30010, 0x30014, 0x30018]
  | 4 => each 16 0x40000 0x1000 [0x8, 0xC, 0x10, 0x14, 0x18, 0x1C, 0x20, 0x24, 0x28]
  | 5 => each 12 0x50000 0x1000 [0x4, 0x8, 0xC] ++ [0x5E004, 0x5E008, 0x5E00C]
  | 6 => [0x60004, 0x60008, 0x6000C, 0x60010, 0x60014, 0x60018]
  | 7 => each 16 0x70000 0x100 [0x4, 0x8, 0xC, 0x10, 0x14] ++
      each 16 0x72000 0x100 [0x4, 0x8, 0xC, 0x10, 0x14, 0x18, 0x1C, 0x20, 0x24, 0x28]
  | 8 => [0x80004, 0x80104, 0x80108, 0x80204, 0x80208]
  | 9 => each 6 0x90000 4 [0] ++ each 16 0x90100 4 [0]
  | 10 => each 6 0xA0010 4 [0] ++ each 8 0xA1000 0x100 [0x4, 0x8, 0xC, 0x10]
  | 11 => [0xB0008, 0xB000C, 0xB0010] ++ each 64 0xB1000 0x10 [0x4, 0x8]
  | 12 => [0xC0000]
  | 13 => [0xD001C, 0xD0020, 0xD0024]
  | 14 => [0xE0008, 0xE000C]
  | _ => []

/-- A BAR0 offset is that of an RCLR counter. -/
def isCounter (off : Nat) : Bool := decide (off ∈ counterOffs (off / 0x10000))

/-- A counter read and cleared as one action (R10). -/
def takeCounter (off : Nat) (s : State) : Nat × State :=
  (counter s off, { s with counters := tset 0 s.counters off 0 })

/-- A read of a counter register: the timestamp queues' STAT returns COUNT beside OVF_COUNT (R150, R501). -/
def counterRead (off : Nat) (s : State) : Word × State :=
  let (v, t) := takeCounter off s
  let count (q : Nat) : Nat := (tsqOf s q).entries.length
  (natWord (if off = 0x20108 then v * 65536 + count 0 else if off = 0x20114 then v * 65536 + count 1 else v), t)

/-! ## Register words without effect -/

/-- The three registers at 0xFF00 of every block (R496). -/
def irqReg (s : State) (b o : Nat) : Word :=
  match o with
  | 0xFF00 => irqWord s b
  | 0xFF04 => tget 0 s.irqEn b
  | 0xFF08 => tget 0 s.alertEn b
  | _ => 0

/-- SYS_ registers (R124, R492). -/
def sysReg (s : State) (o : Nat) : Word :=
  match o with
  | 0x0 => sysState s
  | 0x4 => sysVariant s
  | 0x8 => (runningImage s).version
  | 0xC => sysSecver s
  | 0x100 => irqSum s
  | 0x104 => alertSum s
  | _ => 0

/-- A ring's registers (R494). -/
def ringReg (g : Ring) (o : Nat) : Word :=
  match o with
  | 0x0 => g.baseLo
  | 0x4 => g.baseHi
  | 0x8 => g.cqLo
  | 0xC => g.cqHi
  | 0x10 => natWord (b2n g.enable * 2 ^ 31 + b2n g.msix * 2 ^ 30 + g.sizeLog2 % 16)
  | 0x18 => natWord (g.consumer.toNat * 65536 + g.producer.toNat)
  | _ => 0

/-- CMD_ registers (R494, R495). -/
def cmdReg (s : State) (o : Nat) : Word :=
  let q := s.cmd.evq
  if o < 0x200 then ringReg (ringOf s (o / 0x40)) (o % 0x40)
  else match o with
    | 0x400 => q.baseLo
    | 0x404 => q.baseHi
    | 0x408 => natWord (b2n q.enable * 2 ^ 31 + q.sizeLog2 % 32)
    | 0x40C => natWord q.head
    | 0x410 => natWord q.tail
    | _ => 0

/-- BELF_EVU_HELDw (R157). -/
def heldReg (s : State) (w : Nat) : Word :=
  natWord ((List.range 32).map fun j => if (unitOf s (32 * w + j)).holder = .firmware then 2 ^ j else 0).sum

/-- A timebase's registers other than FC_LO and CORR (R154). -/
def tbReg (s : State) (tb o : Nat) : Word :=
  let off := BitVec.ofInt 64 (tbD s tb).offset
  match o with
  | 0x4 => tget 0 s.bel.fcHi tb
  | 0x8 => off.setWidth 32
  | 0xC => (off >>> 32).setWidth 32
  | 0x14 => tbStat s tb
  | _ => 0

/-- BELF_ registers (R133, R147, R149, R154, R156, R157). -/
def belfReg (s : State) (o : Nat) : Word :=
  let b := s.bel
  if 0x300 ≤ o ∧ o < 0x320 ∧ o % 4 = 0 then heldReg s ((o - 0x300) / 4)
  else if 0x1000 ≤ o ∧ o < 0x1200 then tbReg s ((o - 0x1000) / 0x20) (o % 0x20)
  else match o with
    | 0x4 => b.snapSec.setWidth 32
    | 0x8 => (b.snapSec >>> 32).setWidth 32
    | 0xC => b.snapNs
    | 0x10 => (b.incr >>> 32).setWidth 32
    | 0x14 => b.incr.setWidth 32
    | 0x18 => saturate32 b.ptp.filtered
    | 0x1C => intWord b.ppsPhase
    | 0x20 => intWord b.frefPhase
    | 0x28 => servoStat s
    | 0x104 => b.tsqA.lo
    | 0x110 => b.tsqB.lo
    | 0x204 => natWord b.lastMiss
    | _ => 0

/-- The engines of the frame's subsystems run: from STANDBY on (R191, R343). -/
def enginesOn (s : State) : Bool :=
  match s.dev.state with
  | .standby | .run | .degraded => true
  | _ => false

/-- CAMP_STAT (R191). -/
def campStat (s : State) : Word :=
  let bound := ((List.range 16).map fun i => if (tget {} s.camp.spires i).bound.isSome then 2 ^ i else 0).sum
  natWord (bound * 65536 + b2n (anyUrgent s) * 8 + b2n (freeSpill s = 0) * 4 + b2n (spillUsed s ≠ 0) * 2 +
    b2n (enginesOn s))

/-- CAMP_SPIREs_BIND (R191). -/
def bindReg (s : State) (i : Nat) : Word :=
  let p := tget {} s.camp.spires i
  match p.bound with
  | none => 0
  | some (c, n, b) =>
    let (level, k) := match frameOf s c n b with
      | some r => (r.level, r.k)
      | none => (0, 0)
    natWord (2 ^ 31 + level * 2 ^ 24 + k % 16 * 2 ^ 20 + p.member % 16 * 2 ^ 16 + c)

/-- CAMP_ registers (R191). -/
def campReg (s : State) (o : Nat) : Word :=
  if 0x100 ≤ o ∧ o < 0x140 ∧ o % 4 = 0 then bindReg s ((o - 0x100) / 4)
  else match o with
    | 0x0 => campStat s
    | 0x4 => natWord (s.camp.ready.length * 65536 + s.camp.matching.length)
    | 0x8 => natWord (spillUsed s)
    | _ => 0

/-- SPIREs_CACHE (R245): of the frame that the Spire is bound to, and of a pair of fields the one it works on. -/
def cacheReg (s : State) (i : Nat) : Word :=
  let p := tget {} s.camp.spires i
  match p.bound with
  | none => 0
  | some (c, n, b) => match frameOf s c n b with
    | none => 0
    | some r =>
      let row := match p.run with
        | some u => u.row
        | none => 0
      natWord ((picAt r ((frameGeo s r).picOf row)).bands % 16 * 2 ^ 28 + r.k % 16 * 2 ^ 24 + min 0xFFFFFF (p.allow / 64))

/-- SPIREs_STAT (R245). LINK_WAIT reads 0: Campanile's slot 2 has waited for the above-right segment, so the link
adds no wait (R228). -/
def spireStat (s : State) (i : Nat) : Word :=
  let p := tget {} s.camp.spires i
  natWord (b2n p.powered * 2 ^ 31 + (match p.run with
    | none => 0
    | some u => b2n u.decode * 2 ^ 30 + b2n u.floor * 2 ^ 29 + u.level * 2 ^ 24 + u.ctx * 2 ^ 16 + u.row * 2 ^ 9 +
        u.seg * 2 ^ 4 + 1))

/-- DOMEd_STAT (R281). -/
def domeStat (s : State) (d : Nat) : Word :=
  let p := tget {} s.camp.domes d
  match p.bound with
  | none => 0
  | some (c, _, _) =>
    natWord (2 ^ 31 + p.df % 16 * 2 ^ 24 + c * 2 ^ 16 + p.row.getD 0 * 2 ^ 9 + b2n p.run.isSome)

/-- DOME_ registers (R281). -/
def domeReg (s : State) (o : Nat) : Word :=
  if o = 0xE000 then natWord ((stagePages s).1 * 65536 + freePages s)
  else if o % 0x1000 = 0 ∧ o / 0x1000 < domeCount s then domeStat s (o / 0x1000)
  else 0

/-- LANE_ registers (R370). -/
def laneReg (s : State) (o : Nat) : Word :=
  if o = 0x4000 then refStat s
  else if o < 0x1000 ∧ o % 0x100 = 0 then laneStat s (o / 0x100)
  else if 0x2000 ≤ o ∧ o < 0x3000 ∧ o % 0x100 = 0 then laneStat s (16 + (o - 0x2000) / 0x100)
  else 0

/-- TUR_ registers (R403). -/
def turReg (s : State) (o : Nat) : Word :=
  match o with
  | 0x0 => turInterlock s
  | 0x100 => turHealth s 0
  | 0x200 => turHealth s 1
  | _ => 0

/-- MEM_ registers (R436, R437). -/
def memReg (s : State) (o : Nat) : Word :=
  if 0x1000 ≤ o ∧ o < 0x1800 ∧ o % 0x100 = 0 then chanStat s ((o - 0x1000) / 0x100)
  else match o with
    | 0x0 => memStat s
    | 0x4 => ueInfo s
    | 0x8 => natWord s.mem.ueAddr
    | 0xC => natWord (s.mem.ueAddr / 2 ^ 32)
    | _ => 0

/-- DMA_HELD_LO for `base` 0, DMA_HELD_HI for `base` 32 (R464). -/
def dmaHeldReg (s : State) (base : Nat) : Word :=
  natWord ((List.range 32).map fun j => if dmaHeld s (base + j) then 2 ^ j else 0).sum

/-- DMA_ registers (R464). -/
def dmaReg (s : State) (o : Nat) : Word :=
  if 0x1000 ≤ o ∧ o < 0x1400 ∧ o % 0x10 = 0 then dmaStat s ((o - 0x1000) / 0x10)
  else match o with
    | 0x0 => dmaHeldReg s 0
    | 0x4 => dmaHeldReg s 32
    | _ => 0

/-- CHK_ registers (R465); the feed registers read 0. -/
def chkReg (s : State) (o : Nat) : Word :=
  if 0x1000 ≤ o ∧ o < 0x1200 then
    let n := (o - 0x1000) / 0x20
    (match o % 0x20 with
      | 0x0 => chkStat s n
      | 0x4 => (chkOf s n).result
      | _ => 0)
  else 0

/-- WT_ registers (R487). -/
def wtReg (s : State) (o : Nat) : Word :=
  let w := s.watch
  if 0x100 ≤ o ∧ o < 0x180 ∧ o % 4 = 0 then sensReg s ((o - 0x100) / 4)
  else match o with
    | 0x0 => wtStat s
    | 0x4 => stepReg s 0
    | 0x8 => stepReg s 8
    | 0xC => natWord (w.vin % 65536)
    | 0x10 => natWord (w.iin % 65536)
    | 0x14 => natWord (w.pin % 65536)
    | 0x18 => natWord (BitVec.ofInt 16 w.convTemp).toNat
    | _ => 0

/-- KEEP_ registers (R493). -/
def keepReg (s : State) (o : Nat) : Word :=
  match o with
  | 0x0 => keepStat s
  | 0x4 => natWord (s.keep.minSecver % 65536)
  | _ => 0

/-- The word of a register whose read has no effect; 0 where there is no register (R14) and in the windows of
absent Spires and Domes (R5). -/
def plainReg (s : State) (off : Nat) : Word :=
  let b := off / 0x10000
  let o := off % 0x10000
  if b < 15 ∧ 0xFF00 ≤ o then irqReg s b o
  else match b with
    | 0 => sysReg s o
    | 1 => cmdReg s o
    | 2 => belfReg s o
    | 3 => campReg s o
    | 4 =>
      if spireCount s ≤ o / 0x1000 then 0
      else if o % 0x1000 = 0 then spireStat s (o / 0x1000)
      else if o % 0x1000 = 4 then cacheReg s (o / 0x1000)
      else 0
    | 5 => domeReg s o
    | 6 => if o = 0 then cupStat s else if o = 0x1C then assetMib s else 0
    | 7 => laneReg s o
    | 8 => turReg s o
    | 10 => memReg s o
    | 11 => dmaReg s o
    | 12 => chkReg s o
    | 13 => wtReg s o
    | 14 => keepReg s o
    | _ => 0

/-! ## Reads -/

/-- BELF_TBt_CORR (R154): c in ns. How a fraction of a nanosecond reads, and a value that the 32 bits cannot
hold, are not stated: free values (log entry 46). -/
def corrRead (tb : Nat) (s : State) : Word × State :=
  let c := (tbD s tb).corr
  let down := c / nsUnits
  if c % nsUnits = 0 ∧ -2147483648 ≤ down ∧ down ≤ 2147483647 then (intWord down, s)
  else
    let (v, s) := draw s
    if -2147483648 ≤ down ∧ down < 2147483647 then (intWord (down + v % 2), s) else (natWord v, s)

/-- A read of a BAR0 offset: its value and the state it leaves (R9 to R14, R504). -/
def regRead (off : Nat) (s : State) : Word × State :=
  if off = 0x20000 then now32Read s
  else if off = 0x20100 then tsqRead 0 s
  else if off = 0x2010C then tsqRead 1 s
  else if 0x21000 ≤ off ∧ off < 0x21200 ∧ off % 0x20 = 0 then fcRead ((off - 0x21000) / 0x20) s
  else if 0x21000 ≤ off ∧ off < 0x21200 ∧ off % 0x20 = 0x10 then corrRead ((off - 0x21000) / 0x20) s
  else if isCounter off then counterRead off s
  else (plainReg s off, s)

/-- `n` words read in ascending offset from `off` on (R504). -/
def readWords (off : Nat) (s : State) : Nat → List Word × State
  | 0 => ([], s)
  | n + 1 =>
    let (v, t) := regRead off s
    let (l, u) := readWords (off + 4) t n
    (v :: l, u)

/-- COUNTER_READ_CLEAR (R10): a PCIe read of an RCLR register. -/
def execCounterReadClear (off : Nat) (s : State) : Ran :=
  ran s (if barUp s && isCounter off then
      let (v, s) := counterRead off s
      send (.regRead off v) s
    else s)

/-! ## Writes -/

/-- A register of W1C flags (R345, R437, R436, R465, R496). -/
def isW1c (off : Nat) : Bool :=
  decide (off < 0xF0000 ∧ off % 0x10000 = 0xFF00 ∨ off = 0x74000 ∨ off = 0xA0004 ∨
    (0xA1000 ≤ off ∧ off < 0xA1800 ∧ off % 0x100 = 0) ∨ (0xC1000 ≤ off ∧ off < 0xC1200 ∧ off % 0x20 = 0))

/-- A write to X_IRQ of block `b` that clears the given W1C flags; the block's vector is sent again when the
line stays set (R498). Mirrors do not clear (R496). -/
def clearIrq (b : Nat) (v : Word) (s : State) : State :=
  let s := { s with irq := tset 0 s.irq b (tget 0 s.irq b &&& ~~~v) }
  if lineOf s b then sendMsix (9 + b) s else s

/-- A write of ones to W1C flags (R9). A flag that a hardware event sets in the same cycle, named in `meets`,
stays set. -/
def w1cWrite (off : Nat) (value meets : Word) (s : State) : State :=
  let v := value &&& ~~~meets
  let has (i : Nat) : Bool := v.getLsbD i
  if off % 0x10000 = 0xFF00 then clearIrq (off / 0x10000) v s
  else if off = 0x74000 then
    (if has 2 then { s with lanes := { s.lanes with refLost := false } } else s)
  else if off = 0xA0004 then
    (if has 31 then { s with mem := { s.mem with ueValid := false, ueMore := 0 } } else s)
  else if off < 0xA1800 then
    (if has 1 then
      let chans := tmod {} s.mem.chans ((off - 0xA1000) / 0x100) fun c => { c with ceRate := false }
      { s with mem := { s.mem with chans := chans } }
     else s)
  else
    let n := (off - 0xC1000) / 0x20
    let u := chkOf s n
    setChk n { u with overrun := u.overrun && !has 29, widthErr := u.widthErr && !has 28 } s

/-- W1C_WRITE (R9, R498): a PCIe write to a register of W1C flags. -/
def execW1cWrite (off : Nat) (value meets : Word) (s : State) : Ran :=
  ran s (if barUp s && isW1c off then w1cWrite off value meets s else s)

/-- A write to a register of ring `r` (R494): addresses are ignored while ENABLE is 1. -/
def ringWrite (r o : Nat) (v : Word) (s : State) : State :=
  let put (f : Ring → Ring) : State := if (ringOf s r).enable then s else modRing r f s
  match o with
  | 0x0 => put fun g => { g with baseLo := v }
  | 0x4 => put fun g => { g with baseHi := v }
  | 0x8 => put fun g => { g with cqLo := v }
  | 0xC => put fun g => { g with cqHi := v }
  | 0x10 => if bit v.toNat 31 then enableRing r v s else disableRing r v s
  | 0x14 => bellWrite r v s
  | _ => s

/-- A write to a CMD_ register (R494, R495). -/
def cmdWrite (o : Nat) (v : Word) (s : State) : State :=
  let put (f : Evq → Evq) : State := if s.cmd.evq.enable then s else modEvq f s
  if o < 0x200 then ringWrite (o / 0x40) (o % 0x40) v s
  else match o with
    | 0x400 => put fun q => { q with baseLo := v }
    | 0x404 => put fun q => { q with baseHi := v }
    | 0x408 => if bit v.toNat 31 then enableEvq v s else disableEvq v s
    | 0x40C => evqHead v s
    | _ => s

/-- A write to a check unit's feed register (R457, R465). -/
def chkWrite (n o : Nat) (v : Word) (s : State) : State :=
  match o with
  | 0x8 => feedWrite n (leBytes 1 v.toNat) s
  | 0xC => feedWrite n (leBytes 2 v.toNat) s
  | 0x10 => feedWrite n (leBytes 4 v.toNat) s
  | _ => s

/-- A write to a BAR0 offset, by its register's access code; ignored where there is none (R14). -/
def regWrite (off : Nat) (v : Word) (s : State) : State :=
  if isW1c off then w1cWrite off v 0 s
  else if off / 0x10000 = 1 then cmdWrite (off % 0x10000) v s
  else if 0xC1000 ≤ off ∧ off < 0xC1200 then chkWrite ((off - 0xC1000) / 0x20) (off % 0x20) v s
  else s

/-- REGISTER_WRITE (R14): a PCIe write to a register. A doorbell is held before TRAIN (R112). -/
def execRegisterWrite (off : Nat) (v : Word) (s : State) : Ran :=
  let bell := decide (0x10000 ≤ off ∧ off < 0x10200 ∧ off % 0x40 = 0x14)
  ran s (if barUp s || bell then regWrite off v s else s)

/-! ## Diagnostics (R503 to R505) -/

/-- The offset field: below 0x1000000, clamped down to a multiple of 4. -/
def offsetSpec : Fields → Spec := fixedSpec (.down 0xFFFFFC 4)

/-- 0x0B01: read registers. -/
def opReadRegisters : Op where
  opcode := 0x0B01
  reads := true
  specs := fun _ _ => [offsetSpec, pCross 1 256 1 fun f v => min v ((0x1000000 - fld f 1) / 4)]
  apply := fun _ f s =>
    let (l, t) := readWords (fnat f 1) s (fnat f 2)
    { s := t, words := l }

/-- 0x0B02: write a register; the CMD_ block belongs to the PCIe host. -/
def opWriteRegister : Op where
  opcode := 0x0B02
  specs := fun _ _ => [offsetSpec, pAny]
  once := fun _ f _ => if fnat f 1 / 0x10000 = 1 then some .refused else none
  apply := fun _ f s =>
    let (v, t) := regRead (fnat f 1) (regWrite (fnat f 1) (intWord (fld f 2)) s)
    { s := t, words := [v] }

/-- 0x0B03: every counter of a block read and cleared, in the order of R491. -/
def opCounterSnapshot : Op where
  opcode := 0x0B03
  reads := true
  specs := fun _ _ => [pNum 0 14]
  apply := fun _ f s =>
    let (l, t) := (counterOffs (fnat f 1)).foldl (fun (l, s) off =>
      let (v, t) := takeCounter off s
      (l ++ [natWord v], t)) ([], s)
    { s := t, words := l }

end Sys2Proof.Machine
end

