-- ==== Sys2Proof/Machine/Commands.lean ====
section
/-! DEFINITION. The opcode table (R59, R63 stage 7) and the opcode rows: each is its packet, which has
passed stages 1 to 7, run through stages 8 to 15, its action and its reply. -/

namespace Sys2Proof.Machine

/-- The assigned opcodes. -/
def opTable : OpTable
  | 0x0101 => some opReadIdentity
  | 0x0102 => some opRegisterEventSubscriber
  | 0x0103 => some opSetAllowListEntry
  | 0x0104 => some opCancelPendingCommands
  | 0x0105 => some opAssignGpioFunction
  | 0x0106 => some opReadStartupLog
  | 0x0107 => some opSelectManagementLinkMode
  | 0x0108 => some opReadGpioLevels
  | 0x0110 => some opWarmResetCommand
  | 0x0111 => some opEnterSafe
  | 0x0120 => some opInterruptAndAlertMasks
  | 0x0201 => some opConfigurePtp
  | 0x0202 => some opAcceptRefusedOffset
  | 0x0203 => some opSetTime
  | 0x0210 => some opConfigureTimebase
  | 0x0211 => some opRemoveTimebase
  | 0x0220 => some opConfigureEventUnit
  | 0x0221 => some opReleaseEventUnit
  | 0x0230 => some opReadTimeStatus
  | 0x0301 => some opSelectLaneReference
  | 0x0302 => some opConfigureTurretLayout
  | 0x0303 => some opConfigureMediaLane
  | 0x0304 => some opSetTransmitTaps
  | 0x0305 => some opSetPolarity
  | 0x0310 => some opPrbsGeneratorChecker
  | 0x0311 => some opLoopback
  | 0x0312 => some opReadLaneStatus
  | 0x0320 => some opPortIdentity
  | 0x0321 => some opPathHealthParameters
  | 0x0322 => some opInterlockParameters
  | 0x0323 => some opPrivilegedPolicer
  | 0x0324 => some opTurretOverheadColourTable
  | 0x0325 => some opDrrQueue
  | 0x0330 => some opSendHostPacket
  | 0x0331 => some opReadTurretStatus
  | 0x0401 => some opConfigureIngressFlow
  | 0x0402 => some opDeleteIngressFlow
  | 0x0410 => some opConfigureEgressFlow
  | 0x0411 => some opDeleteEgressFlow
  | 0x0430 => some opBindAudioFlow
  | 0x0440 => some opReadFlowStatus
  | 0x0441 => some opReadMembershipTable
  | 0x0501 => some opOpenEncodeContext
  | 0x0502 => some opCloseContext
  | 0x0503 => some opModifyEncodeContext
  | 0x0510 => some opRequestIrap
  | 0x0511 => some opInvalidateReferences
  | 0x0520 => some opRateParameters
  | 0x0521 => some opSendCeilingAndHrd
  | 0x0522 => some opConfigureStatmuxGroup
  | 0x0523 => some opJoinGroup
  | 0x0524 => some opRemoveFromGroup
  | 0x0525 => some opReadGroupStatus
  | 0x052F => some opReadRateControlStatus
  | 0x0530 => some opSchedulingFields
  | 0x0531 => some opDeviceSchedulingFields
  | 0x0532 => some opReadSchedulingStatistics
  | 0x0540 => some opOpenDecodeContext
  | 0x0541 => some opFlushAndResynchronise
  | 0x0542 => some opReadDecodeStatus
  | 0x0550 => some opReadContextStatus
  | 0x0601 => some opConfigureComposition
  | 0x0602 => some opDeleteComposition
  | 0x0610 => some opConfigureVideoLayer
  | 0x0611 => some opConfigureGraphicLayer
  | 0x0620 => some opDefineAsset
  | 0x0621 => some opWriteAssetChunk
  | 0x0622 => some opCommitAsset
  | 0x0623 => some opFreeAsset
  | 0x0630 => some opSetMasteringMetadata
  | 0x0640 => some opReadCompositionStatus
  | 0x0A01 => some opDefineLanternImage
  | 0x0A02 => some opWriteLanternImageChunk
  | 0x0A03 => some opCommitLanternImage
  | 0x0A10 => some opConfigureLanternItem
  | 0x0A20 => some opReadLanternStatus
  | 0x0701 => some opMemoryPolicy
  | 0x0702 => some opPortLatencyTarget
  | 0x0703 => some opRowDisturbanceSettings
  | 0x0704 => some opSetPoint
  | 0x0705 => some opRetrainChannel
  | 0x0706 => some opBar2Aperture
  | 0x0710 => some opReadMemoryStatus
  | 0x0801 => some opConfigureDmaChannel
  | 0x0802 => some opStartChannels
  | 0x0803 => some opChannelControl
  | 0x0804 => some opReleaseDmaChannel
  | 0x0805 => some opEngineSettings
  | 0x0810 => some opOpenCheckUnit
  | 0x0811 => some opCloseCheckUnit
  | 0x0812 => some opReleaseCheckUnit
  | 0x0820 => some opReadDmaAndCheckStatus
  | 0x0901 => some opOperatingProfile
  | 0x0902 => some opThermalLevels
  | 0x0903 => some opPowerCaps
  | 0x0904 => some opSensorOverride
  | 0x0910 => some opReadTelemetry
  | 0x0911 => some opReadDipLog
  | 0x0B01 => some opReadRegisters
  | 0x0B02 => some opWriteRegister
  | 0x0B03 => some opCounterSnapshot
  | 0x0F01 => some opWriteFirmwareChunk
  | 0x0F02 => some opVerifyInactiveSlot
  | 0x0F03 => some opActivateInactiveSlot
  | 0x0F04 => some opConfirmTrialImage
  | 0x0F10 => some opInstallKey
  | 0x0F11 => some opSetAuthenticationPolicy
  | 0x0F20 => some opWriteStartupStore
  | 0x0F30 => some opUnlockDebugAccess
  | _ => none

/-- A packet of an opcode run as a step of its own: nothing before the command processor starts (R112). -/
def command (op : Op) (c : Cmd) (s : State) : Ran :=
  ran s (if s.dev.state = .off ∨ s.dev.state = .boot then s else runCmd opTable op c s)

/-- READ_IDENTITY (R100): opcode 0x0101. -/
def execReadIdentity (c : Cmd) (s : State) : Ran := command opReadIdentity c s

/-- REGISTER_EVENT_SUBSCRIBER (R101): opcode 0x0102. -/
def execRegisterEventSubscriber (c : Cmd) (s : State) : Ran := command opRegisterEventSubscriber c s

/-- SET_ALLOW_LIST_ENTRY (R102): opcode 0x0103. -/
def execSetAllowListEntry (c : Cmd) (s : State) : Ran := command opSetAllowListEntry c s

/-- CANCEL_PENDING_COMMANDS (R103): opcode 0x0104. -/
def execCancelPendingCommands (c : Cmd) (s : State) : Ran := command opCancelPendingCommands c s

/-- ASSIGN_GPIO_FUNCTION (R104): opcode 0x0105. -/
def execAssignGpioFunction (c : Cmd) (s : State) : Ran := command opAssignGpioFunction c s

/-- READ_STARTUP_LOG (R105): opcode 0x0106. -/
def execReadStartupLog (c : Cmd) (s : State) : Ran := command opReadStartupLog c s

/-- SELECT_MANAGEMENT_LINK_MODE (R105): opcode 0x0107. -/
def execSelectManagementLinkMode (c : Cmd) (s : State) : Ran := command opSelectManagementLinkMode c s

/-- READ_GPIO_LEVELS (R105): opcode 0x0108. -/
def execReadGpioLevels (c : Cmd) (s : State) : Ran := command opReadGpioLevels c s

/-- WARM_RESET_COMMAND (R100): opcode 0x0110. -/
def execWarmResetCommand (c : Cmd) (s : State) : Ran := command opWarmResetCommand c s

/-- ENTER_SAFE (R110): opcode 0x0111. -/
def execEnterSafe (c : Cmd) (s : State) : Ran := command opEnterSafe c s

/-- INTERRUPT_AND_ALERT_MASKS (R497): opcode 0x0120. -/
def execInterruptAndAlertMasks (c : Cmd) (s : State) : Ran := command opInterruptAndAlertMasks c s

/-- CONFIGURE_PTP (R146): opcode 0x0201. -/
def execConfigurePtp (c : Cmd) (s : State) : Ran := command opConfigurePtp c s

/-- ACCEPT_REFUSED_OFFSET (R143): opcode 0x0202. -/
def execAcceptRefusedOffset (c : Cmd) (s : State) : Ran := command opAcceptRefusedOffset c s

/-- SET_TIME (R145): opcode 0x0203. -/
def execSetTime (c : Cmd) (s : State) : Ran := command opSetTime c s

/-- CONFIGURE_TIMEBASE (R153): opcode 0x0210. -/
def execConfigureTimebase (c : Cmd) (s : State) : Ran := command opConfigureTimebase c s

/-- REMOVE_TIMEBASE (R153): opcode 0x0211. -/
def execRemoveTimebase (c : Cmd) (s : State) : Ran := command opRemoveTimebase c s

/-- CONFIGURE_EVENT_UNIT (R155): opcode 0x0220. -/
def execConfigureEventUnit (c : Cmd) (s : State) : Ran := command opConfigureEventUnit c s

/-- RELEASE_EVENT_UNIT (R145): opcode 0x0221. -/
def execReleaseEventUnit (c : Cmd) (s : State) : Ran := command opReleaseEventUnit c s

/-- READ_TIME_STATUS (R511): opcode 0x0230. -/
def execReadTimeStatus (c : Cmd) (s : State) : Ran := command opReadTimeStatus c s

/-- SELECT_LANE_REFERENCE (R345): opcode 0x0301. -/
def execSelectLaneReference (c : Cmd) (s : State) : Ran := command opSelectLaneReference c s

/-- CONFIGURE_TURRET_LAYOUT (R362): opcode 0x0302. -/
def execConfigureTurretLayout (c : Cmd) (s : State) : Ran := command opConfigureTurretLayout c s

/-- CONFIGURE_MEDIA_LANE (R363): opcode 0x0303. -/
def execConfigureMediaLane (c : Cmd) (s : State) : Ran := command opConfigureMediaLane c s

/-- SET_TRANSMIT_TAPS (R350): opcode 0x0304. -/
def execSetTransmitTaps (c : Cmd) (s : State) : Ran := command opSetTransmitTaps c s

/-- SET_POLARITY (R361): opcode 0x0305. -/
def execSetPolarity (c : Cmd) (s : State) : Ran := command opSetPolarity c s

/-- PRBS_GENERATOR_CHECKER (R365): opcode 0x0310. -/
def execPrbsGeneratorChecker (c : Cmd) (s : State) : Ran := command opPrbsGeneratorChecker c s

/-- LOOPBACK (R365): opcode 0x0311. -/
def execLoopback (c : Cmd) (s : State) : Ran := command opLoopback c s

/-- READ_LANE_STATUS (R366): opcode 0x0312. -/
def execReadLaneStatus (c : Cmd) (s : State) : Ran := command opReadLaneStatus c s

/-- PORT_IDENTITY (R371): opcode 0x0320. -/
def execPortIdentity (c : Cmd) (s : State) : Ran := command opPortIdentity c s

/-- PATH_HEALTH_PARAMETERS (R396): opcode 0x0321. -/
def execPathHealthParameters (c : Cmd) (s : State) : Ran := command opPathHealthParameters c s

/-- INTERLOCK_PARAMETERS (R399): opcode 0x0322. -/
def execInterlockParameters (c : Cmd) (s : State) : Ran := command opInterlockParameters c s

/-- PRIVILEGED_POLICER (R376): opcode 0x0323. -/
def execPrivilegedPolicer (c : Cmd) (s : State) : Ran := command opPrivilegedPolicer c s

/-- TURRET_OVERHEAD_COLOUR_TABLE (R384): opcode 0x0324. -/
def execTurretOverheadColourTable (c : Cmd) (s : State) : Ran := command opTurretOverheadColourTable c s

/-- DRR_QUEUE (R392): opcode 0x0325. -/
def execDrrQueue (c : Cmd) (s : State) : Ran := command opDrrQueue c s

/-- SEND_HOST_PACKET (R393): opcode 0x0330. -/
def execSendHostPacket (c : Cmd) (s : State) : Ran := command opSendHostPacket c s

/-- READ_TURRET_STATUS (R402): opcode 0x0331. -/
def execReadTurretStatus (c : Cmd) (s : State) : Ran := command opReadTurretStatus c s

/-- CONFIGURE_INGRESS_FLOW (R377): opcode 0x0401. -/
def execConfigureIngressFlow (c : Cmd) (s : State) : Ran := command opConfigureIngressFlow c s

/-- DELETE_INGRESS_FLOW (R374): opcode 0x0402. -/
def execDeleteIngressFlow (c : Cmd) (s : State) : Ran := command opDeleteIngressFlow c s

/-- CONFIGURE_EGRESS_FLOW (R385): opcode 0x0410. -/
def execConfigureEgressFlow (c : Cmd) (s : State) : Ran := command opConfigureEgressFlow c s

/-- DELETE_EGRESS_FLOW (R374): opcode 0x0411. -/
def execDeleteEgressFlow (c : Cmd) (s : State) : Ran := command opDeleteEgressFlow c s

/-- BIND_AUDIO_FLOW (R380): opcode 0x0430. -/
def execBindAudioFlow (c : Cmd) (s : State) : Ran := command opBindAudioFlow c s

/-- READ_FLOW_STATUS (R402): opcode 0x0440. -/
def execReadFlowStatus (c : Cmd) (s : State) : Ran := command opReadFlowStatus c s

/-- READ_MEMBERSHIP_TABLE (R374): opcode 0x0441. -/
def execReadMembershipTable (c : Cmd) (s : State) : Ran := command opReadMembershipTable c s

/-- OPEN_ENCODE_CONTEXT (R195): opcode 0x0501. -/
def execOpenEncodeContext (c : Cmd) (s : State) : Ran := command opOpenEncodeContext c s

/-- CLOSE_CONTEXT (R202): opcode 0x0502. -/
def execCloseContext (c : Cmd) (s : State) : Ran := command opCloseContext c s

/-- MODIFY_ENCODE_CONTEXT (R200): opcode 0x0503. -/
def execModifyEncodeContext (c : Cmd) (s : State) : Ran := command opModifyEncodeContext c s

/-- REQUEST_IRAP (R205): opcode 0x0510. -/
def execRequestIrap (c : Cmd) (s : State) : Ran := command opRequestIrap c s

/-- INVALIDATE_REFERENCES (R216): opcode 0x0511. -/
def execInvalidateReferences (c : Cmd) (s : State) : Ran := command opInvalidateReferences c s

/-- RATE_PARAMETERS (R246): opcode 0x0520. -/
def execRateParameters (c : Cmd) (s : State) : Ran := command opRateParameters c s

/-- SEND_CEILING_AND_HRD (R248): opcode 0x0521. -/
def execSendCeilingAndHrd (c : Cmd) (s : State) : Ran := command opSendCeilingAndHrd c s

/-- CONFIGURE_STATMUX_GROUP (R262): opcode 0x0522. -/
def execConfigureStatmuxGroup (c : Cmd) (s : State) : Ran := command opConfigureStatmuxGroup c s

/-- JOIN_GROUP (R263): opcode 0x0523. -/
def execJoinGroup (c : Cmd) (s : State) : Ran := command opJoinGroup c s

/-- REMOVE_FROM_GROUP (R261): opcode 0x0524. -/
def execRemoveFromGroup (c : Cmd) (s : State) : Ran := command opRemoveFromGroup c s

/-- READ_GROUP_STATUS (R280): opcode 0x0525. -/
def execReadGroupStatus (c : Cmd) (s : State) : Ran := command opReadGroupStatus c s

/-- READ_RATE_CONTROL_STATUS (R280): opcode 0x052F. -/
def execReadRateControlStatus (c : Cmd) (s : State) : Ran := command opReadRateControlStatus c s

/-- SCHEDULING_FIELDS (R187): opcode 0x0530. -/
def execSchedulingFields (c : Cmd) (s : State) : Ran := command opSchedulingFields c s

/-- DEVICE_SCHEDULING_FIELDS (R188): opcode 0x0531. -/
def execDeviceSchedulingFields (c : Cmd) (s : State) : Ran := command opDeviceSchedulingFields c s

/-- READ_SCHEDULING_STATISTICS (R189): opcode 0x0532. -/
def execReadSchedulingStatistics (c : Cmd) (s : State) : Ran := command opReadSchedulingStatistics c s

/-- OPEN_DECODE_CONTEXT (R283): opcode 0x0540. -/
def execOpenDecodeContext (c : Cmd) (s : State) : Ran := command opOpenDecodeContext c s

/-- FLUSH_AND_RESYNCHRONISE (R301): opcode 0x0541. -/
def execFlushAndResynchronise (c : Cmd) (s : State) : Ran := command opFlushAndResynchronise c s

/-- READ_DECODE_STATUS (R303): opcode 0x0542. -/
def execReadDecodeStatus (c : Cmd) (s : State) : Ran := command opReadDecodeStatus c s

/-- READ_CONTEXT_STATUS (R223): opcode 0x0550. -/
def execReadContextStatus (c : Cmd) (s : State) : Ran := command opReadContextStatus c s

/-- CONFIGURE_COMPOSITION (R309): opcode 0x0601. -/
def execConfigureComposition (c : Cmd) (s : State) : Ran := command opConfigureComposition c s

/-- DELETE_COMPOSITION (R309): opcode 0x0602. -/
def execDeleteComposition (c : Cmd) (s : State) : Ran := command opDeleteComposition c s

/-- CONFIGURE_VIDEO_LAYER (R316): opcode 0x0610. -/
def execConfigureVideoLayer (c : Cmd) (s : State) : Ran := command opConfigureVideoLayer c s

/-- CONFIGURE_GRAPHIC_LAYER (R321): opcode 0x0611. -/
def execConfigureGraphicLayer (c : Cmd) (s : State) : Ran := command opConfigureGraphicLayer c s

/-- DEFINE_ASSET (R320): opcode 0x0620. -/
def execDefineAsset (c : Cmd) (s : State) : Ran := command opDefineAsset c s

/-- WRITE_ASSET_CHUNK (R320): opcode 0x0621. -/
def execWriteAssetChunk (c : Cmd) (s : State) : Ran := command opWriteAssetChunk c s

/-- COMMIT_ASSET (R320): opcode 0x0622. -/
def execCommitAsset (c : Cmd) (s : State) : Ran := command opCommitAsset c s

/-- FREE_ASSET (R320): opcode 0x0623. -/
def execFreeAsset (c : Cmd) (s : State) : Ran := command opFreeAsset c s

/-- SET_MASTERING_METADATA (R326): opcode 0x0630. -/
def execSetMasteringMetadata (c : Cmd) (s : State) : Ran := command opSetMasteringMetadata c s

/-- READ_COMPOSITION_STATUS (R342): opcode 0x0640. -/
def execReadCompositionStatus (c : Cmd) (s : State) : Ran := command opReadCompositionStatus c s

/-- DEFINE_LANTERN_IMAGE (R330): opcode 0x0A01. -/
def execDefineLanternImage (c : Cmd) (s : State) : Ran := command opDefineLanternImage c s

/-- WRITE_LANTERN_IMAGE_CHUNK (R330): opcode 0x0A02. -/
def execWriteLanternImageChunk (c : Cmd) (s : State) : Ran := command opWriteLanternImageChunk c s

/-- COMMIT_LANTERN_IMAGE (R330): opcode 0x0A03. -/
def execCommitLanternImage (c : Cmd) (s : State) : Ran := command opCommitLanternImage c s

/-- CONFIGURE_LANTERN_ITEM (R331): opcode 0x0A10. -/
def execConfigureLanternItem (c : Cmd) (s : State) : Ran := command opConfigureLanternItem c s

/-- READ_LANTERN_STATUS (R308): opcode 0x0A20. -/
def execReadLanternStatus (c : Cmd) (s : State) : Ran := command opReadLanternStatus c s

/-- MEMORY_POLICY (R435): opcode 0x0701. -/
def execMemoryPolicy (c : Cmd) (s : State) : Ran := command opMemoryPolicy c s

/-- PORT_LATENCY_TARGET (R412): opcode 0x0702. -/
def execPortLatencyTarget (c : Cmd) (s : State) : Ran := command opPortLatencyTarget c s

/-- ROW_DISTURBANCE_SETTINGS (R435): opcode 0x0703. -/
def execRowDisturbanceSettings (c : Cmd) (s : State) : Ran := command opRowDisturbanceSettings c s

/-- SET_POINT (R425): opcode 0x0704. -/
def execSetPoint (c : Cmd) (s : State) : Ran := command opSetPoint c s

/-- RETRAIN_CHANNEL (R429): opcode 0x0705. -/
def execRetrainChannel (c : Cmd) (s : State) : Ran := command opRetrainChannel c s

/-- BAR2_APERTURE (R408): opcode 0x0706. -/
def execBar2Aperture (c : Cmd) (s : State) : Ran := command opBar2Aperture c s

/-- READ_MEMORY_STATUS (R435): opcode 0x0710. -/
def execReadMemoryStatus (c : Cmd) (s : State) : Ran := command opReadMemoryStatus c s

/-- CONFIGURE_DMA_CHANNEL (R443): opcode 0x0801. -/
def execConfigureDmaChannel (c : Cmd) (s : State) : Ran := command opConfigureDmaChannel c s

/-- START_CHANNELS (R444): opcode 0x0802. -/
def execStartChannels (c : Cmd) (s : State) : Ran := command opStartChannels c s

/-- CHANNEL_CONTROL (R438): opcode 0x0803. -/
def execChannelControl (c : Cmd) (s : State) : Ran := command opChannelControl c s

/-- RELEASE_DMA_CHANNEL (R438): opcode 0x0804. -/
def execReleaseDmaChannel (c : Cmd) (s : State) : Ran := command opReleaseDmaChannel c s

/-- ENGINE_SETTINGS (R438): opcode 0x0805. -/
def execEngineSettings (c : Cmd) (s : State) : Ran := command opEngineSettings c s

/-- OPEN_CHECK_UNIT (R459): opcode 0x0810. -/
def execOpenCheckUnit (c : Cmd) (s : State) : Ran := command opOpenCheckUnit c s

/-- CLOSE_CHECK_UNIT (R459): opcode 0x0811. -/
def execCloseCheckUnit (c : Cmd) (s : State) : Ran := command opCloseCheckUnit c s

/-- RELEASE_CHECK_UNIT (R438): opcode 0x0812. -/
def execReleaseCheckUnit (c : Cmd) (s : State) : Ran := command opReleaseCheckUnit c s

/-- READ_DMA_AND_CHECK_STATUS (R438): opcode 0x0820. -/
def execReadDmaAndCheckStatus (c : Cmd) (s : State) : Ran := command opReadDmaAndCheckStatus c s

/-- OPERATING_PROFILE (R19): opcode 0x0901. -/
def execOperatingProfile (c : Cmd) (s : State) : Ran := command opOperatingProfile c s

/-- THERMAL_LEVELS (R483): opcode 0x0902. -/
def execThermalLevels (c : Cmd) (s : State) : Ran := command opThermalLevels c s

/-- POWER_CAPS (R483): opcode 0x0903. -/
def execPowerCaps (c : Cmd) (s : State) : Ran := command opPowerCaps c s

/-- SENSOR_OVERRIDE (R469): opcode 0x0904. -/
def execSensorOverride (c : Cmd) (s : State) : Ran := command opSensorOverride c s

/-- READ_TELEMETRY (R482): opcode 0x0910. -/
def execReadTelemetry (c : Cmd) (s : State) : Ran := command opReadTelemetry c s

/-- READ_DIP_LOG (R481): opcode 0x0911. -/
def execReadDipLog (c : Cmd) (s : State) : Ran := command opReadDipLog c s

/-- READ_REGISTERS (R503): opcode 0x0B01. -/
def execReadRegisters (c : Cmd) (s : State) : Ran := command opReadRegisters c s

/-- WRITE_REGISTER (R505): opcode 0x0B02. -/
def execWriteRegister (c : Cmd) (s : State) : Ran := command opWriteRegister c s

/-- COUNTER_SNAPSHOT (R505): opcode 0x0B03. -/
def execCounterSnapshot (c : Cmd) (s : State) : Ran := command opCounterSnapshot c s

/-- WRITE_FIRMWARE_CHUNK (R125): opcode 0x0F01. -/
def execWriteFirmwareChunk (c : Cmd) (s : State) : Ran := command opWriteFirmwareChunk c s

/-- VERIFY_INACTIVE_SLOT (R125): opcode 0x0F02. -/
def execVerifyInactiveSlot (c : Cmd) (s : State) : Ran := command opVerifyInactiveSlot c s

/-- ACTIVATE_INACTIVE_SLOT (R126): opcode 0x0F03. -/
def execActivateInactiveSlot (c : Cmd) (s : State) : Ran := command opActivateInactiveSlot c s

/-- CONFIRM_TRIAL_IMAGE (R127): opcode 0x0F04. -/
def execConfirmTrialImage (c : Cmd) (s : State) : Ran := command opConfirmTrialImage c s

/-- INSTALL_KEY (R128): opcode 0x0F10. -/
def execInstallKey (c : Cmd) (s : State) : Ran := command opInstallKey c s

/-- SET_AUTHENTICATION_POLICY (R129): opcode 0x0F11. -/
def execSetAuthenticationPolicy (c : Cmd) (s : State) : Ran := command opSetAuthenticationPolicy c s

/-- WRITE_STARTUP_STORE (R117): opcode 0x0F20. -/
def execWriteStartupStore (c : Cmd) (s : State) : Ran := command opWriteStartupStore c s

/-- UNLOCK_DEBUG_ACCESS (R52): opcode 0x0F30. -/
def execUnlockDebugAccess (c : Cmd) (s : State) : Ran := command opUnlockDebugAccess c s

end Sys2Proof.Machine
end

