-- ==== Sys2Proof/Machine/Process.lean ====
section
/-! DEFINITION. The command processor's own rows: a packet taken from its ring, background commands,
the startup store, pending commands at their boundary. -/

namespace Sys2Proof.Machine

/-- The ring's front item removed. -/
def popRing (r : Nat) (s : State) : State := modRing r (fun g => { g with queue := g.queue.drop 1 }) s

/-- A packet that has passed stage 1 executed, its reply and what its transport keeps of it; `fault` is a firmware
fault that strikes it (R62). -/
def runPacket (c : Cmd) (fault : Option Nat) (l : List Byte) (s : State) : State :=
  let (t, x, k) := runBytes opTable { c with fault := fault } l s
  match x with
  | none => t
  | some x => k (finishCmd c x (deliver c x t))

/-- The packet at the consumer's descriptor executed (R79 to R81): the descriptor and the packet that it gives are
read from host memory. One that fails stage 1 gets a completion record alone. -/
def runDescriptor (r : Nat) (f : Fetch) (fault : Option Nat) (s : State) : State :=
  let g := ringOf s r
  let (addr, len, capacity, replyAddr) := descFields f.desc
  let s := send (.hostRead addr len) (send (.hostRead (descAddr g g.consumer) 32) s)
  let l := f.bytes.take len
  let c := packetCmd (.ring r) { v6 := false, addr := 0, port := 0 } 0 capacity replyAddr l
  if stage1 l then runPacket c fault l s else completeRing r c.tag .badOpcode 0 0 s

/-- A packet of the startup store executed (R117). -/
def runStored (i : Nat) (l : List Byte) (fault : Option Nat) (s : State) : State :=
  let c := packetCmd (.store i) { v6 := false, addr := 0, port := 0 } 0 0 0 l
  if stage1 l then runPacket c fault l s else finishCmd c (earlyReply c l .badOpcode false) s

/-- The front item of ring `r` executed; a descriptor needs what the read of host memory returned. -/
def runItem (r : Nat) (f : Option Fetch) (fault : Option Nat) : QItem → State → State
  | .desc, s =>
    (match f with
    | none => s
    | some f => if s.pins.hostUp then runDescriptor r f fault (popRing r s) else s)
  | .stored i l, s => runStored i l fault (popRing r s)
  | .udp via src path l, s => runPacket (packetCmd via src path 0 0 l) fault l (popRing r s)

/-- COMMAND_EXECUTE (R63, R88): the front of the highest-numbered ring that waits. A descriptor's packet is
what the fetch from host memory returned, which this row carries; there is no fetch while host memory is
out of reach (R454). Nothing runs while a reset is due. -/
def execCommandExecute (e : ExecIn) (s : State) : Ran :=
  ran s (if s.dev.state = .off ∨ s.dev.state = .boot ∨ s.dev.warmDue.isSome then s
    else match topRing s with
      | none => s
      | some r =>
        match (ringOf s r).queue with
        | [] => s
        | x :: _ => runItem r e.fetch e.fault x s)

/-- The outcome of a background command that ends: its action, with what follows the reply; INTERNAL where a
firmware fault has struck it (R62); REFUSED where `ok` is false and it is a retraining that found no working
setting (R429). -/
def endBackground (op : Op) (j : Job) (ok : Bool) (s : State) : State × Reply × (State → State) :=
  match j.cmd.fault with
  | some core =>
    (internalEvent 1 core j.cmd.ctx j.opcode j.cmd.tag s, replyOf j.opcode j.cmd .internal [] none [], id)
  | none =>
    if ok || j.opcode ≠ 0x0705 then
      let (t, x) := act op j.cmd j.f j.clamps s
      (t, x, op.after j.cmd j.f)
    else (s, replyOf j.opcode j.cmd .refused [] none [], id)

/-- BACKGROUND_COMMAND_COMPLETE (R89): the job's action, its reply, and its ring continues. -/
def execBackgroundCommandComplete (job : Nat) (ok : Bool) (s : State) : Ran :=
  ran s (match s.cmd.jobs.find? (·.id = job) with
    | none => s
    | some j =>
      let held := ringHolds j s
      let s := unblock j { s with cmd := { s.cmd with jobs := s.cmd.jobs.filter (·.id ≠ job) } }
      match opTable j.opcode with
      | none => s
      | some op =>
        let (t, x, k) := endBackground op j ok s
        k (answerJob held j.cmd x t))

/-- DRAM_TRAINING_COMMIT (R116, R107 row 4, R117, R122): STANDBY is entered and the startup store's packets wait in
ring 0; the third watchdog boot enters SAFE instead. `failed` is the mask of the channels, not degraded before,
that the check pass of a warm reset failed: each starts its ladder (R427). -/
def execDramTrainingCommit (failed sub : Nat) (margin : Int) (s : State) : Ran :=
  ran s (if s.dev.state ≠ .train then s
    else if s.dev.safeBoot then enterSafeState 10 s
    else
      let warm := s.dev.warmBoot
      let s := noteTraining (changeState .standby 4 s)
      let s := if warm then startLadders failed sub margin s else s
      queueStore 0 { s with cmd := { s.cmd with log := [] } })

/-- STARTUP_STORE_RESUME (R118): the store goes on with the packet it paused at, once time is valid. -/
def execStartupStoreResume (s : State) : Ran :=
  ran s (match s.cmd.paused with
    | some i => if validTime s then queueStore i s else s
    | none => s)

/-- PENDING_COMMAND_EFFECT (R77, R78): the first accepted of the commands due at a boundary that has been
reached applies, or is cancelled. -/
def execPendingCommandEffect (tb frame : Nat) (s : State) : Ran :=
  ran s (if (tbOf s tb).isSome && decide ((frame : Int) ≤ countNow s (tbD s tb)) then
      match s.cmd.pend.find? fun p => p.tb = tb ∧ p.frame = frame with
      | some p => effectPend opTable p s
      | none => s
    else s)

end Sys2Proof.Machine
end

