-- ==== Sys2Proof/Machine/Boundary.lean ====
section
/-! DEFINITION. What happens at a timebase's boundary (R151, R159, R212, R306) and when a raster event unit
fires (R155, R156). -/

namespace Sys2Proof.Machine

/-! ## FRAME_BOUNDARY -/

/-- The next boundary of a timebase: the one after the last, or the newest that has come when none was
reached yet. -/
def nextBoundary (s : State) (t : Timebase) : Int :=
  match t.last with
  | some m => (m : Int) + 1
  | none => countNow s t

/-- The timebase at boundary `n`: a re-phase that is due is made, and its extra time noted. -/
def atBoundary (n : Int) (t : Timebase) : Timebase :=
  { rephased t with last := some n.toNat, stretch := if rephaseDue t then rephaseNs t else 0 }

/-- Frame `n` of a context opens (R212 steps 2 to 4), its output space following at an IRAP (R309); a decode
context comes to its show slot `n` (R290). -/
def boundaryCtx (c n : Nat) (s : State) : State :=
  if (ctxOf s c).st ≠ .active then s
  else if (ctxOf s c).decode then showSlotNow c n s
  else
    let s := openCtxFrame c n s
    if (ctxOf s c).lastIrap = n ∧ (ctxOf s c).framesSince = 0 then irapSpace c s else s

/-- The contexts on timebase `tb`, in ascending order. -/
def ctxsOn (s : State) (tb : Nat) : List Nat := (s.ctxs.filter fun (_, x) => x.tb = tb ∧ x.st = .active).map (·.1)

/-- The groups on timebase `tb`. -/
def groupsOn (s : State) (tb : Nat) : List Nat :=
  s.groups.filterMap fun (i, g) => match g with
    | some g => if fnat g.f 1 = tb then some i else none
    | none => none

/-- The compositions on timebase `tb`. -/
def compsOn (s : State) (tb : Nat) : List Nat :=
  s.cup.comps.filterMap fun (c, x) => match x with
    | some x => if fnat x.f 1 = tb then some c else none
    | none => none

/-- Everything a boundary opens after its pending commands have taken effect: contexts, groups, and the
compositions' next frames. -/
def openBoundary (tb n : Nat) (s : State) : State :=
  let s := (ctxsOn s tb).foldl (fun t c => boundaryCtx c n t) s
  let s := (groupsOn s tb).foldl (fun t i => allocGroup i n t) s
  (compsOn s tb).foldl (fun t c => startCompose c n t) s

/-- Boundary `n` of timebase `tb`, whose record is `t`: a re-phase that is due, with the launches that it moves, the
pending commands in acceptance order, and what opens (R159, R77, R212). -/
def passBoundary (tb : Nat) (t : Timebase) (n : Int) (s : State) : State :=
  let u := atBoundary n t
  let s := if u.offset = t.offset then s
    else shiftLaunches tb (alignPoint t.rate (n - u.offset) - alignPoint t.rate (n - t.offset)) s
  let s := { s with bel := { s.bel with tbs := tset none s.bel.tbs tb (some u) } }
  openBoundary tb n.toNat (effectAll opTable tb n s)

/-- FRAME_BOUNDARY (R151): the timebase's next boundary, once raster time has reached it. -/
def execFrameBoundary (tb : Nat) (s : State) : Ran :=
  ran s (match tbOf s tb with
    | none => s
    | some t =>
      let n := nextBoundary s t
      if 0 ≤ n ∧ n ≤ countNow s t then passBoundary tb t n s else s)

/-! ## RASTER_EVENT_FIRE -/

/-- The action of a unit that fires for frame `n` on one of its targets (R155): 1 a DMA start of a channel
whose trigger is a raster event, 2 the release of a context's frame, 5 its launch-time set, 6 a GPIO
pulse, 7 an interrupt. -/
def fireAt (unit action n target : Nat) (s : State) : State :=
  match action with
  | 1 => if fnat (dmaOf s target).f 2 = 1 then triggerChan target (some unit) s else s
  | 2 => promote (releaseEncode target n s)
  | 5 => setLaunch target n s
  | 6 => if fld (gpioOf s target).f 1 = 2 then modGpio target (fun x => { x with pulse := some s.tick }) s else s
  | 7 => sendMsix target s
  | _ => s

/-- The unit after it has fired for frame `n`: a unit set to fire once releases itself. -/
def firedUnit (n : Int) (u : EvUnit) : EvUnit := if fnat u.f 4 = 2 then {} else { u with fired := some n }

/-- A unit whose position plus delay has come fires, once for each frame. -/
def fireUnit (unit : Nat) (s : State) : State :=
  let u := unitOf s unit
  if u.holder = .free ∨ (tbOf s (fnat u.f 1)).isNone then s
  else match unitDue s u with
    | none => s
    | some n =>
      u.targets.foldl (fun t g => fireAt unit (fnat u.f 9) n.toNat g t) (setUnit unit (firedUnit n u) s)

/-- RASTER_EVENT_FIRE (R155, R156): a unit that has to fire does so, and before it every unit whose tick came before,
or in the same tick with a lower index. -/
def execRasterEventFire (unit : Nat) (s : State) : Ran :=
  ran s (
    let order := fireOrder s
    if unit ∈ order then fireUnit unit ((order.takeWhile (· ≠ unit)).foldl (fun t i => fireUnit i t) s) else s)

end Sys2Proof.Machine
end

