-- ==== Sys2Proof/Machine/Drain.lean ====
section
/-! DEFINITION. The end of a tile's drain (R451, R452): the last affected channel pauses and the lane
command that waited completes, or the drain timeout refuses it. -/

namespace Sys2Proof.Machine

/-- The lane command of a closing tile taken out, its ring free again. -/
def unpark (t : Nat) (j : Job) (s : State) : State :=
  unblock j { s with lanes := { s.lanes with closing := s.lanes.closing.filter fun (u, _, k) => !(u = t && k.id = j.id) } }

/-- The tile powers down and its lane command completes (R452). -/
def finishDrain (t : Nat) (j : Job) (s : State) : State :=
  let held := ringHolds j s
  let s := unpark t j s
  match opTable j.opcode with
  | none => s
  | some op =>
    let (u, x) := act op j.cmd j.f j.clamps s
    answerJob held j.cmd x u

/-- The lane command that waits for a tile, with the tick since when. -/
def parked (s : State) (t : Nat) : Option (Nat × Job) :=
  (s.lanes.closing.find? fun (u, _, _) => u = t).map (·.2)

/-- A tile's drain ends once no affected channel still runs. -/
def settleDrain (t : Nat) (s : State) : State :=
  match parked s t with
  | none => s
  | some (_, j) => if (List.range 64).any (drainAffects s t) then s else finishDrain t j s

/-- DMA_DRAIN_PAUSE (R451): an affected channel reaches its element boundary. -/
def execDmaDrainPause (c : Nat) (s : State) : Ran :=
  ran s (match s.lanes.closing.find? fun (t, _, _) => drainAffects s t c with
    | some (t, _, _) => settleDrain t (pauseForTile t c s)
    | none => s)

/-- DRAIN_TIMEOUT (R452): the lane command is answered REFUSED and changes nothing, and the channels that
paused go on; a drain whose channels have all paused by now completes. -/
def execDrainTimeout (t : Nat) (s : State) : Ran :=
  ran s (match parked s t with
    | none => s
    | some (tick, j) =>
      if !elapsed s tick s.dma.drain then s
      else if !(List.range 64).any (drainAffects s t) then finishDrain t j s
      else
        let held := ringHolds j s
        let s := resumeDomain t (unpark t j (raise 11 1 (bump 0xB0010 1 s)))
        let x := replyOf j.opcode j.cmd .refused [] none []
        answerJob held j.cmd x s)

end Sys2Proof.Machine
end

