-- ==== Sys2Proof/Machine/Dispatch.lean ====
section
/-! DEFINITION. The command that runs: one arm a row of spec/opcode_table.json. -/

namespace Sys2Proof.Machine

/-- The command's effect on everything but the queue, by its meaning. -/
def exec (i : Instr) (s : State) : Host.Outcome State Fault Refusal :=
  match i with
  | .converterStart x => Sys2Proof.Machine.execConverterStart x s
  | .converterRetry x => Sys2Proof.Machine.execConverterRetry x s
  | .overVoltageLockout vin => Sys2Proof.Machine.execOverVoltageLockout vin s
  | .supplyReset vin => Sys2Proof.Machine.execSupplyReset vin s
  | .converterStop vin => Sys2Proof.Machine.execConverterStop vin s
  | .telemetryFrame f => Sys2Proof.Machine.execTelemetryFrame f s
  | .telemetryLost => Sys2Proof.Machine.execTelemetryLost s
  | .supplyWarnClear => Sys2Proof.Machine.execSupplyWarnClear s
  | .telemetryRecovered => Sys2Proof.Machine.execTelemetryRecovered s
  | .externalReset => Sys2Proof.Machine.execExternalReset s
  | .resetNRelease => Sys2Proof.Machine.execResetNRelease s
  | .bootImageStart => Sys2Proof.Machine.execBootImageStart s
  | .dramTrainingCommit failed sub margin => Sys2Proof.Machine.execDramTrainingCommit failed sub margin s
  | .dramTrainingTimeout failed sub => Sys2Proof.Machine.execDramTrainingTimeout failed sub s
  | .startupStoreResume => Sys2Proof.Machine.execStartupStoreResume s
  | .pcieReset cause => Sys2Proof.Machine.execPcieReset cause s
  | .pciePerstNRelease => Sys2Proof.Machine.execPciePerstNRelease s
  | .warmReset => Sys2Proof.Machine.execWarmReset s
  | .watchdogExpiry core => Sys2Proof.Machine.execWatchdogExpiry core s
  | .hardTrip => Sys2Proof.Machine.execHardTrip s
  | .sensorSample sensor raw reading => Sys2Proof.Machine.execSensorSample sensor raw reading s
  | .sensorFault sensor => Sys2Proof.Machine.execSensorFault sensor s
  | .sensorSelfCheck sensor error => Sys2Proof.Machine.execSensorSelfCheck sensor error s
  | .throttleTick => Sys2Proof.Machine.execThrottleTick s
  | .ppsInEdge => Sys2Proof.Machine.execPpsInEdge s
  | .frameRefInEdge => Sys2Proof.Machine.execFrameRefInEdge s
  | .freq10mPresenceChange mv ppb => Sys2Proof.Machine.execFreq10mPresenceChange mv ppb s
  | .pathForceAssert => Sys2Proof.Machine.execPathForceAssert s
  | .pathForceDeassert => Sys2Proof.Machine.execPathForceDeassert s
  | .ppsOutRise => Sys2Proof.Machine.execPpsOutRise s
  | .ppsOutFall => Sys2Proof.Machine.execPpsOutFall s
  | .gpioPulseEnd gpio => Sys2Proof.Machine.execGpioPulseEnd gpio s
  | .cmdRingDoorbell ring value => Sys2Proof.Machine.execCmdRingDoorbell ring value s
  | .cmdRingEnable ring value => Sys2Proof.Machine.execCmdRingEnable ring value s
  | .cmdRingDisable ring value => Sys2Proof.Machine.execCmdRingDisable ring value s
  | .eventQueueEnable value => Sys2Proof.Machine.execEventQueueEnable value s
  | .eventQueueDisable value => Sys2Proof.Machine.execEventQueueDisable value s
  | .eventQueueHeadWrite value => Sys2Proof.Machine.execEventQueueHeadWrite value s
  | .commandUdpPacket d => Sys2Proof.Machine.execCommandUdpPacket d s
  | .reassemblyTimeout src ident => Sys2Proof.Machine.execReassemblyTimeout src ident s
  | .commandExecute x => Sys2Proof.Machine.execCommandExecute x s
  | .backgroundCommandComplete job ok => Sys2Proof.Machine.execBackgroundCommandComplete job ok s
  | .pendingCommandEffect tb frame => Sys2Proof.Machine.execPendingCommandEffect tb frame s
  | .readIdentity c => Sys2Proof.Machine.execReadIdentity c s
  | .registerEventSubscriber c => Sys2Proof.Machine.execRegisterEventSubscriber c s
  | .setAllowListEntry c => Sys2Proof.Machine.execSetAllowListEntry c s
  | .cancelPendingCommands c => Sys2Proof.Machine.execCancelPendingCommands c s
  | .assignGpioFunction c => Sys2Proof.Machine.execAssignGpioFunction c s
  | .readStartupLog c => Sys2Proof.Machine.execReadStartupLog c s
  | .selectManagementLinkMode c => Sys2Proof.Machine.execSelectManagementLinkMode c s
  | .readGpioLevels c => Sys2Proof.Machine.execReadGpioLevels c s
  | .warmResetCommand c => Sys2Proof.Machine.execWarmResetCommand c s
  | .enterSafe c => Sys2Proof.Machine.execEnterSafe c s
  | .interruptAndAlertMasks c => Sys2Proof.Machine.execInterruptAndAlertMasks c s
  | .configurePtp c => Sys2Proof.Machine.execConfigurePtp c s
  | .ptpConfigApply => Sys2Proof.Machine.execPtpConfigApply s
  | .acceptRefusedOffset c => Sys2Proof.Machine.execAcceptRefusedOffset c s
  | .setTime c => Sys2Proof.Machine.execSetTime c s
  | .configureTimebase c => Sys2Proof.Machine.execConfigureTimebase c s
  | .removeTimebase c => Sys2Proof.Machine.execRemoveTimebase c s
  | .configureEventUnit c => Sys2Proof.Machine.execConfigureEventUnit c s
  | .releaseEventUnit c => Sys2Proof.Machine.execReleaseEventUnit c s
  | .readTimeStatus c => Sys2Proof.Machine.execReadTimeStatus c s
  | .ptpAnnounceReceived a => Sys2Proof.Machine.execPtpAnnounceReceived a s
  | .ptpSyncReceived m => Sys2Proof.Machine.execPtpSyncReceived m s
  | .delayReqSend => Sys2Proof.Machine.execDelayReqSend s
  | .delayRespReceived path lane gm late => Sys2Proof.Machine.execDelayRespReceived path lane gm late s
  | .announceReceiptTimeout => Sys2Proof.Machine.execAnnounceReceiptTimeout s
  | .syncTimeout => Sys2Proof.Machine.execSyncTimeout s
  | .frameBoundary tb => Sys2Proof.Machine.execFrameBoundary tb s
  | .slewComplete tb => Sys2Proof.Machine.execSlewComplete tb s
  | .rasterEventFire unit => Sys2Proof.Machine.execRasterEventFire unit s
  | .frameBind => Sys2Proof.Machine.execFrameBind s
  | .taskDispatch engine => Sys2Proof.Machine.execTaskDispatch engine s
  | .segmentDone spire r => Sys2Proof.Machine.execSegmentDone spire r s
  | .spillRefill => Sys2Proof.Machine.execSpillRefill s
  | .bindUrgent ctx frame => Sys2Proof.Machine.execBindUrgent ctx frame s
  | .decodeFrameSkip ctx frame => Sys2Proof.Machine.execDecodeFrameSkip ctx frame s
  | .substitutePicture ctx frame => Sys2Proof.Machine.execSubstitutePicture ctx frame s
  | .domeBind => Sys2Proof.Machine.execDomeBind s
  | .domeTaskDone dome row seg => Sys2Proof.Machine.execDomeTaskDone dome row seg s
  | .frameClose ctx frame late => Sys2Proof.Machine.execFrameClose ctx frame late s
  | .stagingResume spire => Sys2Proof.Machine.execStagingResume spire s
  | .alfFitComplete ctx frame => Sys2Proof.Machine.execAlfFitComplete ctx frame s
  | .spirePowerUp spire => Sys2Proof.Machine.execSpirePowerUp spire s
  | .accessUnitMapped ctx u => Sys2Proof.Machine.execAccessUnitMapped ctx u s
  | .accessUnitComplete ctx slot bottom e => Sys2Proof.Machine.execAccessUnitComplete ctx slot bottom e s
  | .decodeReleaseDeadline ctx slot bottom e => Sys2Proof.Machine.execDecodeReleaseDeadline ctx slot bottom e s
  | .decodeAbandon ctx slot bottom => Sys2Proof.Machine.execDecodeAbandon ctx slot bottom s
  | .composedRowWritten comp r => Sys2Proof.Machine.execComposedRowWritten comp r s
  | .sourceFrameComplete source format rate => Sys2Proof.Machine.execSourceFrameComplete source format rate s
  | .directLineArrival comp layer line => Sys2Proof.Machine.execDirectLineArrival comp layer line s
  | .lanternTileRepair image tile => Sys2Proof.Machine.execLanternTileRepair image tile s
  | .lanternScrub => Sys2Proof.Machine.execLanternScrub s
  | .frameReceived f => Sys2Proof.Machine.execFrameReceived f s
  | .videoFrameSkewTimeout flow => Sys2Proof.Machine.execVideoFrameSkewTimeout flow s
  | .mergeGapTimeout flow => Sys2Proof.Machine.execMergeGapTimeout flow s
  | .packetLaunch x => Sys2Proof.Machine.execPacketLaunch x s
  | .queuedPacketSend port => Sys2Proof.Machine.execQueuedPacketSend port s
  | .membershipReportRepeat => Sys2Proof.Machine.execMembershipReportRepeat s
  | .membershipQueryResponse port q => Sys2Proof.Machine.execMembershipQueryResponse port q s
  | .arpRefresh => Sys2Proof.Machine.execArpRefresh s
  | .pllLock port bad => Sys2Proof.Machine.execPllLock port bad s
  | .autonegComplete port ok => Sys2Proof.Machine.execAutonegComplete port ok s
  | .trainingCoeffRequest lane tap up => Sys2Proof.Machine.execTrainingCoeffRequest lane tap up s
  | .linkTrainingEnd port bad precodeTx precodeRx => Sys2Proof.Machine.execLinkTrainingEnd port bad precodeTx precodeRx s
  | .linkLock lane x => Sys2Proof.Machine.execLinkLock lane x s
  | .deskew port arrivals => Sys2Proof.Machine.execDeskew port arrivals s
  | .portRetry port => Sys2Proof.Machine.execPortRetry port s
  | .signalReturn lane => Sys2Proof.Machine.execSignalReturn lane s
  | .laneLoss lane kind => Sys2Proof.Machine.execLaneLoss lane kind s
  | .laneRelockTimeout port => Sys2Proof.Machine.execLaneRelockTimeout port s
  | .fecUncorrectable x => Sys2Proof.Machine.execFecUncorrectable x s
  | .refLost => Sys2Proof.Machine.execRefLost s
  | .fecWindowEnd w => Sys2Proof.Machine.execFecWindowEnd w s
  | .sentinelTimeout turret flow => Sys2Proof.Machine.execSentinelTimeout turret flow s
  | .healthSettled turret => Sys2Proof.Machine.execHealthSettled turret s
  | .holdoffExpiry => Sys2Proof.Machine.execHoldoffExpiry s
  | .sdiTrsLock lane format rate x => Sys2Proof.Machine.execSdiTrsLock lane format rate x s
  | .sdiTrsLoss x => Sys2Proof.Machine.execSdiTrsLoss x s
  | .sdiFrameComplete lane skew lines x => Sys2Proof.Machine.execSdiFrameComplete lane skew lines x s
  | .sdiOutputFrame lane => Sys2Proof.Machine.execSdiOutputFrame lane s
  | .memoryRequest q => Sys2Proof.Machine.execMemoryRequest q s
  | .refreshDue rank group bank => Sys2Proof.Machine.execRefreshDue rank group bank s
  | .pageIdleClose rank bank => Sys2Proof.Machine.execPageIdleClose rank bank s
  | .powerDownEntry rank arrival => Sys2Proof.Machine.execPowerDownEntry rank arrival s
  | .rhWindowEnd => Sys2Proof.Machine.execRhWindowEnd s
  | .trainingPassStart channel thermal => Sys2Proof.Machine.execTrainingPassStart channel thermal s
  | .trainingPassCommit channel => Sys2Proof.Machine.execTrainingPassCommit channel s
  | .trainFail channel sub margin => Sys2Proof.Machine.execTrainFail channel sub margin s
  | .setpointSwitchStart => Sys2Proof.Machine.execSetpointSwitchStart s
  | .setpointSwitchComplete => Sys2Proof.Machine.execSetpointSwitchComplete s
  | .setpointCheckComplete failed sub margin => Sys2Proof.Machine.execSetpointCheckComplete failed sub margin s
  | .patrolScrub q => Sys2Proof.Machine.execPatrolScrub q s
  | .dmaTrigger channel kind => Sys2Proof.Machine.execDmaTrigger channel kind s
  | .dmaTimerExpiry channel => Sys2Proof.Machine.execDmaTimerExpiry channel s
  | .dmaRunEnd channel x => Sys2Proof.Machine.execDmaRunEnd channel x s
  | .drainTimeout tile => Sys2Proof.Machine.execDrainTimeout tile s
  | .dmaDomainResume domain => Sys2Proof.Machine.execDmaDomainResume domain s
  | .hostMemoryLost => Sys2Proof.Machine.execHostMemoryLost s
  | .msixReenable vectors => Sys2Proof.Machine.execMsixReenable vectors s
  | .belfNow32Read => Sys2Proof.Machine.execBelfNow32Read s
  | .tsqHiRead turret => Sys2Proof.Machine.execTsqHiRead turret s
  | .tbFrameCountRead tb => Sys2Proof.Machine.execTbFrameCountRead tb s
  | .counterReadClear offset => Sys2Proof.Machine.execCounterReadClear offset s
  | .w1cWrite offset value meets => Sys2Proof.Machine.execW1cWrite offset value meets s
  | .chkFeed8Write unit value => Sys2Proof.Machine.execChkFeed8Write unit value s
  | .chkFeed16Write unit value => Sys2Proof.Machine.execChkFeed16Write unit value s
  | .chkFeed32Write unit value => Sys2Proof.Machine.execChkFeed32Write unit value s
  | .registerWrite offset value => Sys2Proof.Machine.execRegisterWrite offset value s
  | .bar2Write offset bytes => Sys2Proof.Machine.execBar2Write offset bytes s
  | .bar2Read offset len => Sys2Proof.Machine.execBar2Read offset len s
  | .selectLaneReference c => Sys2Proof.Machine.execSelectLaneReference c s
  | .configureTurretLayout c => Sys2Proof.Machine.execConfigureTurretLayout c s
  | .configureMediaLane c => Sys2Proof.Machine.execConfigureMediaLane c s
  | .setTransmitTaps c => Sys2Proof.Machine.execSetTransmitTaps c s
  | .setPolarity c => Sys2Proof.Machine.execSetPolarity c s
  | .prbsGeneratorChecker c => Sys2Proof.Machine.execPrbsGeneratorChecker c s
  | .loopback c => Sys2Proof.Machine.execLoopback c s
  | .readLaneStatus c => Sys2Proof.Machine.execReadLaneStatus c s
  | .portIdentity c => Sys2Proof.Machine.execPortIdentity c s
  | .pathHealthParameters c => Sys2Proof.Machine.execPathHealthParameters c s
  | .interlockParameters c => Sys2Proof.Machine.execInterlockParameters c s
  | .privilegedPolicer c => Sys2Proof.Machine.execPrivilegedPolicer c s
  | .turretOverheadColourTable c => Sys2Proof.Machine.execTurretOverheadColourTable c s
  | .drrQueue c => Sys2Proof.Machine.execDrrQueue c s
  | .sendHostPacket c => Sys2Proof.Machine.execSendHostPacket c s
  | .readTurretStatus c => Sys2Proof.Machine.execReadTurretStatus c s
  | .configureIngressFlow c => Sys2Proof.Machine.execConfigureIngressFlow c s
  | .deleteIngressFlow c => Sys2Proof.Machine.execDeleteIngressFlow c s
  | .configureEgressFlow c => Sys2Proof.Machine.execConfigureEgressFlow c s
  | .deleteEgressFlow c => Sys2Proof.Machine.execDeleteEgressFlow c s
  | .bindAudioFlow c => Sys2Proof.Machine.execBindAudioFlow c s
  | .readFlowStatus c => Sys2Proof.Machine.execReadFlowStatus c s
  | .readMembershipTable c => Sys2Proof.Machine.execReadMembershipTable c s
  | .openEncodeContext c => Sys2Proof.Machine.execOpenEncodeContext c s
  | .closeContext c => Sys2Proof.Machine.execCloseContext c s
  | .modifyEncodeContext c => Sys2Proof.Machine.execModifyEncodeContext c s
  | .requestIrap c => Sys2Proof.Machine.execRequestIrap c s
  | .invalidateReferences c => Sys2Proof.Machine.execInvalidateReferences c s
  | .rateParameters c => Sys2Proof.Machine.execRateParameters c s
  | .sendCeilingAndHrd c => Sys2Proof.Machine.execSendCeilingAndHrd c s
  | .configureStatmuxGroup c => Sys2Proof.Machine.execConfigureStatmuxGroup c s
  | .joinGroup c => Sys2Proof.Machine.execJoinGroup c s
  | .removeFromGroup c => Sys2Proof.Machine.execRemoveFromGroup c s
  | .readGroupStatus c => Sys2Proof.Machine.execReadGroupStatus c s
  | .readRateControlStatus c => Sys2Proof.Machine.execReadRateControlStatus c s
  | .schedulingFields c => Sys2Proof.Machine.execSchedulingFields c s
  | .deviceSchedulingFields c => Sys2Proof.Machine.execDeviceSchedulingFields c s
  | .readSchedulingStatistics c => Sys2Proof.Machine.execReadSchedulingStatistics c s
  | .openDecodeContext c => Sys2Proof.Machine.execOpenDecodeContext c s
  | .flushAndResynchronise c => Sys2Proof.Machine.execFlushAndResynchronise c s
  | .readDecodeStatus c => Sys2Proof.Machine.execReadDecodeStatus c s
  | .readContextStatus c => Sys2Proof.Machine.execReadContextStatus c s
  | .configureComposition c => Sys2Proof.Machine.execConfigureComposition c s
  | .deleteComposition c => Sys2Proof.Machine.execDeleteComposition c s
  | .configureVideoLayer c => Sys2Proof.Machine.execConfigureVideoLayer c s
  | .configureGraphicLayer c => Sys2Proof.Machine.execConfigureGraphicLayer c s
  | .defineAsset c => Sys2Proof.Machine.execDefineAsset c s
  | .writeAssetChunk c => Sys2Proof.Machine.execWriteAssetChunk c s
  | .commitAsset c => Sys2Proof.Machine.execCommitAsset c s
  | .freeAsset c => Sys2Proof.Machine.execFreeAsset c s
  | .setMasteringMetadata c => Sys2Proof.Machine.execSetMasteringMetadata c s
  | .readCompositionStatus c => Sys2Proof.Machine.execReadCompositionStatus c s
  | .defineLanternImage c => Sys2Proof.Machine.execDefineLanternImage c s
  | .writeLanternImageChunk c => Sys2Proof.Machine.execWriteLanternImageChunk c s
  | .commitLanternImage c => Sys2Proof.Machine.execCommitLanternImage c s
  | .configureLanternItem c => Sys2Proof.Machine.execConfigureLanternItem c s
  | .readLanternStatus c => Sys2Proof.Machine.execReadLanternStatus c s
  | .memoryPolicy c => Sys2Proof.Machine.execMemoryPolicy c s
  | .portLatencyTarget c => Sys2Proof.Machine.execPortLatencyTarget c s
  | .rowDisturbanceSettings c => Sys2Proof.Machine.execRowDisturbanceSettings c s
  | .setPoint c => Sys2Proof.Machine.execSetPoint c s
  | .retrainChannel c => Sys2Proof.Machine.execRetrainChannel c s
  | .bar2Aperture c => Sys2Proof.Machine.execBar2Aperture c s
  | .readMemoryStatus c => Sys2Proof.Machine.execReadMemoryStatus c s
  | .configureDmaChannel c => Sys2Proof.Machine.execConfigureDmaChannel c s
  | .startChannels c => Sys2Proof.Machine.execStartChannels c s
  | .channelControl c => Sys2Proof.Machine.execChannelControl c s
  | .releaseDmaChannel c => Sys2Proof.Machine.execReleaseDmaChannel c s
  | .engineSettings c => Sys2Proof.Machine.execEngineSettings c s
  | .openCheckUnit c => Sys2Proof.Machine.execOpenCheckUnit c s
  | .closeCheckUnit c => Sys2Proof.Machine.execCloseCheckUnit c s
  | .releaseCheckUnit c => Sys2Proof.Machine.execReleaseCheckUnit c s
  | .readDmaAndCheckStatus c => Sys2Proof.Machine.execReadDmaAndCheckStatus c s
  | .operatingProfile c => Sys2Proof.Machine.execOperatingProfile c s
  | .thermalLevels c => Sys2Proof.Machine.execThermalLevels c s
  | .powerCaps c => Sys2Proof.Machine.execPowerCaps c s
  | .sensorOverride c => Sys2Proof.Machine.execSensorOverride c s
  | .readTelemetry c => Sys2Proof.Machine.execReadTelemetry c s
  | .readDipLog c => Sys2Proof.Machine.execReadDipLog c s
  | .readRegisters c => Sys2Proof.Machine.execReadRegisters c s
  | .writeRegister c => Sys2Proof.Machine.execWriteRegister c s
  | .counterSnapshot c => Sys2Proof.Machine.execCounterSnapshot c s
  | .writeFirmwareChunk c => Sys2Proof.Machine.execWriteFirmwareChunk c s
  | .verifyInactiveSlot c => Sys2Proof.Machine.execVerifyInactiveSlot c s
  | .activateInactiveSlot c => Sys2Proof.Machine.execActivateInactiveSlot c s
  | .confirmTrialImage c => Sys2Proof.Machine.execConfirmTrialImage c s
  | .installKey c => Sys2Proof.Machine.execInstallKey c s
  | .setAuthenticationPolicy c => Sys2Proof.Machine.execSetAuthenticationPolicy c s
  | .writeStartupStore c => Sys2Proof.Machine.execWriteStartupStore c s
  | .unlockDebugAccess c => Sys2Proof.Machine.execUnlockDebugAccess c s
  | .pciePerstNDeemedRelease => Sys2Proof.Machine.execPciePerstNDeemedRelease s
  | .pcieEndpointReady => Sys2Proof.Machine.execPcieEndpointReady s
  | .cdrLockTimeout port => Sys2Proof.Machine.execCdrLockTimeout port s
  | .dmaDrainPause channel => Sys2Proof.Machine.execDmaDrainPause channel s
  | .laneRefclkPresenceChange ppm => Sys2Proof.Machine.execLaneRefclkPresenceChange ppm s
  | .ppsInPresentExpiry => Sys2Proof.Machine.execPpsInPresentExpiry s
  | .managementLinkStateChange up rate => Sys2Proof.Machine.execManagementLinkStateChange up rate s

end Sys2Proof.Machine
end

