-- ==== Sys2Proof/Machine/Tick.lean ====
section
/-! DEFINITION. One 625 MHz tick (R131, R158): what a step on an empty queue does (log entry 1). -/

namespace Sys2Proof.Machine

/-- A correction after one tick of slewing (R158): 100 ppm of the tick nearer to 0, while it is less than
one frame period and at least 100 ppm of a tick. -/
def slewTick (incr : BitVec 40) (t : Timebase) : Timebase :=
  if rephaseDue t ∨ t.corr.natAbs < incr.toNat then t
  else if 0 < t.corr then { t with corr := t.corr - incr.toNat }
  else { t with corr := t.corr + incr.toNat }

/-- The state after one tick. The local clock counts, and each check unit takes one cycle of its feed
(R457, log entry 42), whenever the system-on-chip is out of reset; each subchannel has one command slot (R415, log
entry 92). The instant before it is over: row 9 of R107 is judged (R108). -/
def tickState (s : State) : State :=
  let s := { sendLines s (settleRecovered s) with tick := s.tick + 1 }
  if s.supply.pwrGood && !s.pins.held && decide (s.dev.state ≠ .off) then
    let s := slotsTick s
    { s with
      bel := { s.bel with
        clock := clockTick s.bel.clock s.bel.incr
        stepped := false
        tbs := tmap none s.bel.tbs fun _ t => t.map (slewTick s.bel.incr) }
      dma := { s.dma with units := tmap {} s.dma.units fun _ u => drainCycle u } }
  else s

end Sys2Proof.Machine
end

