-- ==== Sys2Proof/Safety.lean ====
section
/-! DEFINITION. The terms that the statements use: what a step may change without being asked, what a reply
is, when a packet is accepted, and the invariants of the machine. -/

namespace Sys2Proof.Machine

/-! ## What every step may bring up to date -/

/-- Bits `m` of interrupt word `b` set. -/
def withBits (b : Nat) (m : Word) (t : Tab Word) : Tab Word := tset 0 t b (tget 0 t b ||| m)

/-- A Turret's health without the conditions that the module itself keeps current (R396). -/
def stillHealth (h : Health) : Health := { h with portFail := false, since := none, good := false }

/-- A subscriber's fields, without its sequence number, loss count and queue (R97). -/
def stillSub (x : Option Sub) : Option Sub := x.map fun u => { f := u.f }

/-- The state without what any step may bring up to date besides its command's own effect: the output log and
MSI-X messages, the events queued and lost at subscribers (R97), the device state's rows of R107 that follow
contexts and conditions, the end of a trip (R111), memberships (R394), Turret health and the interlock (R396, R397), with the interrupt
bits and the two counters that go with them. Two states that agree here agree in everything else. -/
def still (s : State) : State :=
  { s with
    out := []
    msixPending := []
    irq := withBits 0 3 (withBits 1 0x100 (withBits 8 7 s.irq))
    counters := tset 0 (tset 0 s.counters 0x10414 1) 0x80004 1
    dev := { s.dev with state := .boot, owed := [], tripped := false }
    cmd := { s.cmd with
      subs := s.cmd.subs.map fun x => (x.1, stillSub x.2)
      evq := { s.cmd.evq with tail := 0 } }
    flows := { s.flows with
      members := [], reports := [], selB := false, lastCause := 0
      healthA := stillHealth s.flows.healthA, healthB := stillHealth s.flows.healthB } }

/-- `t` is `s` but for what any step may bring up to date. -/
def Leaves (s t : State) : Prop := still t = still s

/-- `o` was sent between `s` and `t`. -/
def Sent (o : Option Out) (s t : State) : Prop := ∃ a b, t.out = a ++ o.toList ++ b ++ s.out

/-- The outcome is a next state that is `u` but for what any step may bring up to date. -/
def Gives (u : State) (o : Host.Outcome State Fault Refusal) : Prop := ∃ t, o = .next t ∧ Leaves u t

/-- The outcome is such a next state, and `x` was sent on the way from `s`. -/
def Sends (x : Out) (s u : State) (o : Host.Outcome State Fault Refusal) : Prop :=
  ∃ t, o = .next t ∧ Leaves u t ∧ Sent (some x) s t

/-- The outcome is the state `u` with an event offered to every subscriber (R96, R97), settled: a next state that
is `u` but for what any step may bring up to date. -/
def Tells (code ctx source : Nat) (bytes : List Byte) (s u : State) (o : Host.Outcome State Fault Refusal) : Prop :=
  o = .next (settle s (emit code ctx source bytes u)) ∧ Leaves u (settle s (emit code ctx source bytes u))

/-! ## Packets (R63) -/

/-- What a reply puts in the output log, with its bytes on the transport: nothing when NO_REPLY suppresses it, when it
belongs to a stored packet, or when its descriptor gives no room (R60, R67, R81, R117). -/
def replyOut (c : Cmd) (r : Reply) : Option Out :=
  if suppressed c r then none
  else match c.via with
    | .store _ => none
    | .ring _ => if c.capacity = 0 then none else some (.reply c.via c.src c.replyAddr r (replyCut c.capacity r))
    | _ => some (.reply c.via c.src 0 r (replyWire r false))

/-- The command processor runs (R112). -/
def Running (s : State) : Prop := s.dev.state ≠ .off ∧ s.dev.state ≠ .boot

/-- Packet `c` passes stages 8 to 15 of R63 with field values `f` and clamp entries `cl`, and takes effect at
once (R73); no firmware fault strikes it (R62). -/
def AcceptedNow (op : Op) (c : Cmd) (f : Fields) (cl : List Clamp) (s : State) : Prop :=
  Running s ∧ c.fault = none ∧ judge opTable op c s = .pass f cl .now

/-- Packet `c` passes stages 8 to 15 of R63 and takes effect at boundary `n` of timebase `tb` (R74, R75); no firmware
fault strikes it (R62). -/
def AcceptedAt (op : Op) (c : Cmd) (f : Fields) (cl : List Clamp) (tb : Nat) (n : Int) (s : State) : Prop :=
  Running s ∧ c.fault = none ∧ judge opTable op c s = .pass f cl (.at' tb n)

/-- Packet `c` fails at stages 8 to 15 with status `st` (R63). -/
def Fails (op : Op) (c : Cmd) (st : Status) (cl : List Clamp) (s : State) : Prop :=
  Running s ∧ judge opTable op c s = .fail st cl

/-- The reply of an accepted command that gives the result words `w` (R60, R62, R67). -/
def okReply (op : Op) (c : Cmd) (cl : List Clamp) (w : List Word) : Reply :=
  replyOf op.opcode c (if cl = [] then .ok else .okClamped) cl none w

/-- The outcome of an accepted command: the next state is `u`, but for what any step brings up to date and the
packet's kept record (R84), and the reply with result words `w` is sent. -/
def Completes (op : Op) (c : Cmd) (cl : List Clamp) (w : List Word) (s u : State)
    (o : Host.Outcome State Fault Refusal) : Prop :=
  ∃ t, o = .next t ∧
    still { t with cmd := { t.cmd with kept := [] } } = still { u with cmd := { u.cmd with kept := [] } } ∧
    Sent (replyOut c (okReply op c cl w)) s t

/-- The outcome of a framed command accepted for boundary `n` of timebase `tb` (R60, R76): the state is as acceptance
leaves it, with the command last of the pending ones, in place of a profile command with the same change boundary
(R21), and the reply gives the boundary. -/
def Waits (op : Op) (c : Cmd) (f : Fields) (cl : List Clamp) (tb : Nat) (n : Int) (s : State)
    (o : Host.Outcome State Fault Refusal) : Prop :=
  ∃ t p, o = .next t ∧ p.opcode = op.opcode ∧ p.cmd = c ∧ p.f = f ∧ p.tb = tb ∧ p.frame = n.toNat ∧
    p.at' = boundaryAt s tb n ∧
    still { t with cmd := { t.cmd with kept := [], nextId := 0 } } =
      still { op.accept c f s with
        cmd := { (op.accept c f s).cmd with pend := standing op.opcode p.at' s ++ [p], kept := [], nextId := 0 } } ∧
    Sent (replyOut c { okReply op c cl [] with effect := some (BitVec.ofInt 32 n) }) s t

/-- A pending command is the first of boundary `frame` of timebase `tb`, that boundary has come, no close of its context
meets it (R202, R220), and the checks it passed still pass (R77, R78). -/
def TakesEffect (op : Op) (tb frame : Nat) (p : Pend) (s : State) : Prop :=
  (∃ t, tbOf s tb = some t ∧ (frame : Int) ≤ countNow s t) ∧
  s.cmd.pend.find? (fun p => p.tb = tb ∧ p.frame = frame) = some p ∧ p.opcode = op.opcode ∧ closeFirst p s = false ∧
  afterClose p s = false ∧ op.ctxOk p.cmd s = true ∧ op.post p.cmd p.f s = none ∧ stateAllows op s = true

/-- A framed opcode and its effect: it waits for its boundary and has the effect there (R73 to R77). -/
def FramedTimed (op : Op) (row : Cmd → Instr) (eff : Cmd → Fields → State → State) : Prop :=
  (∀ c f cl tb n s, AcceptedAt op c f cl tb n s → Waits op c f cl tb n s (exec (row c) s)) ∧
  (∀ tb frame p s, TakesEffect op tb frame p s →
    exec (.pendingCommandEffect tb frame) s = .next (settle s
      (eff p.cmd p.f { s with cmd := { s.cmd with pend := s.cmd.pend.filter fun q => q.id ≠ p.id } })))

/-- A framed opcode that can also be accepted with no timebase configured: it has the same effect at once then (R73). -/
def Framed (op : Op) (row : Cmd → Instr) (eff : Cmd → Fields → State → State) : Prop :=
  FramedTimed op row eff ∧
  (∀ c f cl s, AcceptedNow op c f cl s → Completes op c cl [] s (eff c f (op.accept c f s)) (exec (row c) s))

/-- The opcode rows: the constructor of each and its entry in the opcode table. -/
def opcodeRows : List ((Cmd → Instr) × Op) :=
  [
    (.readIdentity, opReadIdentity), (.registerEventSubscriber, opRegisterEventSubscriber),
    (.setAllowListEntry, opSetAllowListEntry), (.cancelPendingCommands, opCancelPendingCommands),
    (.assignGpioFunction, opAssignGpioFunction), (.readStartupLog, opReadStartupLog),
    (.selectManagementLinkMode, opSelectManagementLinkMode), (.readGpioLevels, opReadGpioLevels),
    (.warmResetCommand, opWarmResetCommand), (.enterSafe, opEnterSafe),
    (.interruptAndAlertMasks, opInterruptAndAlertMasks), (.configurePtp, opConfigurePtp),
    (.acceptRefusedOffset, opAcceptRefusedOffset), (.setTime, opSetTime),
    (.configureTimebase, opConfigureTimebase), (.removeTimebase, opRemoveTimebase),
    (.configureEventUnit, opConfigureEventUnit), (.releaseEventUnit, opReleaseEventUnit),
    (.readTimeStatus, opReadTimeStatus), (.selectLaneReference, opSelectLaneReference),
    (.configureTurretLayout, opConfigureTurretLayout), (.configureMediaLane, opConfigureMediaLane),
    (.setTransmitTaps, opSetTransmitTaps), (.setPolarity, opSetPolarity),
    (.prbsGeneratorChecker, opPrbsGeneratorChecker), (.loopback, opLoopback),
    (.readLaneStatus, opReadLaneStatus), (.portIdentity, opPortIdentity),
    (.pathHealthParameters, opPathHealthParameters), (.interlockParameters, opInterlockParameters),
    (.privilegedPolicer, opPrivilegedPolicer), (.turretOverheadColourTable, opTurretOverheadColourTable),
    (.drrQueue, opDrrQueue), (.sendHostPacket, opSendHostPacket), (.readTurretStatus, opReadTurretStatus),
    (.configureIngressFlow, opConfigureIngressFlow), (.deleteIngressFlow, opDeleteIngressFlow),
    (.configureEgressFlow, opConfigureEgressFlow), (.deleteEgressFlow, opDeleteEgressFlow),
    (.bindAudioFlow, opBindAudioFlow), (.readFlowStatus, opReadFlowStatus),
    (.readMembershipTable, opReadMembershipTable), (.openEncodeContext, opOpenEncodeContext),
    (.closeContext, opCloseContext), (.modifyEncodeContext, opModifyEncodeContext),
    (.requestIrap, opRequestIrap), (.invalidateReferences, opInvalidateReferences),
    (.rateParameters, opRateParameters), (.sendCeilingAndHrd, opSendCeilingAndHrd),
    (.configureStatmuxGroup, opConfigureStatmuxGroup), (.joinGroup, opJoinGroup),
    (.removeFromGroup, opRemoveFromGroup), (.readGroupStatus, opReadGroupStatus),
    (.readRateControlStatus, opReadRateControlStatus), (.schedulingFields, opSchedulingFields),
    (.deviceSchedulingFields, opDeviceSchedulingFields),
    (.readSchedulingStatistics, opReadSchedulingStatistics), (.openDecodeContext, opOpenDecodeContext),
    (.flushAndResynchronise, opFlushAndResynchronise), (.readDecodeStatus, opReadDecodeStatus),
    (.readContextStatus, opReadContextStatus), (.configureComposition, opConfigureComposition),
    (.deleteComposition, opDeleteComposition), (.configureVideoLayer, opConfigureVideoLayer),
    (.configureGraphicLayer, opConfigureGraphicLayer), (.defineAsset, opDefineAsset),
    (.writeAssetChunk, opWriteAssetChunk), (.commitAsset, opCommitAsset), (.freeAsset, opFreeAsset),
    (.setMasteringMetadata, opSetMasteringMetadata), (.readCompositionStatus, opReadCompositionStatus),
    (.defineLanternImage, opDefineLanternImage), (.writeLanternImageChunk, opWriteLanternImageChunk),
    (.commitLanternImage, opCommitLanternImage), (.configureLanternItem, opConfigureLanternItem),
    (.readLanternStatus, opReadLanternStatus), (.memoryPolicy, opMemoryPolicy),
    (.portLatencyTarget, opPortLatencyTarget), (.rowDisturbanceSettings, opRowDisturbanceSettings),
    (.setPoint, opSetPoint), (.retrainChannel, opRetrainChannel), (.bar2Aperture, opBar2Aperture),
    (.readMemoryStatus, opReadMemoryStatus), (.configureDmaChannel, opConfigureDmaChannel),
    (.startChannels, opStartChannels), (.channelControl, opChannelControl),
    (.releaseDmaChannel, opReleaseDmaChannel), (.engineSettings, opEngineSettings),
    (.openCheckUnit, opOpenCheckUnit), (.closeCheckUnit, opCloseCheckUnit),
    (.releaseCheckUnit, opReleaseCheckUnit), (.readDmaAndCheckStatus, opReadDmaAndCheckStatus),
    (.operatingProfile, opOperatingProfile), (.thermalLevels, opThermalLevels), (.powerCaps, opPowerCaps),
    (.sensorOverride, opSensorOverride), (.readTelemetry, opReadTelemetry), (.readDipLog, opReadDipLog),
    (.readRegisters, opReadRegisters), (.writeRegister, opWriteRegister),
    (.counterSnapshot, opCounterSnapshot), (.writeFirmwareChunk, opWriteFirmwareChunk),
    (.verifyInactiveSlot, opVerifyInactiveSlot), (.activateInactiveSlot, opActivateInactiveSlot),
    (.confirmTrialImage, opConfirmTrialImage), (.installKey, opInstallKey),
    (.setAuthenticationPolicy, opSetAuthenticationPolicy), (.writeStartupStore, opWriteStartupStore),
    (.unlockDebugAccess, opUnlockDebugAccess)]

/-! ## Invariants -/

/-- Every listed counter is within the range of its register (R11). -/
def countersOk (s : State) : Prop :=
  ∀ k, tget 0 s.counters k ≤ counterMax k * counterUnit k

/-- Every keyed table that the statements read after a write is in its canonical form. -/
def tablesOk (s : State) : Prop :=
  tabWf {} none s.ctxs = true ∧ tabWf none none s.groups = true ∧ tabWf {} none s.camp.spires = true ∧
  tabWf {} none s.camp.domes = true ∧ tabWf {} none s.cmd.rings = true ∧ tabWf none none s.bel.tbs = true ∧
  tabWf {} none s.bel.units = true ∧ tabWf {} none s.watch.sensors = true ∧ tabWf 0 none s.counters = true ∧
  tabWf {} none s.lanes.lanes = true ∧ tabWf {} none s.lanes.ports = true ∧ tabWf none none s.flows.ingress = true ∧
  tabWf none none s.flows.egress = true ∧ tabWf {} none s.flows.drr = true ∧ tabWf none none s.cup.comps = true ∧
  tabWf none none s.cup.assets = true ∧ tabWf none none s.cup.images = true ∧ tabWf {} none s.mem.chans = true ∧
  tabWf {} none s.mem.banks = true ∧ tabWf {} none s.mem.subs = true ∧ tabWf {} none s.dma.chans = true ∧ tabWf {} none s.dma.units = true

end Sys2Proof.Machine
end

