-- ==== Sys2Proof/Certificates/Slice0/Obligations.lean ====
section
/-! DEFINITION. The statements for the provers, each a proposition about the model, from the numbered rules of
spec/. A clause that rests on a choice of the model says so and names its log entry. Each docstring ends with the
rows of the table that the statement shows to complete: for every state and operands that meet the clause's conditions,
`exec` of the row ANSWERS A NEXT STATE with the row's own effect (`Gives`, `Sends`, `Tells`, `Completes` and `Waits` of
Safety.lean each say `∃ t, exec … = .next t ∧ …`). -/

open Sys2Proof Sys2Proof.Machine

/-! ## Supply and pins (spec/02) -/

/-- R35, R53, R30, R42, R480: CONVERTER_START and, 1 s after a start that failed, CONVERTER_RETRY complete whenever a
start is allowed: rails in regulation raise PWR_GOOD with the module held in reset, PCIE_PERST_N low and SUPPLY_WARN
clear; a rail that fails leaves the converter stopped and another try due 1 s later. Outside those conditions neither
starts the converter, and nothing changes. A start of its own after a failed one is the model's reading (log entry 82).
Completes: CONVERTER_START, CONVERTER_RETRY. -/
def Obligations.ConverterStarts : Prop :=
  (∀ (x : Start) (s : State), s.supply.pwrGood = false → 3750 ≤ x.vin → x.vin < 6600 → x.gap ≤ 100 →
     (s.supply.ovLock = true → x.lowVin ≤ 6400) → (s.supply.hotStop = true → x.lowTemp ≤ 1600) →
     let up : State := { s with
       supply := { converter := true, ovLock := false, retry := none, hotStop := false, pwrGood := true, goodTick := s.tick
                   aux := true, squelched := false }
       pins := { s.pins with held := true, gpio := [], perstLow := true }
       watch := { s.watch with supplyWarn := false } }
     let down : State := { s with supply := { s.supply with converter := false, aux := false, retry := some s.tick } }
     Gives (if x.railsOk then up else down) (exec (.converterStart x) s) ∧
     (∀ k, s.supply.retry = some k → k + 625000000 ≤ s.tick →
       Gives (if x.railsOk then up else down) (exec (.converterRetry x) s))) ∧
  (∀ (x : Start) (s : State),
     (s.supply.pwrGood = true ∨ x.vin < 3750 ∨ 6600 ≤ x.vin ∨ 100 < x.gap ∨ (s.supply.ovLock = true ∧ 6400 < x.lowVin) ∨
       (s.supply.hotStop = true ∧ 1600 < x.lowTemp)) →
     Gives s (exec (.converterStart x) s) ∧ Gives s (exec (.converterRetry x) s)) ∧
  (∀ (x : Start) (s : State), (s.supply.retry = none ∨ ∃ k, s.supply.retry = some k ∧ s.tick < k + 625000000) →
     Gives s (exec (.converterRetry x) s))

/-- R30, R36, R54, R480: the rows that end in a supply reset complete: from PWR_GOOD high, an input at the row's
threshold puts the module in OFF with PWR_GOOD low, the transmitters squelched, no context, flow, pending command
or ring left, the dip log one record longer (64 at most) and the counters 0; the converter goes on at 33.0 V, stops
at 30.0 V and at 66.0 V, where the lockout trips whether or not the converter runs; Keep's keys, policy, startup store
and trip log stay. Completes: SUPPLY_RESET, CONVERTER_STOP, OVER_VOLTAGE_LOCKOUT. -/
def Obligations.SupplyResets : Prop :=
  (∀ (vin : Nat) (s : State), s.supply.pwrGood = true →
    let off (t : State) : Prop :=
      t.dev.state = .off ∧ t.supply.pwrGood = false ∧ t.supply.squelched = true ∧ t.ctxs = [] ∧ t.groups = [] ∧
      t.flows.ingress = [] ∧ t.flows.egress = [] ∧ t.cmd.pend = [] ∧ t.cmd.rings = [] ∧ t.counters = [] ∧
      t.keep.dips.length = min 64 (s.keep.dips.length + 1) ∧
      t.keep.general = s.keep.general ∧ t.keep.lantern = s.keep.lantern ∧ t.keep.firmware = s.keep.firmware ∧
      t.keep.store = s.keep.store ∧ t.keep.trips = s.keep.trips ∧ t.keep.authPcie = s.keep.authPcie ∧
      t.mem.dram = [] ∧ t.pending = s.pending
    (vin ≤ 3300 → ∃ t, exec (.supplyReset vin) s = .next t ∧ off t ∧ t.supply.converter = s.supply.converter) ∧
    (vin ≤ 3000 → s.supply.converter = true →
      ∃ t, exec (.converterStop vin) s = .next t ∧ off t ∧ t.supply.converter = false ∧ t.supply.aux = false) ∧
    (6600 ≤ vin → ∃ t, exec (.overVoltageLockout vin) s = .next t ∧ off t ∧ t.supply.converter = false ∧
      t.supply.ovLock = true)) ∧
  (∀ (vin : Nat) (s : State), s.supply.pwrGood = false →
    (s.supply.converter = true → vin ≤ 3000 →
      Gives { s with supply := { s.supply with converter := false, aux := false } } (exec (.converterStop vin) s)) ∧
    (6600 ≤ vin → Gives { s with supply := { s.supply with converter := false, aux := false, ovLock := true } }
      (exec (.overVoltageLockout vin) s)))

/-- R44, R119: RESET_N holds the module in reset with LAST_RESET external, every reset of narrower effect merged into it;
its release leaves OFF for BOOT by row 1 of R107. PCIE_PERST_N's release is recorded, and one of a pin that stands high
is deemed 100 ms after PWR_GOOD rose (R42). R119, R120: a PCIe reset clears the rings, the PCIe event queue and its
subscriber, locks debug access and disables MSI-X, and keeps contexts, flows, pending commands, the clock, memory and
counters. Completes: EXTERNAL_RESET, RESET_N_RELEASE, PCIE_PERST_N_RELEASE, PCIE_PERST_N_DEEMED_RELEASE, PCIE_RESET. -/
def Obligations.ResetPins : Prop :=
  (∀ s : State, s.supply.pwrGood = true →
     (s.pins.held = false → (s.dev.inProgress = none ∨ s.dev.inProgress = some .pcie ∨ s.dev.inProgress = some .warm) →
       ∃ t, exec .externalReset s = .next t ∧ t.pins.held = true ∧ t.dev.lastReset = 1 ∧
         (s.dev.inProgress = none ∨ s.dev.state = .boot → t.dev.state = .boot) ∧
         t.dev.inProgress = some .external ∧ t.ctxs = [] ∧ t.cmd.pend = [] ∧ t.flows.egress = [] ∧ t.dev.debug = false ∧
         t.keep = s.keep) ∧
     (s.pins.held = false → (s.dev.inProgress = some .external ∨ s.dev.inProgress = some .supply) →
       Gives { s with pins := { s.pins with held := true } } (exec .externalReset s)) ∧
     (s.pins.held = true → ∃ t, exec .resetNRelease s = .next t ∧
       Leaves { s with pins := { s.pins with held := false } } t ∧ (s.dev.state = .off → t.dev.state = .boot)) ∧
     Gives { s with pins := { s.pins with perstLow := false } } (exec .pciePerstNRelease s) ∧
     (s.pins.perstLow = true → s.supply.goodTick + 62500000 ≤ s.tick →
       Gives { s with pins := { s.pins with perstLow := false } } (exec .pciePerstNDeemedRelease s)) ∧
     (s.tick < s.supply.goodTick + 62500000 → Gives s (exec .pciePerstNDeemedRelease s))) ∧
  (∀ (cause : PcieCause) (s : State), s.supply.pwrGood = true →
     ∃ t, exec (.pcieReset cause) s = .next t ∧
       t.pins.pcieReady = false ∧ (cause = .perst → t.pins.perstLow = true) ∧ t.dev.debug = false ∧ t.msix = false ∧
       t.cmd.evq.enable = false ∧
       (∀ r, (tget {} t.cmd.rings r).enable = false) ∧
       (∀ i u, tget none t.cmd.subs i = some u → fnat u.f 1 ≠ 1) ∧
       t.ctxs = s.ctxs ∧ t.cmd.pend = s.cmd.pend ∧ t.cmd.allow = s.cmd.allow ∧ t.bel = s.bel ∧ t.mem = s.mem ∧
       t.camp = s.camp ∧ t.cup = s.cup ∧ t.flows.ingress = s.flows.ingress ∧ t.flows.egress = s.flows.egress ∧
       t.keep = s.keep ∧ t.watch = s.watch)

/-- R45, R147: a PPS_IN edge within 500 ms of the accepted one before it is counted in PPSIN_IGN and otherwise ignored;
any other is stamped with its phase from the last whole second and marks the input present, until 1.5 s without one. A
FRAME_REF_IN edge is stamped with its phase against timebase 0 (R45). R46: PPS_OUT rises, with valid time, when the
clock has just counted, and was not stepped, to a whole second later than the last that gave a pulse, and falls 100 ms
later. R47, R141: FREQ10M_IN is present with 0.4 V and 5 ppm. In holdover, when it is selected and agreed with the
steered frequency during lock, the clock follows it; else the increment stays. R48, R397, R399: PATH_FORCE_IN asserted
selects Turret B with cause 3 at once, outside BOOT; its level is stored in every state, and nothing else but the
interlock follows it. R104: a GPIO pulse ends when its width, rounded up to whole 1.6 ns ticks, has passed since the
last firing. Completes: PPS_IN_EDGE, PPS_IN_PRESENT_EXPIRY, FRAME_REF_IN_EDGE, PPS_OUT_RISE, PPS_OUT_FALL,
FREQ10M_PRESENCE_CHANGE, PATH_FORCE_ASSERT, PATH_FORCE_DEASSERT, GPIO_PULSE_END. -/
def Obligations.TimingPins : Prop :=
  (∀ s : State, s.supply.pwrGood = true → s.pins.held = false → s.dev.state ≠ .off →
     (∀ k, s.pins.ppsIn = some k → s.tick < k + 312500000 →
       Gives (bump 0x20208 1 s) (exec .ppsInEdge s)) ∧
     ((∀ k, s.pins.ppsIn = some k → k + 312500000 ≤ s.tick) →
       Gives { s with pins := { s.pins with ppsIn := some s.tick, ppsPresent := true }
                      bel := { s.bel with ppsPhase := s.bel.clock.ns.toNat } } (exec .ppsInEdge s)) ∧
     (∀ k, s.pins.ppsIn = some k → k + 937500000 ≤ s.tick →
       Gives { s with pins := { s.pins with ppsPresent := false } } (exec .ppsInPresentExpiry s)) ∧
     (∀ t, tbOf s 0 = some t → Gives { s with bel := { s.bel with frefPhase := frameRefPhase s } } (exec .frameRefInEdge s))) ∧
  (∀ s : State,
     (s.supply.pwrGood = true → s.pins.held = false → s.dev.state ≠ .off → validTime s = true → s.bel.stepped = false →
       s.bel.clock.ns.toNat * 4294967296 + s.bel.clock.frac.toNat < s.bel.incr.toNat →
       (∀ n, s.pins.ppsLast = some n → n < s.bel.clock.sec.toNat) →
       Sends (.pps true) s { s with pins := { s.pins with ppsHigh := some s.tick, ppsLast := some s.bel.clock.sec.toNat } }
         (exec .ppsOutRise s)) ∧
     (s.bel.stepped = true → Gives s (exec .ppsOutRise s)) ∧
     (∀ k, s.pins.ppsHigh = some k → k + 62500000 ≤ s.tick →
       Sends (.pps false) s { s with pins := { s.pins with ppsHigh := none } } (exec .ppsOutFall s))) ∧
  (∀ (mv : Nat) (ppb : Int) (s : State), s.supply.pwrGood = true → s.pins.held = false → s.dev.state ≠ .off →
     let here : Bool := decide (400 ≤ mv ∧ ppb.natAbs ≤ 5000)
     let pins : Pins := { s.pins with freq10m := here, freqPpb := ppb }
     let p := s.bel.ptp
     let follows : Prop := (p.servo = .holdover ∨ p.servo = .requalify) ∧ here = true ∧ fld p.f 9 = 1 ∧ freqAgreed p = true
     (follows → Gives { s with pins := pins, bel := { s.bel with incr := freqIncr ppb, ptp := { p with freqUsed := true } } }
       (exec (.freq10mPresenceChange mv ppb) s)) ∧
     (¬ follows → Gives { s with pins := pins, bel := { s.bel with ptp := { p with freqUsed := false } } }
       (exec (.freq10mPresenceChange mv ppb) s))) ∧
  (∀ s : State, s.supply.pwrGood = true →
     Gives { s with pins := { s.pins with pathForce := true } } (exec .pathForceAssert s) ∧
     Gives { s with pins := { s.pins with pathForce := false } } (exec .pathForceDeassert s) ∧
     (s.dev.state ≠ .boot → s.dev.state ≠ .off →
       ∃ t, exec .pathForceAssert s = .next t ∧ t.flows.selB = true)) ∧
  (∀ (g k : Nat) (s : State), (tget {} s.pins.gpio g).pulse = some k →
     8 * (s.tick - k) ≥ 5 * fnat (tget {} s.pins.gpio g).f 3 → k ≤ s.tick →
     Gives { s with pins := { s.pins with gpio := tmod {} s.pins.gpio g fun x => { x with pulse := none } } }
       (exec (.gpioPulseEnd g) s))

/-! ## Watchtower (spec/16) -/

/-- R467, R468, R473: a sample of a sensor of the 32 is taken from PWR_GOOD on: it becomes the sensor's reading, the
newest of its last 2,750 samples and, when healthy and in range, its last healthy reading; only that sensor and the
level flags of WT_IRQ change. R468, R486: the first fault of R468's table that a healthy sensor meets (3 samples out
of range, 50,000 equal samples, a bad self-check) faults it with that kind, and SENSOR_FAULT tells its kind, override
and last healthy reading. R468: a self-check off by more than 3 degrees C faults a healthy sensor with kind 3; one
within it counts a pass; the tenth pass in a row, with no range or stuck fault standing, returns a faulted sensor to
service. Completes: SENSOR_SAMPLE, SENSOR_FAULT, SENSOR_SELF_CHECK. -/
def Obligations.Sensors : Prop :=
  (∀ (n raw : Nat) (t : Int) (s : State), s.supply.pwrGood = true → n < 32 →
     ∃ u, exec (.sensorSample n raw t) s = .next u ∧
       Leaves { s with watch := { s.watch with sensors := u.watch.sensors }, irq := u.irq } u ∧
       (∀ m, m ≠ n → tabWf {} none s.watch.sensors = true → tget {} u.watch.sensors m = tget {} s.watch.sensors m) ∧
       (tabWf {} none s.watch.sensors = true →
         (tget {} u.watch.sensors n).temp = t ∧
         (tget {} u.watch.sensors n).hist = (t :: (tget {} s.watch.sensors n).hist).take 2750 ∧
         ((tget {} s.watch.sensors n).fault = 0 → -960 ≤ t → t ≤ 2400 → (tget {} u.watch.sensors n).healthy = t) ∧
         ((t < -960 ∨ 2400 < t) → (tget {} u.watch.sensors n).range = (tget {} s.watch.sensors n).range + 1))) ∧
  (∀ (n : Nat) (s : State), s.supply.pwrGood = true → n < 32 → tabWf {} none s.watch.sensors = true →
     (tget {} s.watch.sensors n).fault = 0 →
     let x := tget {} s.watch.sensors n
     let kind : Nat := if 3 ≤ x.range then 1 else if 50000 ≤ x.same then 2 else 3
     (3 ≤ x.range ∨ 50000 ≤ x.same ∨ x.selfBad = true) →
     ∃ u, Tells 0x09E1 0xFFFF n ([BitVec.ofNat 8 kind, BitVec.ofNat 8 (b2n x.override)] ++
         leBytes 2 (BitVec.ofInt 16 x.healthy).toNat ++ leBytes 4 0) s u (exec (.sensorFault n) s) ∧
       u.watch.sensors = tset {} s.watch.sensors n { x with fault := kind, passes := 0, hot := 0 } ∧
       Leaves { s with watch := { s.watch with sensors := u.watch.sensors }, irq := u.irq } u) ∧
  (∀ (n : Nat) (e : Int) (s : State), s.supply.pwrGood = true → n < 32 → tabWf {} none s.watch.sensors = true →
     let x := tget {} s.watch.sensors n
     let put (y : Sensor) : State := { s with watch := { s.watch with sensors := tset {} s.watch.sensors n y } }
     (x.fault = 0 → -48 ≤ e → e ≤ 48 →
       Gives (put { x with selfBad := false, passes := x.passes + 1 }) (exec (.sensorSelfCheck n e) s)) ∧
     (x.fault = 0 → (e < -48 ∨ 48 < e) → ∃ u, exec (.sensorSelfCheck n e) s = .next u ∧
       (tget {} u.watch.sensors n).fault = 3) ∧
     (x.fault ≠ 0 → -48 ≤ e → e ≤ 48 → x.range < 3 → x.same < 50000 → x.passes = 9 →
       ∃ u, exec (.sensorSelfCheck n e) s = .next u ∧ (tget {} u.watch.sensors n).fault = 0) ∧
     (x.fault ≠ 0 → -48 ≤ e → e ≤ 48 → x.range < 3 → x.same < 50000 → x.passes < 9 →
       Gives (put { x with passes := x.passes + 1, selfBad := false }) (exec (.sensorSelfCheck n e) s)))

/-- R473: a control tick moves each thermal request of a powered Spire and the power request by at most one step, never
above 6, and changes nothing but the requests, the estimate, the dip record's step, the flag and counters of
Watchtower and, when a Spire's clock changed, the ladder of the bound frames. R475, R110: more than 16 faulted
sensors, or three samples in a row of a healthy one at 115.0 degrees C, trip the module: the trip is logged, SAFE is
entered, contexts close and every engine and transmitter stops. Completes: THROTTLE_TICK, HARD_TRIP. -/
def Obligations.ThermalControl : Prop :=
  (∀ s : State, tabWf 0 none s.watch.therm = true → (∀ i, tget 0 s.watch.therm i ≤ 6) → s.watch.power ≤ 6 →
     ∃ u, exec .throttleTick s = .next u ∧
       (∀ i, tget 0 u.watch.therm i ≤ 6 ∧ tget 0 u.watch.therm i ≤ tget 0 s.watch.therm i + 1 ∧
         tget 0 s.watch.therm i ≤ tget 0 u.watch.therm i + 1) ∧
       u.watch.power ≤ 6 ∧ u.watch.power ≤ s.watch.power + 1 ∧ s.watch.power ≤ u.watch.power + 1 ∧
       u.watch.profile = s.watch.profile ∧ u.watch.cap = s.watch.cap ∧ u.watch.dipCap = s.watch.dipCap ∧
       u.watch.sensors = s.watch.sensors ∧ u.ctxs = s.ctxs ∧ u.keep = s.keep ∧ u.mem = s.mem ∧ u.lanes = s.lanes ∧
       u.flows.ingress = s.flows.ingress ∧ u.flows.egress = s.flows.egress ∧ u.cmd.pend = s.cmd.pend) ∧
  (∀ s : State, s.supply.pwrGood = true → s.pins.held = false → s.dev.state ≠ .off → s.dev.state ≠ .safe →
     (16 < faultedCount s ∨ ∃ n, n < 32 ∧ (sensorOf s n).fault = 0 ∧ 3 ≤ (sensorOf s n).hot) →
     ∃ u, exec .hardTrip s = .next u ∧ u.dev.state = .safe ∧ (tripHot s = true → u.dev.tripped = true) ∧
       u.keep.trips.length = s.keep.trips.length + 1 ∧ u.ctxs = [] ∧ u.camp = {} ∧ u.cup = {} ∧ u.lanes.ports = [] ∧
       u.flows.ingress = [] ∧ u.flows.egress = [] ∧ u.mem = s.mem ∧ u.watch = s.watch)

/-- R477, R478, R480: a telemetry frame below the converter's stop temperature is measured: the module holds its voltage,
current, power and temperature and the tick of the frame; at or below 37.0 V SUPPLY_WARN is raised and a dip record
stands open. R477, R478, R479, R485: telemetry is lost after 100 us without a frame and raises SUPPLY_WARN; it
recovers, and the warning clears, only with frames for 10 ms each at or above 38.5 V; clearing closes the dip record
as recovered, with outcome 0x04 when telemetry was lost while it was open. Completes: TELEMETRY_FRAME, TELEMETRY_LOST,
TELEMETRY_RECOVERED, SUPPLY_WARN_CLEAR. -/
def Obligations.Telemetry : Prop :=
  (∀ (f : TelFrame) (s : State), s.supply.pwrGood = true →
     (f.temp < 2000 → ∃ u, exec (.telemetryFrame f) s = .next u ∧
       u.watch.vin = f.vin ∧ u.watch.iin = f.iin ∧ u.watch.pin = f.vin * f.iin / 1000 ∧ u.watch.convTemp = f.temp ∧
       u.watch.lastFrame = s.tick ∧ u.watch.convHot = decide (1680 ≤ f.temp) ∧
       (f.vin ≤ 3700 → u.watch.supplyWarn = true) ∧ (3700 < f.vin → u.watch.supplyWarn = s.watch.supplyWarn) ∧
       (f.vin ≤ 3700 → s.watch.supplyWarn = false → u.watch.dip.isSome = true) ∧
       (f.vin < 3850 → u.watch.lowTick = s.tick) ∧
       u.watch.sensors = s.watch.sensors ∧ u.watch.profile = s.watch.profile ∧ u.watch.cap = s.watch.cap ∧
       u.keep = s.keep ∧ u.ctxs = s.ctxs ∧ u.mem = s.mem ∧ u.flows.egress = s.flows.egress) ∧
     (2000 ≤ f.temp → ∃ u, exec (.telemetryFrame f) s = .next u ∧ u.dev.state = .off ∧ u.supply.pwrGood = false ∧
       u.supply.hotStop = true ∧ u.ctxs = [] ∧ u.keep.dips.length = min 64 (s.keep.dips.length + 1))) ∧
  (∀ s : State,
     (s.supply.pwrGood = true → s.watch.telLost = false → s.watch.lastFrame + 62500 ≤ s.tick →
       ∃ u, exec .telemetryLost s = .next u ∧ u.watch.telLost = true ∧ u.watch.supplyWarn = true ∧
         u.keep = s.keep ∧ u.ctxs = s.ctxs ∧ u.mem = s.mem) ∧
     (s.watch.telLost = true → s.watch.lowTick + 6250000 ≤ s.watch.lastFrame →
       Gives { s with watch := { s.watch with telLost := false } } (exec .telemetryRecovered s)) ∧
     (∀ d, s.watch.supplyWarn = true → s.watch.telLost = false → s.watch.lowTick + 6250000 ≤ s.watch.lastFrame →
       s.watch.dip = some d →
       ∃ u, exec .supplyWarnClear s = .next u ∧ u.watch.supplyWarn = false ∧ u.watch.dip = none ∧
         u.keep.dips = ({ d with outcome := if d.lost then 4 else 1, micros := (s.tick - d.tick) / 625 } ::
           s.keep.dips).take 64 ∧ u.ctxs = s.ctxs ∧ u.mem = s.mem) ∧
     (s.watch.lastFrame < s.watch.lowTick + 6250000 →
       Gives s (exec .telemetryRecovered s) ∧ Gives s (exec .supplyWarnClear s)))

/-- R482, R483, R481: the Watchtower commands that act at once. Warn and act levels lie in 90 to 110 and 95 to 110 degrees
C with act not below warn; the power cap in 100 W to the maximum of the profile in effect and the dip cap in 100 W to
the power cap; an override changes its sensor alone; the two reads change nothing and return 43 words and up to 16
records of 8 words. R19 to R21, R474, R483: a profile is in effect from its change boundary, or at once with no
timebase configured: removed Spires that are free power down, the caps lie at or below the new maximum, and other
pending commands stay. Completes: THERMAL_LEVELS, POWER_CAPS, SENSOR_OVERRIDE, READ_TELEMETRY, READ_DIP_LOG,
OPERATING_PROFILE. -/
def Obligations.WatchtowerCommands : Prop :=
  (∀ (c : Cmd) (f : Fields) (cl : List Clamp) (s : State),
     (AcceptedNow opThermalLevels c f cl s → 90 ≤ fld f 1 ∧ fld f 1 ≤ 110 ∧ 95 ≤ fld f 2 ∧ fld f 2 ≤ 110 ∧ fld f 1 ≤ fld f 2 ∧
       Completes opThermalLevels c cl [] s { s with watch := { s.watch with warn := fnat f 1, act := fnat f 2 } }
         (exec (.thermalLevels c) s)) ∧
     (AcceptedNow opPowerCaps c f cl s → 100 ≤ fld f 1 ∧ (s.cmd.pend = [] → fld f 1 ≤ profileMax s s.watch.profile) ∧ 100 ≤ fld f 2 ∧ fld f 2 ≤ fld f 1 ∧
       Completes opPowerCaps c cl [] s { s with watch := { s.watch with cap := fnat f 1, dipCap := fnat f 2 } }
         (exec (.powerCaps c) s)) ∧
     (AcceptedNow opSensorOverride c f cl s → 0 ≤ fld f 1 ∧ fld f 1 ≤ 31 ∧
       ∃ u, Completes opSensorOverride c cl [] s u (exec (.sensorOverride c) s) ∧
         u.watch = { s.watch with sensors := tmod {} s.watch.sensors (fnat f 1) fun x => { x with override := decide (fld f 2 = 1) } } ∧
         u = { s with watch := u.watch, irq := u.irq }) ∧
     (AcceptedNow opReadTelemetry c f cl s → ∃ w, w.length = 43 ∧
       w[35]? = some (natWord (BitVec.ofInt 16 s.watch.convTemp).toNat) ∧ w[38]? = some (wtStat s) ∧
       w[39]? = some (natWord s.watch.warn) ∧ w[40]? = some (natWord s.watch.act) ∧
       Completes opReadTelemetry c cl w s s (exec (.readTelemetry c) s)) ∧
     (AcceptedNow opReadDipLog c f cl s → ∃ w, w.length = 8 * ((s.keep.dips.drop (fnat f 1)).take 16).length ∧
       Completes opReadDipLog c cl w s s (exec (.readDipLog c) s))) ∧
  Framed opOperatingProfile .operatingProfile (fun c f s => (opOperatingProfile.apply c f s).s) ∧
  (∀ c f cl s, AcceptedNow opOperatingProfile c f cl s → fld f 1 = 0 ∨ fld f 1 = 1 ∨ fld f 1 = 2) ∧
  (∀ c f cl tb n s, AcceptedAt opOperatingProfile c f cl tb n s → fld f 1 = 0 ∨ fld f 1 = 1 ∨ fld f 1 = 2) ∧
  (∀ (c : Cmd) (f : Fields) (s : State), tabWf {} none s.camp.spires = true →
     let u := (opOperatingProfile.apply c f s).s
     u.watch.profile = fnat f 1 ∧ u.watch.cap ≤ profileMax s (fnat f 1) ∧ u.watch.dipCap ≤ profileMax s (fnat f 1) ∧
       u.cmd.pend = s.cmd.pend ∧ u.keep = s.keep ∧
       (∀ i, profileSpires s (fnat f 1) ≤ i → (tget {} s.camp.spires i).bound = none → spirePowered u i = false))

/-! ## Bring-up and resets (spec/04) -/

/-- R107, R114, R115, R127: the first image that passes the checks of R114 starts: a slot image enters TRAIN with the
Spires of the profile powered, the recovery image SAFE; with none that passes, nothing happens. The boot choice tries
the slot on trial or the active one, then the other, then the recovery image. R107 rows 4 and 5, R116, R117, R122:
training that has committed leads TRAIN to STANDBY, and the startup store's packets wait in ring 0; after a third
watchdog reset it leads to SAFE and the startup store does not run; a training timeout marks the failed channels
degraded and leads to SAFE. R118: with valid time the startup store goes on from the packet it paused at. Completes:
BOOT_IMAGE_START, DRAM_TRAINING_COMMIT, DRAM_TRAINING_TIMEOUT, STARTUP_STORE_RESUME. -/
def Obligations.BringUp : Prop :=
  (∀ s : State, s.dev.state = .boot → s.pins.held = false →
     (∀ i trial rev, bootChoice s = some (i, trial, rev) →
       ∃ t, exec .bootImageStart s = .next t ∧ t.dev.state = (if i = 2 then .safe else .train) ∧ t.dev.image = i ∧
         t.dev.trial = trial ∧ t.dev.trialReverted = rev ∧ t.dev.inProgress = none ∧ t.dev.owed = [] ∧
         t.keep.owedInternal = [] ∧ t.keep.owedSupply = [] ∧ t.keep.minSecver = s.keep.minSecver ∧
         (i ≠ 2 → ∀ k, k < profileSpires s s.watch.profile → spirePowered t k = true)) ∧
     (bootChoice s = none → Gives s (exec .bootImageStart s)) ∧
     (s.keep.trialSlot = none → imagePasses s.keep false (slotImage s.keep s.keep.active) = true →
       bootChoice s = some (s.keep.active, false, false)) ∧
     (s.keep.trialSlot = none → imagePasses s.keep false (slotImage s.keep s.keep.active) = false →
       imagePasses s.keep false (slotImage s.keep (1 - s.keep.active)) = false → imagePasses s.keep true s.keep.recovery = true →
       bootChoice s = some (2, false, false))) ∧
  (∀ (failed sub : Nat) (margin : Int) (s : State), s.dev.state = .train →
     (s.dev.safeBoot = false → s.ctxs = [] →
       ∃ t, exec (.dramTrainingCommit failed sub margin) s = .next t ∧ t.dev.state = .standby ∧ t.cmd.log = [] ∧
         t.cmd.paused = none ∧ t.keep = s.keep ∧ t.bel.clock = s.bel.clock ∧
         ∀ i, i < s.keep.store.length → QItem.stored i (s.keep.store.getD i []) ∈ (ringOf t 0).queue) ∧
     (s.dev.safeBoot = true →
       ∃ t, exec (.dramTrainingCommit failed sub margin) s = .next t ∧ t.dev.state = .safe ∧ t.cmd.log = s.cmd.log ∧ t.keep = s.keep) ∧
     (∃ t, exec (.dramTrainingTimeout failed sub) s = .next t ∧ t.dev.state = .safe ∧ t.keep = s.keep ∧
       ∀ ch, ch < 8 → (bit failed ch = true ∨ ch ∈ s.mem.degraded) → ch ∈ t.mem.degraded)) ∧
  (∀ (i : Nat) (s : State), s.cmd.paused = some i → validTime s = true →
     ∃ t, exec .startupStoreResume s = .next t ∧ t.cmd.paused = none ∧ t.cmd.log = s.cmd.log ∧ t.keep = s.keep ∧
       ∀ j, i ≤ j → j < s.keep.store.length → QItem.stored j (s.keep.store.getD j []) ∈ (ringOf t 0).queue)

/-- R119, R120, R122: WARM_RESET performs the reset that is due: BOOT with LAST_RESET as owed, contexts, flows, pending
commands, rings, subscribers and counters cleared, the local clock counting on and Keep's keys and store kept; a
watchdog reset is counted, and the third within 600 s of the first marks the boot for SAFE. A watchdog expiry makes a
reset due with LAST_RESET watchdog unless one is due already. R100, R111, R126, R127: 0x0110 and 0x0F03 make a warm
reset due and change nothing else but, for 0x0F03, the slot on trial; the reply goes first. 0x0110 is not accepted
while a trip holds, 0x0F03 only with the inactive slot verified. R110, R112: 0x0111 is answered and the module enters
SAFE: contexts close, engines and transmitters stop, the local clock and Keep stay as they are. Completes: WARM_RESET,
WATCHDOG_EXPIRY, WARM_RESET_COMMAND, ACTIVATE_INACTIVE_SLOT, ENTER_SAFE. -/
def Obligations.ModuleResets : Prop :=
  (∀ s : State, s.supply.pwrGood = true →
     (∀ last, s.dev.warmDue = some last → s.dev.inProgress = none →
       ∃ t, exec .warmReset s = .next t ∧ t.dev.state = .boot ∧ t.dev.lastReset = last ∧ t.dev.warmDue = none ∧
         t.dev.inProgress = some .warm ∧ t.ctxs = [] ∧ t.cmd.pend = [] ∧ t.cmd.rings = [] ∧ t.cmd.allow = [] ∧ t.counters = [] ∧
         t.mem.dram = [] ∧ t.dev.debug = false ∧ t.bel.clock = s.bel.clock ∧ t.keep = s.keep ∧
         t.mem.degraded = s.mem.degraded ∧
         (last = 3 → t.dev.safeBoot = thirdWatchdog s ∧ t.dev.wdRecent = (s.tick :: s.dev.wdRecent).take 2) ∧
         (last ≠ 3 → t.dev.safeBoot = false ∧ t.dev.wdRecent = s.dev.wdRecent)) ∧
     (∀ core, s.pins.held = false → s.dev.state ≠ .off → s.dev.state ≠ .boot →
       Gives { s with
         keep := { s.keep with owedInternal := s.keep.owedInternal ++ [(2, core)] }
         dev := { s.dev with warmDue := some (s.dev.warmDue.getD 3) } }
         (exec (.watchdogExpiry core) s)) ∧
     (∀ a b, s.dev.wdRecent = [a, b] → (thirdWatchdog s = true ↔ s.tick ≤ b + 375000000000))) ∧
  (∀ (c : Cmd) (f : Fields) (cl : List Clamp) (s : State),
     (AcceptedNow opWarmResetCommand c f cl s → (s.cmd.pend = [] → s.dev.tripped = false) ∧
       Completes opWarmResetCommand c cl [] s { s with dev := { s.dev with warmDue := some 2 } } (exec (.warmResetCommand c) s)) ∧
     (AcceptedNow opActivateInactiveSlot c f cl s →
       (s.cmd.pend = [] → (slotOf s.keep (inactiveSlot s)).verified = true ∧ s.dev.trial = false ∧ s.dev.tripped = false) ∧
       Completes opActivateInactiveSlot c cl [] s
         { s with keep := { s.keep with trialSlot := some (inactiveSlot s) }, dev := { s.dev with warmDue := some 4 } }
         (exec (.activateInactiveSlot c) s))) ∧
  (∀ (c : Cmd) (f : Fields) (cl : List Clamp) (s : State), AcceptedNow opEnterSafe c f cl s → s.dev.state ≠ .safe →
     ∃ t, exec (.enterSafe c) s = .next t ∧ Sent (replyOut c (okReply opEnterSafe c cl [])) s t ∧ t.dev.state = .safe ∧
       t.ctxs = [] ∧ t.camp = {} ∧ t.cup = {} ∧ t.lanes.ports = [] ∧ t.flows.ingress = [] ∧ t.flows.egress = [] ∧
       t.bel.clock = s.bel.clock ∧ t.keep = s.keep ∧ t.mem = s.mem ∧ t.watch = s.watch)

/-- R116, R369: the endpoint answers once released from reset in a state that has booted, and the management link is up at
1,000 Mb/s alone. R498: MSI-X enabled again: the mask is as given, every vector whose line is set and every pending
vector no longer masked sends its message. Completes: PCIE_ENDPOINT_READY, MANAGEMENT_LINK_STATE_CHANGE,
MSIX_REENABLE. -/
def Obligations.HostLinks : Prop :=
  (∀ s : State, s.supply.pwrGood = true → s.pins.held = false → s.dev.state ≠ .off → s.dev.state ≠ .boot →
     (s.pins.perstLow = false → ∃ t, exec .pcieEndpointReady s = .next t ∧ t.pins.pcieReady = true ∧ t.ctxs = s.ctxs ∧
       t.keep = s.keep ∧ t.cmd.pend = s.cmd.pend) ∧
     (∀ up rate, Gives { s with dev := { s.dev with mgmtUp := up && decide (rate = 1000) } }
       (exec (.managementLinkStateChange up rate) s))) ∧
  (∀ s : State, s.pins.perstLow = true → Gives s (exec .pcieEndpointReady s)) ∧
  (∀ (vs : List Nat) (s : State), s.pins.pcieReady = true →
     ∃ t, exec (.msixReenable vs) s = .next t ∧ t.msix = true ∧ t.msixMasked = vs ∧
       Leaves { s with msix := true, msixMasked := vs } t ∧
       (∀ b, b < 15 → lineOf s b = true → 9 + b ∉ vs → ∃ a e, t.out = a ++ .msix (9 + b) :: e ++ s.out) ∧
       (∀ v, v ∈ s.msixPending → v ∉ vs → ∃ a e, t.out = a ++ .msix v :: e ++ s.out))

/-! ## Commands: rings, datagrams, queues (spec/03, R494, R495) -/

/-- R80, R112: a doorbell at most a ring's length ahead advances the producer and puts that many descriptors in the ring's
queue; one further ahead or behind sets RING_ERR and is otherwise ignored; in BOOT it is held. R494, R495: enabling a
ring or the event queue whose addresses and size are in range resets its indices, and the ring's phase bit to 1; a bad
one leaves ENABLE 0 and sets RING_ERR; disabling stops the fetch of descriptors; a write of the head stores it. R79 to
R81: the slot of an index is the index modulo the ring's size, of 32 bytes for a descriptor and 16 for a record.
Completes: CMD_RING_DOORBELL, CMD_RING_ENABLE, CMD_RING_DISABLE, EVENT_QUEUE_ENABLE, EVENT_QUEUE_DISABLE,
EVENT_QUEUE_HEAD_WRITE. -/
def Obligations.Rings : Prop :=
  (∀ (r : Nat) (v : Word) (s : State), r < 8 →
     let g := ringOf s r
     let p : BitVec 16 := v.setWidth 16
     (s.dev.state = .boot → Gives (modRing r (fun g => { g with heldBells := g.heldBells ++ [p] }) s) (exec (.cmdRingDoorbell r v) s)) ∧
     (s.dev.state ≠ .boot → s.pins.pcieReady = true → g.enable = true → (p - g.consumer).toNat ≤ 2 ^ g.sizeLog2 →
       (g.producer - g.consumer).toNat ≤ (p - g.consumer).toNat →
       let new := List.replicate ((p - g.consumer).toNat - (g.producer - g.consumer).toNat) QItem.desc
       Gives (modRing r (fun g => { g with producer := p, queue := g.queue ++ new }) s)
         (exec (.cmdRingDoorbell r v) s)) ∧
     (s.dev.state ≠ .boot → s.pins.pcieReady = true → g.enable = true →
       (2 ^ g.sizeLog2 < (p - g.consumer).toNat ∨ (p - g.consumer).toNat < (g.producer - g.consumer).toNat) →
       Gives (raise 1 r s) (exec (.cmdRingDoorbell r v) s))) ∧
  (∀ (r : Nat) (v : Word) (s : State), s.pins.pcieReady = true → r < 8 → tabWf {} none s.cmd.rings = true →
     let g := ringOf s r
     let n := v.toNat % 16
     let k := v.toNat % 32
     (bit v.toNat 31 = true → g.enable = false → 4 ≤ n → n ≤ 12 → g.baseLo.toNat % 4096 = 0 → g.cqLo.toNat % 4096 = 0 →
       ∃ t, exec (.cmdRingEnable r v) s = .next t ∧ (ringOf t r).enable = true ∧ (ringOf t r).sizeLog2 = n ∧
         (ringOf t r).producer = 0 ∧ (ringOf t r).consumer = 0 ∧ (ringOf t r).phase = true ∧
         (ringOf t r).msix = bit v.toNat 30 ∧ ∀ q, q ≠ r → ringOf t q = ringOf s q) ∧
     (bit v.toNat 31 = true → g.enable = false →
       (n < 4 ∨ 12 < n ∨ g.baseLo.toNat % 4096 ≠ 0 ∨ g.cqLo.toNat % 4096 ≠ 0) →
       ∃ t, exec (.cmdRingEnable r v) s = .next t ∧ (ringOf t r).enable = false ∧ bit (tget 0 t.irq 1).toNat r = true) ∧
     (bit v.toNat 31 = false → ∃ t, exec (.cmdRingDisable r v) s = .next t ∧ (ringOf t r).enable = false ∧
       .desc ∉ (ringOf t r).queue ∧ ∀ q, q ≠ r → ringOf t q = ringOf s q) ∧
     (bit v.toNat 31 = true → s.cmd.evq.enable = false → 6 ≤ k → k ≤ 16 → s.cmd.evq.baseLo.toNat % 4096 = 0 →
       Gives { s with cmd := { s.cmd with evq := { s.cmd.evq with enable := true, sizeLog2 := k, head := 0, tail := 0 } } }
         (exec (.eventQueueEnable v) s)) ∧
     (bit v.toNat 31 = false → s.cmd.evq.enable = true →
       Gives { s with cmd := { s.cmd with evq := { s.cmd.evq with enable := false } } } (exec (.eventQueueDisable v) s)) ∧
     Gives { s with cmd := { s.cmd with evq := { s.cmd.evq with head := v.toNat % 65536 } } } (exec (.eventQueueHeadWrite v) s)) ∧
  (∀ (g : Ring) (i : BitVec 16),
     descAddr g i = g.baseHi.toNat * 2 ^ 32 + g.baseLo.toNat + 32 * (i.toNat % 2 ^ g.sizeLog2) ∧
     recordAddr g i = g.cqHi.toNat * 2 ^ 32 + g.cqLo.toNat + 16 * (i.toNat % 2 ^ g.sizeLog2) ∧
     (g.sizeLog2 ≤ 16 → descAddr g (i + BitVec.ofNat 16 (2 ^ g.sizeLog2)) = descAddr g i))

/-- R83, R84, R102, R376: a datagram on a port that is up meets the port's policer for commands, which counts and drops
one that it has no room for. One that is whole and passes stage 1 waits in its ring's queue with a kept record, the
in-band one only from an address of the allow-list and not while the recovery image runs (R115); a copy of a packet
with a kept reply is answered with that reply and not queued; one that fails stage 1 or meets a full queue is counted
and dropped; a first fragment opens one of 16 reassemblies, which its last fragment or its timeout ends. What becomes of
a copy whose first packet has no reply yet is the model's choice (log entry 80). Completes: COMMAND_UDP_PACKET,
REASSEMBLY_TIMEOUT. -/
def Obligations.Datagrams : Prop :=
  (∀ (d : Datagram) (p : Nat) (s : State), Running s → portTakes d = true → portUp s d.port = true →
     policerOf d.port .command = some p →
     let x := policerNow s p
     let need := countedLen s d.port d.len * byteUnits
     let u := setPolicer p { x with bucket := x.bucket - need } s
     let r := viaRing d.via
     let c := packetCmd d.via d.src (d.port / 8) 0 0 d.bytes
     let put (s : State) : State := modRing r (fun g => { g with queue := g.queue ++ [.udp d.via d.src (d.port / 8) d.bytes] })
       (keepRecord { src := d.src, tag := c.tag, crc := c.crc, tick := s.tick, reply := none } s)
     (x.bucket < need → Gives (raise 9 2 (bump (0x90100 + 4 * p) 1 (setPolicer p x s))) (exec (.commandUdpPacket d) s)) ∧
     (need ≤ x.bucket → d.via = .inband → (s.dev.image = 2 ∨ allowed s d.src = false) → Gives u (exec (.commandUdpPacket d) s)) ∧
     (need ≤ x.bucket → (d.via = .mgmt ∨ d.via = .inband ∧ s.dev.image ≠ 2 ∧ allowed s d.src = true) →
       (d.frag = none → stage1 d.bytes = true → keptOf s d.src c.tag c.crc = none → udpWaiting d.via (ringOf s r) < 64 →
         Gives (put u) (exec (.commandUdpPacket d) s)) ∧
       (∀ k y, d.frag = none → stage1 d.bytes = true → keptOf s d.src c.tag c.crc = some k → k.reply = some y →
         Sends (.reply d.via d.src 0 y (replyWire y false)) s u (exec (.commandUdpPacket d) s)) ∧
       (d.frag = none → stage1 d.bytes = false → Gives (bump 0x10418 1 u) (exec (.commandUdpPacket d) s)) ∧
       (d.frag = none → stage1 d.bytes = true → keptOf s d.src c.tag c.crc = none → 64 ≤ udpWaiting d.via (ringOf s r) →
         Gives (bump 0x10418 1 u) (exec (.commandUdpPacket d) s)) ∧
       (∀ i, d.frag = some i → d.whole = false → d.src.v6 = false → (d.src, i) ∉ s.cmd.reasm → s.cmd.reasm.length < 16 →
         Gives { u with cmd := { u.cmd with reasm := u.cmd.reasm ++ [(d.src, i)] } } (exec (.commandUdpPacket d) s)) ∧
       (∀ i, d.frag = some i → d.whole = true → (d.src, i) ∈ s.cmd.reasm → stage1 d.bytes = true →
         keptOf s d.src c.tag c.crc = none → udpWaiting d.via (ringOf s r) < 64 →
         Gives (put { u with cmd := { u.cmd with reasm := u.cmd.reasm.filter (· ≠ (d.src, i)) } }) (exec (.commandUdpPacket d) s)))) ∧
  (∀ (d : Datagram) (s : State), (portTakes d = false ∨ portUp s d.port = false) → Gives s (exec (.commandUdpPacket d) s)) ∧
  (∀ (e : Endpoint) (i : Nat) (s : State),
     Gives { s with cmd := { s.cmd with reasm := s.cmd.reasm.filter (· ≠ (e, i)) } } (exec (.reassemblyTimeout e i) s))

/-- R63, R79 to R81, R88, R117: the front item of the highest-numbered ring that waits and is not blocked is taken out and
executed: a datagram or a packet of the startup store as its packet; a descriptor, which the module reads at the
consumer's slot, as the packet fetched from host memory, completed without an effect when it fails stage 1. R89: a
background command that completes leaves the jobs, frees its ring, and its action, reply and completion record follow;
R62: a firmware fault that strikes it leaves INTERNAL as its answer and nothing of its action. Completes:
COMMAND_EXECUTE, BACKGROUND_COMMAND_COMPLETE. -/
def Obligations.CommandProcessor : Prop :=
  (∀ (s : State) (r : Nat) (fault : Option Nat), Running s → s.dev.warmDue = none → topRing s = some r →
     (∀ f rest via src path l, (ringOf s r).queue = .udp via src path l :: rest →
       exec (.commandExecute ⟨f, fault⟩) s =
         .next (settle s (runPacket (packetCmd via src path 0 0 l) fault l (popRing r s)))) ∧
     (∀ f rest i l, (ringOf s r).queue = .stored i l :: rest →
       exec (.commandExecute ⟨f, fault⟩) s = .next (settle s (runStored i l fault (popRing r s)))) ∧
     (∀ f rest, (ringOf s r).queue = .desc :: rest → s.pins.hostUp = true →
       ∃ t, exec (.commandExecute ⟨some f, fault⟩) s = .next t ∧ t = settle s (runDescriptor r f fault (popRing r s)) ∧
         (stage1 (f.bytes.take (descFields f.desc).2.1) = false →
           t.ctxs = s.ctxs ∧ t.keep = s.keep ∧ t.cmd.pend = s.cmd.pend ∧
           Sent (some (.hostRead (descAddr (ringOf s r) (ringOf s r).consumer) 32)) s t ∧
           (tabWf {} none s.cmd.rings = true → (ringOf t r).queue = rest ∧ (ringOf t r).consumer = (ringOf s r).consumer + 1))) ∧
     (∀ rest, (ringOf s r).queue = .desc :: rest → Gives s (exec (.commandExecute ⟨none, fault⟩) s))) ∧
  (∀ (job : Nat) (j : Job) (op : Op) (s : State), s.cmd.jobs.find? (·.id = job) = some j → opTable j.opcode = some op →
     let u := unblock j { s with cmd := { s.cmd with jobs := s.cmd.jobs.filter (·.id ≠ job) } }
     let x := act op j.cmd j.f j.clamps u
     let no (st : Status) : Reply := replyOf j.opcode j.cmd st [] none []
     (j.cmd.fault = none → exec (.backgroundCommandComplete job true) s =
       .next (settle s (op.after j.cmd j.f (answerJob (ringHolds j s) j.cmd x.2 x.1)))) ∧
     (j.cmd.fault = none → j.opcode = 0x0705 → exec (.backgroundCommandComplete job false) s =
       .next (settle s (answerJob (ringHolds j s) j.cmd (no .refused) u))) ∧
     (∀ core ok, j.cmd.fault = some core → exec (.backgroundCommandComplete job ok) s =
       .next (settle s (answerJob (ringHolds j s) j.cmd (no .internal)
         (internalEvent 1 core j.cmd.ctx j.opcode j.cmd.tag u)))) ∧
     (op.background = true → ∀ ok t, exec (.backgroundCommandComplete job ok) s = .next t → ∀ k ∈ t.cmd.jobs, k.id ≠ job))

/-- R77, R78: at its boundary the first accepted of the commands due takes effect if the checks of stages 8, 9 and 14
still pass, and leaves the pending table; else it is cancelled with cause 5, and with it what relied on it. R202: an
open command at whose boundary, or before it, a close of its context is due is cancelled with the cause of a closed
context, and the close of that boundary has taken effect. R220: a command that meets the close of its context still
applies where anything of the context is left. Completes: PENDING_COMMAND_EFFECT. -/
def Obligations.PendingTakesEffect : Prop :=
  ∀ (tb frame : Nat) (t : Timebase) (p : Pend) (op : Op) (s : State), tbOf s tb = some t →
    (frame : Int) ≤ countNow s t → s.cmd.pend.find? (fun p => p.tb = tb ∧ p.frame = frame) = some p →
    opTable p.opcode = some op →
    let row := exec (.pendingCommandEffect tb frame) s
    let rest : State := { s with cmd := { s.cmd with pend := s.cmd.pend.filter fun q => q.id ≠ p.id } }
    let passes : Prop := op.ctxOk p.cmd s = true ∧ op.post p.cmd p.f s = none ∧ stateAllows op s = true
    (closeFirst p s = true → ∃ u, row = .next u ∧
      u = settle s (dropPend (fun q => q.opcode = 0x0502 && q.cmd.ctx = p.cmd.ctx && q.at' = p.at')
        (cancelPend (fun q => q.id = p.id) 1 s)) ∧ ∀ q ∈ u.cmd.pend, q.id ≠ p.id) ∧
    (closeFirst p s = false → afterClose p s = true →
      ((ctxOf s p.cmd.ctx).st = .closed → Gives rest row) ∧
      ((ctxOf s p.cmd.ctx).st ≠ .closed → row = .next (settle s (op.apply p.cmd p.f rest).s))) ∧
    (closeFirst p s = false → afterClose p s = false →
      (passes → row = .next (settle s (op.apply p.cmd p.f rest).s)) ∧
      (¬ passes → ∃ u, row = .next u ∧ u = settle s (cancelPend (fun q => q.id = p.id) 5 s) ∧ ∀ q ∈ u.cmd.pend, q.id ≠ p.id))

/-! ## The System family and the Firmware and Keep family (spec/03, spec/04) -/

/-- R100 to R102, R104, R105, R497: the System family's commands change what they name and nothing else. The identity is 8
words; a subscriber or an allow-list entry is stored whole, or deleted by selector 0; the startup log is read from the
given entry; the management link's mode is set and the link goes down; the masks of a block are stored with no bit
beyond its sources; a GPIO takes its function at its boundary. R103: the pending commands that a tag and a transport
name, and whose boundary has not come, leave the table, with those that relied on them, and the reply counts them all.
R105, log entry 2: the levels of the GPIOs, of which an input's is a free value: a driven pin reads its own drive,
whatever the free value, and the second word is the pins that the module drives. Completes: READ_IDENTITY,
REGISTER_EVENT_SUBSCRIBER, SET_ALLOW_LIST_ENTRY, CANCEL_PENDING_COMMANDS, ASSIGN_GPIO_FUNCTION, READ_STARTUP_LOG,
SELECT_MANAGEMENT_LINK_MODE, READ_GPIO_LEVELS, INTERRUPT_AND_ALERT_MASKS. -/
def Obligations.SystemCommands : Prop :=
  (∀ (c : Cmd) (f : Fields) (cl : List Clamp) (s : State),
     (AcceptedNow opReadIdentity c f cl s →
       Completes opReadIdentity c cl [sysVariant s, (runningImage s).version, sysSecver s, sysState s, natWord s.keep.serial.toNat,
         natWord (s.keep.serial.toNat / 2 ^ 32), natWord (s.keep.mac.toNat / 2 ^ 32), natWord s.keep.mac.toNat] s s
         (exec (.readIdentity c) s)) ∧
     (AcceptedNow opRegisterEventSubscriber c f cl s → 0 ≤ fld f 1 ∧ fld f 1 ≤ 15 ∧
       Completes opRegisterEventSubscriber c cl [] s
         { s with cmd := { s.cmd with subs := tset none s.cmd.subs (fnat f 1) (if fld f 2 = 0 then none else some { f := f.drop 1 }) } }
         (exec (.registerEventSubscriber c) s)) ∧
     (AcceptedNow opSetAllowListEntry c f cl s → 0 ≤ fld f 1 ∧ fld f 1 ≤ 15 ∧ (fld f 3 = 0 → fld f 8 ≤ 32) ∧ fld f 8 ≤ 128 ∧
       Completes opSetAllowListEntry c cl [] s
         { s with cmd := { s.cmd with allow := tset none s.cmd.allow (fnat f 1) (some (f.drop 1)) } }
         (exec (.setAllowListEntry c) s)) ∧
     (AcceptedNow opReadStartupLog c f cl s → ∃ w, w.length = 1 + 4 * ((s.cmd.log.drop (fnat f 1)).take 256).length ∧
       Completes opReadStartupLog c cl w s s (exec (.readStartupLog c) s)) ∧
     (AcceptedNow opSelectManagementLinkMode c f cl s → (fld f 1 = 0 ∨ fld f 1 = 1) ∧
       Completes opSelectManagementLinkMode c cl [] s
         { s with keep := { s.keep with mgmtMode := fnat f 1 }, dev := { s.dev with mgmtUp := false } }
         (exec (.selectManagementLinkMode c) s)) ∧
     (AcceptedNow opInterruptAndAlertMasks c f cl s → 0 ≤ fld f 1 ∧ fld f 1 ≤ 14 ∧
       ∃ m a : Word, m &&& ~~~irqSources (fnat f 1) = 0 ∧ a &&& ~~~irqSources (fnat f 1) = 0 ∧
       Completes opInterruptAndAlertMasks c cl [] s
         { s with irqEn := tset 0 s.irqEn (fnat f 1) m, alertEn := tset 0 s.alertEn (fnat f 1) a }
         (exec (.interruptAndAlertMasks c) s))) ∧
  Framed opAssignGpioFunction .assignGpioFunction (fun _ f s =>
     { s with pins := { s.pins with gpio := tmod {} s.pins.gpio (fnat f 1) fun _ => { f := f.drop 1, pulse := none } } }) ∧
  (∀ c f cl tb n s, AcceptedAt opAssignGpioFunction c f cl tb n s → 0 ≤ fld f 1 ∧ fld f 1 ≤ 15) ∧
  (∀ (c : Cmd) (f : Fields) (cl : List Clamp) (s : State), AcceptedNow opCancelPendingCommands c f cl s →
     ∃ u, Completes opCancelPendingCommands c cl [natWord (cancelCount (cancelNames s f) s)] s u (exec (.cancelPendingCommands c) s) ∧
       u.cmd.pend = s.cmd.pend.filter (fun p => p.id ∉ dependents ((s.cmd.pend.filter (cancelNames s f)).map (·.id)) s.cmd.pend) ∧
       (∀ p ∈ u.cmd.pend, cancelNames s f p = false)) ∧
  (∀ (f : Fields) (p : Pend) (s : State), cancelNames s f p = true ↔
     p.cmd.tag = intWord (fld f 1) ∧ viaCode p.cmd.via = fnat f 2 ∧ countNow s (tbD s p.tb) < p.frame) ∧
  (∀ (c : Cmd) (f : Fields) (cl : List Clamp) (s : State), AcceptedNow opReadGpioLevels c f cl s →
     ∃ (lev dir : Word) (v : Nat),
       Completes opReadGpioLevels c cl [lev, dir] s { s with pins := { s.pins with gpioIn := v }, free := s.free + 1 }
         (exec (.readGpioLevels c) s) ∧
       ∀ g, g < 16 → dir.getLsbD g = (gpioDrive s g).isSome ∧ ∀ b, gpioDrive s g = some b → lev.getLsbD g = b)

/-- R52, R62, R85, R89, R117, R125 to R129: the Firmware and Keep commands. The background ones, accepted while no other
writes or verifies the inactive slot, become jobs that block their ring; a chunk, done, extends the inactive slot's
image and undoes its verification; verify marks the slot verified when the checks of R114 pass, else it is answered
REFUSED and changes nothing. Confirming a trial makes the running slot active and raises the minimum security version
to its own at least; a key replaces its own alone and starts its counter at 0; the policy bits are the three of
KEEP_STAT and need the general key; the startup store is replaced whole; debug access unlocks. The fields of these
opcodes, and the unwrapping, are the model's (log entries 20, 21 and 23). Completes: WRITE_FIRMWARE_CHUNK,
VERIFY_INACTIVE_SLOT, CONFIRM_TRIAL_IMAGE, INSTALL_KEY, SET_AUTHENTICATION_POLICY, WRITE_STARTUP_STORE,
UNLOCK_DEBUG_ACCESS. -/
def Obligations.KeepCommands : Prop :=
  (∀ (c : Cmd) (f : Fields) (cl : List Clamp) (s : State),
    let hands (op : Nat) (o : Host.Outcome State Fault Refusal) : Prop :=
      ∃ t, o = .next t ∧ t.keep = s.keep ∧ t.ctxs = s.ctxs ∧
        t.cmd.jobs = s.cmd.jobs ++ [{ id := s.cmd.nextId, opcode := op, cmd := c, f := f, clamps := cl }] ∧
        (ringOf t (viaRing c.via)).blocked = some s.cmd.nextId
    (AcceptedNow opWriteFirmwareChunk c f cl s → fld f 1 + fld f 2 ≤ 33554432 ∧ slotHeld s = false ∧
      hands 0x0F01 (exec (.writeFirmwareChunk c) s)) ∧
    (AcceptedNow opVerifyInactiveSlot c f cl s → slotHeld s = false ∧ hands 0x0F02 (exec (.verifyInactiveSlot c) s)) ∧
    (let i := inactiveSlot s
     let u := (opWriteFirmwareChunk.apply c f s).s
     slotOf u.keep i = { slotOf s.keep i with
       chunks := (slotOf s.keep i).chunks ++ [(fnat f 1, chunkBytes c 2 (fnat f 2))], verified := false } ∧
     (i = 0 → u.keep.slotB = s.keep.slotB) ∧ (i ≠ 0 → u.keep.slotA = s.keep.slotA) ∧ u.keep.store = s.keep.store) ∧
    (let r := opVerifyInactiveSlot.apply c f s
     (imagePasses s.keep false (slotImage s.keep (inactiveSlot s)) = true → r.status = none ∧
       slotOf r.s.keep (inactiveSlot s) = { slotOf s.keep (inactiveSlot s) with verified := true }) ∧
     (imagePasses s.keep false (slotImage s.keep (inactiveSlot s)) = false → r.status = some .refused ∧ r.s = s)) ∧
    (AcceptedNow opConfirmTrialImage c f cl s → (s.cmd.pend = [] → s.dev.trial = true) ∧
      ∃ u, Completes opConfirmTrialImage c cl [] s u (exec (.confirmTrialImage c) s) ∧ u.dev = { s.dev with trial := false } ∧
        u.keep.active = s.dev.image ∧ u.keep.trialSlot = none ∧ s.keep.minSecver ≤ u.keep.minSecver ∧
        (runningImage s).secver ≤ u.keep.minSecver ∧ u.keep.general = s.keep.general ∧ u.keep.store = s.keep.store) ∧
    (AcceptedNow opInstallKey c f cl s →
      let k := Config.keyUnwrap (s.keep.firmware.key.getD []) (c.params.drop 1)
      let st := acceptStatus cl (if k.isSome then none else some .refused)
      ∃ t, exec (.installKey c) s = .next t ∧ Sent (replyOut c (replyOf 0x0F10 c st cl none [])) s t ∧
        t.keep = (match k with
          | some k => setKey (fnat f 1) { key := some k, counter := 0 } s.keep
          | none => s.keep) ∧ t.ctxs = s.ctxs ∧ t.cmd.pend = s.cmd.pend ∧ t.mem = s.mem ∧ t.bel = s.bel) ∧
    (AcceptedNow opSetAuthenticationPolicy c f cl s → (s.cmd.pend = [] → fld f 1 ≠ 0 → s.keep.general.key.isSome = true) ∧
      ∃ u, Completes opSetAuthenticationPolicy c cl [] s u (exec (.setAuthenticationPolicy c) s) ∧
        u = { s with irq := u.irq, keep := { s.keep with
          authPcie := decide (fld f 1 % 2 = 1), authMgmt := decide (fld f 1 / 2 % 2 = 1), authInband := decide (fld f 1 / 4 % 2 = 1) } }) ∧
    (AcceptedNow opWriteStartupStore c f cl s → (ofWords c.params).length ≤ 262144 ∧
      ∃ l, splitStore (ofWords c.params).length (ofWords c.params) = some l ∧
        Completes opWriteStartupStore c cl [] s { s with keep := { s.keep with store := l } } (exec (.writeStartupStore c) s)) ∧
    (AcceptedNow opUnlockDebugAccess c f cl s →
      Completes opUnlockDebugAccess c cl [] s { s with dev := { s.dev with debug := true } } (exec (.unlockDebugAccess c) s)))

/-! ## Belfry (spec/05) -/

/-- R143, R145, R146, R153, R155, R157, R511: Belfry's commands. PTP fields wait together for the next Sync interval;
an accepted offset steps the clock by the mean of the refused master's offsets, and the servo tracks it; set time sets
the clock into HOLDOVER from UNSET and steps it otherwise; a timebase given a new rate or format starts at the ideal
count of now, and one removed is gone; an event unit is the host's with its fields, or free. Completes: CONFIGURE_PTP,
ACCEPT_REFUSED_OFFSET, SET_TIME, CONFIGURE_TIMEBASE, REMOVE_TIMEBASE, CONFIGURE_EVENT_UNIT, RELEASE_EVENT_UNIT,
READ_TIME_STATUS. -/
def Obligations.BelfryCommands : Prop :=
  ∀ (c : Cmd) (f : Fields) (cl : List Clamp) (s : State),
    (AcceptedNow opConfigurePtp c f cl s → (0 ≤ fld f 2 ∧ fld f 2 ≤ 127) ∧ (2 ≤ fld f 5 ∧ fld f 5 ≤ 10) ∧
      (1000 ≤ fld f 6 ∧ fld f 6 ≤ 1000000000) ∧ (-100000 ≤ fld f 7 ∧ fld f 7 ≤ 100000) ∧
      Completes opConfigurePtp c cl [] s { s with bel := { s.bel with ptp := { s.bel.ptp with stored := some f } } }
        (exec (.configurePtp c) s)) ∧
    (∀ r m, AcceptedNow opAcceptRefusedOffset c f cl s → s.bel.ptp.refusal = some r → refusedMean s = some m →
      ∃ u, Completes opAcceptRefusedOffset c cl [] s u (exec (.acceptRefusedOffset c) s) ∧
        u.bel.ptp.servo = .track ∧ u.bel.ptp.tracked = some r.gm ∧ u.bel.ptp.refusal = none ∧ u.bel.ptp.offs = [] ∧
        u.bel.clock = clockOf ((clockNs s : Int) + m).toNat s.bel.clock.frac ∧
        u.bel.tbs = tmap none s.bel.tbs (fun _ t => t.map fun t => { t with corr := t.corr + m * nsUnits }) ∧
        u.bel.incr = s.bel.incr ∧ u.ctxs = s.ctxs ∧ u.cmd.pend = s.cmd.pend) ∧
    (AcceptedNow opSetTime c f cl s →
      ∃ u, Completes opSetTime c cl [] s u (exec (.setTime c) s) ∧
        let ns := (fnat f 1 + fnat f 2 * 4294967296) * 1000000000 + fnat f 3
        (s.bel.ptp.servo = .unset → u.bel.clock = clockOf ns 0 ∧ u.bel.ptp.servo = .holdover ∧ u.bel.tbs = s.bel.tbs) ∧
        (s.bel.ptp.servo ≠ .unset → u.bel.clock = clockOf ns s.bel.clock.frac ∧ u.bel.ptp = s.bel.ptp ∧
          u.bel.tbs = tmap none s.bel.tbs (fun _ t => t.map fun t => { t with corr := t.corr + ((ns : Int) - clockNs s) * nsUnits }))) ∧
    (AcceptedNow opConfigureTimebase c f cl s → (samplesOf (fnat f 3) (fnat f 2)).isSome = true ∧
      ((∃ t, tbOf s (fnat f 1) = some t ∧ t.rate = fnat f 2 ∧ t.format = fnat f 3) →
        Completes opConfigureTimebase c cl [] s s (exec (.configureTimebase c) s)) ∧
      (¬ (∃ t, tbOf s (fnat f 1) = some t ∧ t.rate = fnat f 2 ∧ t.format = fnat f 3) →
        ∃ u, Completes opConfigureTimebase c cl [] s u (exec (.configureTimebase c) s) ∧
          tbOf u (fnat f 1) = some { rate := fnat f 2, format := fnat f 3, last := some (idealCount (fnat f 2) (clockNs s)).toNat } ∧
          (∀ p ∈ u.cmd.pend, p.tb ≠ fnat f 1) ∧ u.bel.clock = s.bel.clock ∧ u.bel.ptp = s.bel.ptp ∧
          (∀ k, k ≠ fnat f 1 → tbOf u k = tbOf s k))) ∧
    (AcceptedNow opRemoveTimebase c f cl s → tabWf none none s.bel.tbs = true →
      ∃ u, Completes opRemoveTimebase c cl [] s u (exec (.removeTimebase c) s) ∧ tbOf u (fnat f 1) = none ∧
        (∀ p ∈ u.cmd.pend, p.tb ≠ fnat f 1) ∧ (∀ k, k ≠ fnat f 1 → tbOf u k = tbOf s k) ∧ u.bel.clock = s.bel.clock) ∧
    (AcceptedNow opConfigureEventUnit c f cl s → 0 ≤ fld f 1 ∧ fld f 1 ≤ 255 ∧
      ∃ u, Completes opConfigureEventUnit c cl [] s u (exec (.configureEventUnit c) s) ∧
        (unitOf u (fnat f 1)).holder = .host ∧ (unitOf u (fnat f 1)).f = f.drop 1 ∧
        (unitOf u (fnat f 1)).targets = [fnat f 11] ∧ (∀ k, k ≠ fnat f 1 → unitOf u k = unitOf s k) ∧
        u = { s with bel := { s.bel with units := u.bel.units } }) ∧
    (AcceptedNow opReleaseEventUnit c f cl s →
      Completes opReleaseEventUnit c cl [] s { s with bel := { s.bel with units := tset {} s.bel.units (fnat f 1) {} } }
        (exec (.releaseEventUnit c) s)) ∧
    (AcceptedNow opReadTimeStatus c f cl s → ∃ w, w.length = 21 ∧ w[0]? = some (servoStat s) ∧
      Completes opReadTimeStatus c cl w s s (exec (.readTimeStatus c) s))

/-- R135 to R137: the PTP port's messages. An Announce on the PTP port and in its domain updates the foreign masters, and
never the clock; one from elsewhere changes nothing. A Delay_Req goes to the chosen master; its answer stores the path
delay and counts the exchange. R139 rows 3 and 9, R146: with the chosen master silent for its announce intervals and
no other qualified, or no Sync for 16 intervals, a servo that steers goes to HOLDOVER and the clock counts on; the
stored PTP fields take effect together. R137, R139: a Sync measurement of the chosen grandmaster on the PTP port.
Before four exchanges it is not used. In ACQUIRE the fourth of four offsets that lie within 1 us of their mean sets
the clock and leads to TRACK; in TRACK and LOCKED four offsets beyond the step bound lead to HOLDOVER with a refusal
held; in REQUALIFY the sixteenth interval with four offsets within 1 us leads to TRACK with that grandmaster. An
interval without a Sync begins the run of offsets afresh (log entry 91 says when one counts as missed). Completes:
PTP_ANNOUNCE_RECEIVED, DELAY_REQ_SEND, DELAY_RESP_RECEIVED, ANNOUNCE_RECEIPT_TIMEOUT, SYNC_TIMEOUT, PTP_CONFIG_APPLY,
PTP_SYNC_RECEIVED. -/
def Obligations.PtpMessages : Prop :=
  (∀ s : State, ptpHears s = true → s.bel.ptp.path = ptpPath s →
     (∀ a : Announce, a.path = ptpPath s → a.lane = fnat s.bel.ptp.f 10 → a.domain = fnat s.bel.ptp.f 2 →
       let l := noteMaster a s.tick s.bel.ptp.masters
       let best := bestMaster { s with bel := { s.bel with ptp := { s.bel.ptp with masters := l } } } l
       ∃ t, exec (.ptpAnnounceReceived a) s = .next t ∧ t.bel.ptp.masters = l ∧ t.bel.ptp.best = best.map (·.gm) ∧
         t.bel.clock = s.bel.clock ∧ t.bel.tbs = s.bel.tbs ∧ t.ctxs = s.ctxs ∧ t.cmd.pend = s.cmd.pend ∧
         (s.bel.ptp.servo = .unset → best.isSome = true → t.bel.ptp.servo = .acquire)) ∧
     (∀ a : Announce, (a.path ≠ ptpPath s ∨ a.lane ≠ fnat s.bel.ptp.f 10 ∨ a.domain ≠ fnat s.bel.ptp.f 2) →
       Gives s (exec (.ptpAnnounceReceived a) s)) ∧
     (s.bel.ptp.best.isSome = true →
       Sends (.control (ptpPort s) 1 (fnat s.bel.ptp.f 4)) s
         { s with bel := { s.bel with ptp := { s.bel.ptp with asked := true } } } (exec .delayReqSend s)) ∧
     (∀ gm late, s.bel.ptp.asked = true → s.bel.ptp.best = some gm →
       Gives { s with bel := { s.bel with ptp := { s.bel.ptp with
           delay := (nearDiv (s.bel.ptp.lag + late - txCorrection s (ptpPort s)) 20).toNat
           asked := false, exchanges := min 4 (s.bel.ptp.exchanges + 1) } } }
         (exec (.delayRespReceived (ptpPath s) (fnat s.bel.ptp.f 10) gm late) s))) ∧
  (∀ s : State, s.supply.pwrGood = true → s.pins.held = false → s.dev.state ≠ .off → s.dev.state ≠ .safe →
     (∀ m, chosen s.bel.ptp = some m → m.tick + fnat s.bel.ptp.f 5 * intervalTicks m.a.logAnn ≤ s.tick →
       let left := s.bel.ptp.masters.filter fun m => some m.a.gm ≠ s.bel.ptp.best
       bestMaster { s with bel := { s.bel with ptp := { s.bel.ptp with masters := left } } } left = none →
       ∃ t, exec .announceReceiptTimeout s = .next t ∧ t.bel.ptp.best = none ∧ t.bel.clock = s.bel.clock ∧
         ((s.bel.ptp.servo = .track ∨ s.bel.ptp.servo = .locked ∨ s.bel.ptp.servo = .requalify) → t.bel.ptp.servo = .holdover) ∧
         (s.bel.ptp.servo = .acquire → t.bel.ptp.servo = .unset)) ∧
     (∀ m, chosen s.bel.ptp = some m → s.bel.ptp.lastSync + 16 * intervalTicks m.a.logSync ≤ s.tick →
       ∃ t, exec .syncTimeout s = .next t ∧ t.bel.clock = s.bel.clock ∧
         ((s.bel.ptp.servo = .track ∨ s.bel.ptp.servo = .locked ∨ s.bel.ptp.servo = .requalify) → t.bel.ptp.servo = .holdover)) ∧
     (∀ f, s.bel.ptp.stored = some f →
       ∃ t, exec .ptpConfigApply s = .next t ∧ t.bel.ptp.f = f ∧ t.bel.ptp.stored = none ∧ t.bel.clock = s.bel.clock ∧
         t.bel.ptp.servo = s.bel.ptp.servo)) ∧
  (∀ (m : SyncMeas) (s : State), ptpHears s = true → s.bel.ptp.path = ptpPath s → m.path = ptpPath s →
     m.lane = fnat s.bel.ptp.f 10 → s.bel.ptp.best = some m.gm →
     let o := corrected s m
     let p := s.bel.ptp
     let l := o :: (if syncIntervals s = 1 then p.offs else [])
     (p.exchanges < 4 → Gives { s with bel := { s.bel with ptp := { p with lastSync := s.tick, lag := syncLag s m } } }
       (exec (.ptpSyncReceived m) s)) ∧
     (4 ≤ p.exchanges → p.servo = .acquire → (l.take 4).length = 4 → agree (l.take 4) = true →
       ∃ t, exec (.ptpSyncReceived m) s = .next t ∧ t.bel.ptp.servo = .track ∧ t.bel.ptp.tracked = some m.gm ∧
         t.bel.clock = clockOf ((clockNs s : Int) + o).toNat s.bel.clock.frac ∧ t.bel.tbs = s.bel.tbs) ∧
     (4 ≤ p.exchanges → p.servo = .acquire → (l.take 4).length < 4 →
       ∃ t, exec (.ptpSyncReceived m) s = .next t ∧ t.bel.ptp.servo = .acquire ∧ t.bel.clock = s.bel.clock ∧
         t.bel.ptp.offs = l.take 16 ∧ t.bel.incr = s.bel.incr) ∧
     (4 ≤ p.exchanges → (p.servo = .track ∨ p.servo = .locked) → (l.take 4).length = 4 →
       (∀ x ∈ l.take 4, fld p.f 6 < x ∨ x < -(fld p.f 6)) → 0 ≤ fld p.f 6 →
       ∃ t, exec (.ptpSyncReceived m) s = .next t ∧ t.bel.ptp.servo = .holdover ∧ t.bel.ptp.refusal.isSome = true ∧
         t.bel.clock = s.bel.clock ∧ bit (tget 0 t.irq 2).toNat 2 = true) ∧
     (4 ≤ p.exchanges → p.servo = .requalify → 16 ≤ p.intervals + syncIntervals s → (l.take 4).length = 4 →
       (∀ x ∈ l.take 4, -1000 ≤ x ∧ x ≤ 1000) →
       ∃ t, exec (.ptpSyncReceived m) s = .next t ∧ t.bel.ptp.servo = .track ∧ t.bel.ptp.tracked = some m.gm ∧
         t.bel.clock = s.bel.clock))

/-- R131, R158, log entry 1: one tick of the block out of reset adds the increment to the clock, carries exactly, and
slews each correction that is less than a frame period by at most 100 ppm of the tick towards 0; SLEW_COMPLETE takes
the rest below that away. Where no memory request waits for a command slot (log entry 92), nothing else changes but the
check units' cycle. -/
def Obligations.TickCounts : Prop :=
  State.reset.bel.incr = 0x019999999A ∧ ∀ s : State, s.pending = [] → s.supply.pwrGood = true → s.pins.held = false → s.dev.state ≠ .off →
    clockNs s + 256 < 281474976710656 * 1000000000 → s.bel.clock.ns.toNat < 1000000000 →
    ∃ t, step s = .next t ∧ t.tick = s.tick + 1 ∧
      clockNs t * 4294967296 + t.bel.clock.frac.toNat = clockNs s * 4294967296 + s.bel.clock.frac.toNat + s.bel.incr.toNat ∧
      t.bel.clock.ns.toNat < 1000000000 ∧ t.bel.incr = s.bel.incr ∧ t.bel.ptp = s.bel.ptp ∧
      ((∀ r, (subAt s r).queue = []) → tabWf {} none s.mem.subs = true →
        Leaves { s with tick := t.tick
                        bel := { s.bel with clock := t.bel.clock, stepped := false, tbs := t.bel.tbs }
                        dma := { s.dma with units := t.dma.units } } t) ∧
      ∀ k a b, tbOf s k = some a → tbOf t k = some b →
        b.corr.natAbs ≤ a.corr.natAbs ∧ a.corr.natAbs ≤ b.corr.natAbs + s.bel.incr.toNat ∧
        (rephaseDue a = false → s.bel.incr.toNat ≤ a.corr.natAbs → b.corr.natAbs + s.bel.incr.toNat = a.corr.natAbs)

/-- R77, R151, R159, R212: once raster time has reached a timebase's next boundary, that boundary is passed: its number is
the timebase's last, a re-phase that is due moves the offset by k, with the launches that wait, and clears the
correction, the pending commands due take effect, and what opens on it opens; before that nothing changes. R158:
SLEW_COMPLETE takes away a correction below 100 ppm of one tick. Completes: FRAME_BOUNDARY, SLEW_COMPLETE. -/
def Obligations.FrameBoundaryPassed : Prop :=
  (∀ (tb m : Nat) (t : Timebase) (s : State), tbOf s tb = some t → t.last = some m →
     ((m : Int) + 1 ≤ countNow s t →
       let b : Timebase := { rephased t with last := some (m + 1), stretch := if rephaseDue t then rephaseNs t else 0 }
       let v := if b.offset = t.offset then s
         else shiftLaunches tb (alignPoint t.rate (m + 1 - b.offset) - alignPoint t.rate (m + 1 - t.offset)) s
       let put (s : State) : State := { s with bel := { s.bel with tbs := tset none s.bel.tbs tb (some b) } }
       exec (.frameBoundary tb) s = .next (settle s (openBoundary tb (m + 1) (effectAll opTable tb (m + 1) (put v)))) ∧
       (rephaseDue t = false → s.cmd.pend = [] → s.ctxs = [] → s.groups = [] → s.cup.comps = [] →
         Gives (put s) (exec (.frameBoundary tb) s))) ∧
     (countNow s t < (m : Int) + 1 → Gives s (exec (.frameBoundary tb) s)) ∧
     (rephaseDue t = true → (rephased t).corr = 0 ∧ (rephased t).offset = t.offset - rephaseK t) ∧
     (rephaseDue t = false → rephased t = t)) ∧
  (∀ (tb : Nat) (t : Timebase) (s : State), tbOf s tb = some t → t.corr.natAbs < s.bel.incr.toNat →
     Gives { s with bel := { s.bel with tbs := tset none s.bel.tbs tb (some { t with corr := 0 }) } } (exec (.slewComplete tb) s))

/-- R155, R156, R104: an event unit whose position has come for a new frame fires once for it, and before it those whose
tick came before, or in the same tick with a lower index. The first of them: action 1 triggers its DMA channel, action 2
releases its context's frame, action 5 sets its launch time, action 6 begins a pulse at its GPIO, action 7 sends an
MSI-X message, and a unit set to one frame releases itself. A unit that has not to fire does nothing. Completes:
RASTER_EVENT_FIRE. -/
def Obligations.EventUnitFires : Prop :=
  ∀ (i : Nat) (n : Int) (t : Timebase) (l : List Nat) (s : State),
    let u := unitOf s i
    let g := fnat u.f 10
    let v := setUnit i (if fnat u.f 4 = 2 then {} else { u with fired := some n }) s
    (i ∉ fireOrder s → Gives s (exec (.rasterEventFire i) s)) ∧
    (i ∈ fireOrder s → exec (.rasterEventFire i) s = .next (settle s
      (fireUnit i (((fireOrder s).takeWhile (· ≠ i)).foldl (fun t j => fireUnit j t) s)))) ∧
    (fireOrder s = i :: l → u.holder ≠ .free → tbOf s (fnat u.f 1) = some t → unitDue s u = some n →
      (fnat u.f 9 = 6 → u.targets = [g] → fld (gpioOf s g).f 1 = 2 →
        Gives (modGpio g (fun x => { x with pulse := some s.tick }) v) (exec (.rasterEventFire i) s)) ∧
      (fnat u.f 9 = 7 → u.targets = [g] → Gives v (exec (.rasterEventFire i) s) ∧
        (s.msix = true → g ∉ s.msixMasked → Sends (.msix g) s v (exec (.rasterEventFire i) s))) ∧
      (∀ c, u.targets = [c] →
        (fnat u.f 9 = 1 → fnat (dmaOf s c).f 2 = 1 →
          exec (.rasterEventFire i) s = .next (settle s (triggerChan c (some i) v))) ∧
        (fnat u.f 9 = 2 → exec (.rasterEventFire i) s = .next (settle s (promote (releaseEncode c n.toNat v)))) ∧
        (fnat u.f 9 = 5 → exec (.rasterEventFire i) s = .next (settle s (setLaunch c n.toNat v)))) ∧
      u.fired ≠ some n)

/-! ## Registers (R9 to R14, R133, R149, R154, R491, R496, R503 to R505) -/

/-- R10, R133, R149, R150, R154: the reads with an effect. A counter returns its value and reads 0 after, a timestamp
queue's status with its count beside; BELF_NOW32 returns the low 32 bits of the clock in ns and latches the whole; a
timestamp queue gives its oldest entry and drops it; a frame count latches its high word. R9, R12, R14, R496, R498: ones
written to a block's interrupt flags clear them but for those a hardware event sets in the same cycle; a write to a
register that none of the access codes lets a host change is ignored. R503 to R505, R10, R491: the Diagnostics commands.
A read returns one word for each register asked, from an offset that is a multiple of 4; a write to a register of the
PCIe host's own block is not accepted; a snapshot returns every counter of a block and clears it. Completes:
COUNTER_READ_CLEAR, BELF_NOW32_READ, TSQ_HI_READ, TB_FRAME_COUNT_READ, W1C_WRITE, REGISTER_WRITE, READ_REGISTERS,
WRITE_REGISTER, COUNTER_SNAPSHOT. -/
def Obligations.RegisterAccesses : Prop :=
  (∀ s : State, s.pins.pcieReady = true →
     (∀ off, isCounter off = true →
       ∃ t v, exec (.counterReadClear off) s = .next t ∧ Sent (some (.regRead off v)) s t ∧
         (off ≠ 0x20108 → off ≠ 0x20114 → v = natWord (counter s off)) ∧
         (off = 0x20108 → v = natWord (counter s off * 65536 + s.bel.tsqA.entries.length)) ∧
         (off = 0x20114 → v = natWord (counter s off * 65536 + s.bel.tsqB.entries.length)) ∧
         Leaves { s with counters := tset 0 s.counters off 0 } t) ∧
     (Sends (.regRead 0x20000 (natWord (clockNs s))) s
       { s with bel := { s.bel with snapSec := s.bel.clock.sec, snapNs := s.bel.clock.ns } } (exec .belfNow32Read s)) ∧
     (∀ i sec ns rest, s.bel.tsqA.entries = (i, sec, ns) :: rest →
       Sends (.regRead 0x20100 (natWord (i * 65536 + sec))) s
         { s with bel := { s.bel with tsqA := { entries := rest, lo := natWord ns, full := false } } } (exec (.tsqHiRead 0) s)) ∧
     (∀ i sec ns rest, s.bel.tsqB.entries = (i, sec, ns) :: rest →
       Sends (.regRead 0x2010C (natWord (i * 65536 + sec))) s
         { s with bel := { s.bel with tsqB := { entries := rest, lo := natWord ns, full := false } } } (exec (.tsqHiRead 1) s)) ∧
     (∀ tb t, tb < 16 → tbOf s tb = some t →
       let n := BitVec.ofInt 64 (rasterCount s tb)
       Sends (.regRead (0x21000 + 0x20 * tb) (n.setWidth 32)) s
         { s with bel := { s.bel with fcHi := tset 0 s.bel.fcHi tb ((n >>> 32).setWidth 32) } } (exec (.tbFrameCountRead tb) s))) ∧
  (∀ (v m : Word) (s : State), s.pins.pcieReady = true →
     (∀ b, b < 15 → Gives { s with irq := tset 0 s.irq b (tget 0 s.irq b &&& ~~~(v &&& ~~~m)) }
       (exec (.w1cWrite (0x10000 * b + 0xFF00) v m) s)) ∧
     (∀ off, isW1c off = false → off / 0x10000 ≠ 1 → (off < 0xC1000 ∨ 0xC1200 ≤ off) → Gives s (exec (.registerWrite off v) s)) ∧
     (∀ b, b < 15 → Gives { s with irq := tset 0 s.irq b (tget 0 s.irq b &&& ~~~v) }
       (exec (.registerWrite (0x10000 * b + 0xFF00) v) s))) ∧
  (∀ (c : Cmd) (f : Fields) (cl : List Clamp) (s : State),
     (AcceptedNow opReadRegisters c f cl s → fld f 1 % 4 = 0 ∧ 1 ≤ fld f 2 ∧ fld f 2 ≤ 256 ∧ fld f 1 + 4 * fld f 2 ≤ 0x1000000 ∧
       ∃ w u, w.length = fnat f 2 ∧ (fnat f 2 = 1 → w = [(regRead (fnat f 1) s).1] ∧ u = (regRead (fnat f 1) s).2) ∧
         Completes opReadRegisters c cl w s u (exec (.readRegisters c) s)) ∧
     (AcceptedNow opWriteRegister c f cl s → fnat f 1 / 0x10000 ≠ 1 ∧
       ∃ u, Completes opWriteRegister c cl [(regRead (fnat f 1) (regWrite (fnat f 1) (intWord (fld f 2)) s)).1] s u
         (exec (.writeRegister c) s) ∧ u = (regRead (fnat f 1) (regWrite (fnat f 1) (intWord (fld f 2)) s)).2) ∧
     (AcceptedNow opCounterSnapshot c f cl s → tabWf 0 none s.counters = true →
       ∃ w u, w = (counterOffs (fnat f 1)).map (fun off => natWord (counter s off)) ∧
         Completes opCounterSnapshot c cl w s u (exec (.counterSnapshot c) s) ∧ u = { s with counters := u.counters } ∧
         (∀ off, off ∈ counterOffs (fnat f 1) → tget 0 u.counters off = 0) ∧
         (∀ off, off ∉ counterOffs (fnat f 1) → tget 0 u.counters off = tget 0 s.counters off)))

/-! ## Contexts and Campanile (spec/06 to spec/10) -/

/-- R192, R199, R202, R284: opening and closing a context. Acceptance makes the context OPENING with the packet's
fields; at the open's boundary it is ACTIVE with a pool of P UNUSED buffers of generation 0; a close leaves no frame
that has not been released and no Contexts command of the context for a later boundary, and the context is CLOSING
until its last frame closes, else CLOSED. Other contexts stay. Completes: OPEN_ENCODE_CONTEXT, OPEN_DECODE_CONTEXT,
CLOSE_CONTEXT. -/
def Obligations.ContextsOpenAndClose : Prop :=
  FramedTimed opOpenEncodeContext .openEncodeContext (fun c _ s => openEffect c s) ∧
  FramedTimed opOpenDecodeContext .openDecodeContext (fun c _ s => openEffect c s) ∧
  Framed opCloseContext .closeContext (fun c f s => (opCloseContext.apply c f s).s) ∧
  (∀ (d : Bool) (c : Cmd) (f : Fields) (s : State),
    let u := acceptOpen d c f s
    (ctxOf u c.ctx).st = .opening ∧ (ctxOf u c.ctx).f = f ∧ (ctxOf u c.ctx).decode = d ∧ u.cmd = s.cmd ∧ u.camp = s.camp ∧
      (tablesOk s → ∀ k, k ≠ c.ctx → ctxOf u k = ctxOf s k)) ∧
  (∀ (c : Cmd) (s : State),
    let u := openEffect c s
    let x := ctxOf u c.ctx
    x.st = .active ∧ x.f = (ctxOf s c.ctx).f ∧ x.rate = (ctxOf s c.ctx).rate ∧
      x.pool = List.replicate (poolSize s (ctxOf s c.ctx)) {} ∧ u.camp = s.camp ∧
      (tablesOk s → ∀ k, k ≠ c.ctx → ctxOf u k = ctxOf s k)) ∧
  (∀ (c : Nat) (t : Option Int) (s : State), (ctxOf s c).st = .active → tablesOk s →
    let u := closeEffect c t s
    (ctxOf u c).st = (if u.camp.frames.any (·.ctx = c) then .closing else .closed) ∧
      (∀ r ∈ u.camp.frames, r.ctx = c → r.released = true) ∧
      (∀ r ∈ s.camp.frames, r.ctx ≠ c → r ∈ u.camp.frames) ∧
      (∀ p ∈ u.cmd.pend, p.cmd.ctx = c → p.opcode / 256 = 5 → ∃ b, t = some b ∧ p.at' ≤ b))

/-- R187, R188, R200, R205, R216, R246 to R251, R301: the framed commands on an open context. Each changes its own fields
alone: scheduling fields lie in their ranges; 0x0520 and 0x0521 set the rate and the send controls, with the old rate
kept until the next IRAP; 0x0510 makes an IRAP due; an invalidation leaves no reference of a frame from X on; a modify
keeps the refresh fields until a refresh point and a changed structure starts the context afresh; a flush leaves no
unit and no unbound frame, and sync is awaited. R262 to R264: the group commands. A mux rate of 0 deletes the group,
any other configures it and keeps its buffer level, and a changed CPB keeps each member's old rate until its next IRAP;
joining and leaving change the context's membership alone, with its old rate kept until the next IRAP. The shares of a
frame never add up to more than the frame's target, nor a member's to more than its maximum. Completes: REQUEST_IRAP,
SCHEDULING_FIELDS, DEVICE_SCHEDULING_FIELDS, RATE_PARAMETERS, SEND_CEILING_AND_HRD, INVALIDATE_REFERENCES,
MODIFY_ENCODE_CONTEXT, FLUSH_AND_RESYNCHRONISE, CONFIGURE_STATMUX_GROUP, JOIN_GROUP, REMOVE_FROM_GROUP. -/
def Obligations.ContextCommands : Prop :=
  (Framed opRequestIrap .requestIrap (fun c _ s => modCtx c.ctx (fun x => { x with irapDue := true }) s) ∧
   Framed opSchedulingFields .schedulingFields (fun c f s => modCtx c.ctx (fun x => { x with sched := f }) s) ∧
   Framed opDeviceSchedulingFields .deviceSchedulingFields (fun _ f s => { s with camp := { s.camp with f := f } }) ∧
   Framed opRateParameters .rateParameters
     (fun c f s => modCtx c.ctx (fun x => { x with rate := { keepOld s x with f := f } }) s) ∧
   Framed opSendCeilingAndHrd .sendCeilingAndHrd
     (fun c f s => modCtx c.ctx (fun x => { x with rate := { x.rate with h := f } }) s) ∧
   Framed opInvalidateReferences .invalidateReferences (fun c f s => invalidate c.ctx (fnat f 1 + fnat f 2 * 2 ^ 32) s) ∧
   FramedTimed opModifyEncodeContext .modifyEncodeContext modifyState ∧
   Framed opFlushAndResynchronise .flushAndResynchronise (fun c _ s => flush c.ctx s) ∧
   (∀ c f cl tb n s, AcceptedAt opSchedulingFields c f cl tb n s →
     0 ≤ fld f 1 ∧ fld f 1 ≤ 15 ∧ 50 ≤ fld f 2 ∧ fld f 2 ≤ 2000) ∧
   (∀ c f cl tb n s, AcceptedAt opDeviceSchedulingFields c f cl tb n s →
     500 ≤ fld f 1 ∧ fld f 1 ≤ 4000 ∧ 16 ≤ fld f 2 ∧ fld f 2 ≤ 256 ∧ fld f 2 % 16 = 0) ∧
   (∀ (c x : Nat) (s : State), tablesOk s →
     let u := invalidate c x s
     (∀ b, b < (ctxOf s c).pool.length → ((bufOf (ctxOf u c) b).mark = .short ∨ (bufOf (ctxOf u c) b).mark = .long) →
       (bufOf (ctxOf u c) b).frame < x) ∧
       (∀ k, k ≠ c → ctxOf u k = ctxOf s k) ∧ u.camp.frames.length = s.camp.frames.length ∧ u.bel = s.bel ∧ u.cup = s.cup) ∧
   (∀ (c : Cmd) (f : Fields) (s : State), f.length = 16 → (ctxOf s c.ctx).st = .active → tablesOk s →
     let x := ctxOf s c.ctx
     let y := ctxOf (modifyState c f s) c.ctx
     y.st = .active ∧ (∀ i, i ≠ 11 → i ≠ 12 → fld y.f i = fld f i) ∧ fld y.f 11 = fld x.f 11 ∧ fld y.f 12 = fld x.f 12 ∧
       (rebuilds x f = true → y.first = true ∧ y.kept = []) ∧ (rebuilds x f = false → y.pool = x.pool ∧ y.kept = x.kept) ∧
       ∀ k, k ≠ c.ctx → ctxOf (modifyState c f s) k = ctxOf s k) ∧
   (∀ (c : Nat) (s : State), tablesOk s →
     let u := flush c s
     (ctxOf u c).units = [] ∧ (ctxOf u c).synced = false ∧ (ctxOf u c).kept = [] ∧
       (∀ r ∈ u.camp.frames, r.ctx = c → r.bound = true ∧ r.unshown = true) ∧ ∀ k, k ≠ c → ctxOf u k = ctxOf s k)) ∧
  (FramedTimed opConfigureStatmuxGroup .configureStatmuxGroup (fun c f s => (opConfigureStatmuxGroup.apply c f s).s) ∧
   (∀ (c : Cmd) (f : Fields) (s : State), tablesOk s →
     let u := (opConfigureStatmuxGroup.apply c f s).s
     let old : Group := (groupD s (fnat f 1)).getD { f := [] }
     (fld f 3 = 0 → u = { s with groups := tset none s.groups (fnat f 1) none }) ∧
     (fld f 3 ≠ 0 → groupD u (fnat f 1) = some { old with f := f.drop 1 } ∧
       (∀ i, i ≠ fnat f 1 → groupD u i = groupD s i) ∧ u.camp = s.camp ∧ u.cup = s.cup ∧ u.bel = s.bel ∧
       (membersOf s (fnat f 1) = [] → u.ctxs = s.ctxs))) ∧
   Framed opJoinGroup .joinGroup (fun c f s => modCtx c.ctx (fun x => { x with
     rate := keepOld s x
     member := some { group := fnat f 1, weight := fnat f 2, min := fnat f 3, max := fnat f 4 } }) s) ∧
   Framed opRemoveFromGroup .removeFromGroup
     (fun c _ s => modCtx c.ctx (fun x => { x with rate := keepOld s x, member := none }) s) ∧
   (∀ (tg : Nat) (l : List (Nat × Nat × Nat)), (shares tg l).length = l.length ∧ (shares tg l).sum ≤ tg ∧
     ((∀ x ∈ l, x.2.1 ≤ x.2.2) → ∀ p ∈ (shares tg l).zip l, p.1 ≤ p.2.2.2)))

/-- R189, R223, R280, R303: the status reads of a context and a group change nothing but, where the context has no
figure yet, the free value drawn for it. A CLOSED context gives its state word alone. Completes: READ_GROUP_STATUS,
READ_RATE_CONTROL_STATUS, READ_SCHEDULING_STATISTICS, READ_DECODE_STATUS, READ_CONTEXT_STATUS. -/
def Obligations.ContextReads : Prop :=
  ∀ (c : Cmd) (f : Fields) (cl : List Clamp) (s : State),
    let x := ctxOf s c.ctx
    (∀ g, AcceptedNow opReadGroupStatus c f cl s → groupD s (fnat f 1) = some g →
      ∃ w, w.length = 4 + 2 * (membersOf s (fnat f 1)).length ∧ w[0]? = some (natWord (xgNow s (fnat f 1) g)) ∧ w[1]? = some (natWord g.fg) ∧
        w[2]? = some (natWord g.tg) ∧ w.getLast? = some (natWord g.late) ∧
        Completes opReadGroupStatus c cl w s s (exec (.readGroupStatus c) s)) ∧
    (AcceptedNow opReadRateControlStatus c f cl s →
      ∃ w, 11 ≤ w.length ∧ w[1]? = some (natWord x.rate.lastF) ∧ w[2]? = some (natWord x.rate.lastT) ∧
        w[3]? = some (natWord x.rate.lastB) ∧ w[4]? = some x.rate.alpha ∧ w[8]? = some (natWord x.rate.floorPics) ∧
        Completes opReadRateControlStatus c cl w s s (exec (.readRateControlStatus c) s)) ∧
    (AcceptedNow opReadSchedulingStatistics c f cl s →
      Completes opReadSchedulingStatistics c cl
        (x.levels.map natWord ++ [natWord x.urgents, natWord x.skips, natWord x.lastGang, x.lastBind, natWord x.substitutes])
        s s (exec (.readSchedulingStatistics c) s)) ∧
    (AcceptedNow opReadDecodeStatus c f cl s →
      (x.st = .closed → Completes opReadDecodeStatus c cl [0] s s (exec (.readDecodeStatus c) s)) ∧
      (x.st ≠ .closed → ∃ w, w.length = 4 + x.counts.length + 4 * poolSize s x ∧
        w[0]? = some (natWord (ctxCode x.st * 2 ^ 24 + poolSize s x * 2 ^ 16 + fnat x.f 11 * 2 ^ 8 + x.tb)) ∧
        Completes opReadDecodeStatus c cl w s s (exec (.readDecodeStatus c) s))) ∧
    (AcceptedNow opReadContextStatus c f cl s →
      (x.st = .closed → Completes opReadContextStatus c cl [0] s s (exec (.readContextStatus c) s)) ∧
      (x.st ≠ .closed → ∃ w u, w.length = 10 + 4 * fnat x.f 15 ∧ w[3]? = some (natWord x.irapCount) ∧
        w[9]? = some (natWord (footprintMib s c.ctx x)) ∧ (u = s ∨ u = { s with free := s.free + 1 }) ∧
        Completes opReadContextStatus c cl w s u (exec (.readContextStatus c) s)))

/-- R165, R171 to R174, R177: FRAME_BIND binds the first BIND task that may bind: its frame takes k free Spires at its
starting level, with a deadline no later than the binding budget and its guard allow; other contexts, memory and the
time stay. A first task in order with room and free Spires is the one; with none that may bind nothing changes.
Completes: FRAME_BIND. -/
def Obligations.FramesBind : Prop :=
  ∀ s : State, tablesOk s →
    (∀ r k e till, nextBind s (bindOrder s) none = some (r, k, e, till) →
      ∃ t, exec .frameBind s = .next t ∧
        (∃ q ∈ t.camp.frames, isFrame r.ctx r.frame r.bottom q = true ∧ q.bound = true ∧ q.k = k ∧
          q.members = chooseSpires s r.ctx k ∧ q.members.length = k ∧ q.tS ≤ frameNow s r + budgetNs s ∧
          q.tS ≤ frameEnd s r ∧ e ≤ q.level ∧
          q.pics.map (fun p => p.refs.length) = r.pics.map (fun p => p.refs.length)) ∧
        (∀ i ∈ chooseSpires s r.ctx k, i ∈ freeSpires s ∧
          (tget {} t.camp.spires i).bound = some (r.ctx, r.frame, r.bottom)) ∧
        t.camp.frames.length = s.camp.frames.length ∧ (∀ c, c ≠ r.ctx → ctxOf t c = ctxOf s c) ∧
        t.bel = s.bel ∧ t.mem = s.mem ∧ t.cup = s.cup ∧ t.flows.egress = s.flows.egress ∧ t.cmd.pend = s.cmd.pend) ∧
    (nextBind s (bindOrder s) none = none → Gives s (exec .frameBind s)) ∧
    (∀ r l, bindOrder s = r :: l → (r.decode = true → anyUrgent s = false) → hasRoom s r (frameGeo s r) = true →
      (frameGang s r).1 ≤ (freeSpires s).length →
      nextBind s (bindOrder s) none = some (r, (frameGang s r).1, (frameGang s r).2, none))

/-- R20, R166, R168, R172, R175, R237, R267: dispatch and what goes with it. A bound Spire without a segment starts its
member's next one when its task is ready, and is released when none is left; a Dome starts its row's next segment;
DOME_BIND gives the first frame that waits for Domes its number of free ones; a refill moves the oldest spilled tasks
on chip, at most 64 of each queue, and loses none; the ALF sets of a VVC frame whose last segment has finished become
ready; a Spire of the profile powers up. Completes: TASK_DISPATCH, DOME_BIND, SPILL_REFILL, ALF_FIT_COMPLETE,
SPIRE_POWER_UP. -/
def Obligations.EnginesStart : Prop :=
  ∀ s : State, tablesOk s →
    (∀ i c n b r row seg l t, i < 16 → (tget {} s.camp.spires i).bound = some (c, n, b) →
      (tget {} s.camp.spires i).run = none → (tget {} s.camp.spires i).waiting = none → frameOf s c n b = some r →
      unstarted s r (frameGeo s r) (tget {} s.camp.spires i).member = (row, seg) :: l →
      readySeg s r [.seg, .dseg] (row, seg) = some t →
      ∃ u z, exec (.taskDispatch i) s = .next z ∧ (tget {} z.camp.spires i).run = some u ∧ u.row = row ∧ u.seg = seg ∧
        u.ctx = c ∧ u.frame = n ∧ u.bottom = b ∧ (u.level = r.level ∨ u.level = 5) ∧ u.start = s.tick ∧ t ∉ z.camp.ready ∧
        z.ctxs = s.ctxs ∧ z.camp.matching = s.camp.matching ∧ z.camp.domes = s.camp.domes) ∧
    (∀ i c n b r, i < 16 → (tget {} s.camp.spires i).bound = some (c, n, b) → (tget {} s.camp.spires i).run = none →
      (tget {} s.camp.spires i).waiting = none → frameOf s c n b = some r →
      unstarted s r (frameGeo s r) (tget {} s.camp.spires i).member = [] →
      ∃ z, exec (.taskDispatch i) s = .next z ∧ (tget {} z.camp.spires i).bound = none ∧
        (tget {} z.camp.spires i).lastCtx = some c ∧ z.ctxs = s.ctxs ∧ z.camp.frames = s.camp.frames) ∧
    (∀ d c n b r row t, (tget {} s.camp.domes d).bound = some (c, n, b) → (tget {} s.camp.domes d).run = none →
      (tget {} s.camp.domes d).row = some row → frameOf s c n b = some r →
      readySeg s r [.dome, .dparse] (row, (r.coded.filter (·.1 = row)).length) = some t →
      ∃ z, exec (.taskDispatch (16 + d)) s = .next z ∧
        (tget {} z.camp.domes d).run = some (row, (r.coded.filter (·.1 = row)).length) ∧ t ∉ z.camp.ready ∧
        z.camp.frames = s.camp.frames ∧ z.ctxs = s.ctxs) ∧
    (∀ r, (domeOrder s).find? (wantsDomes s) = some r → domesFor r.k ≤ (freeDomes s).length →
      ∃ z, exec .domeBind s = .next z ∧
        (∃ q ∈ z.camp.frames, isFrame r.ctx r.frame r.bottom q = true ∧ q.domes = (freeDomes s).take (domesFor r.k)) ∧
        (∀ d ∈ (freeDomes s).take (domesFor r.k), (tget {} z.camp.domes d).bound = some (r.ctx, r.frame, r.bottom)) ∧
        z.ctxs = s.ctxs ∧ z.camp.spires = s.camp.spires) ∧
    (∃ z, exec .spillRefill s = .next z ∧ z.camp.pendSpill = s.camp.pendSpill.drop (min 64 (freeMatching s)) ∧
      z.camp.matching.length + z.camp.ready.length + z.camp.pendSpill.length + z.camp.readySpill.length =
        s.camp.matching.length + s.camp.ready.length + s.camp.pendSpill.length + s.camp.readySpill.length ∧
      z.camp.frames = s.camp.frames ∧ z.ctxs = s.ctxs) ∧
    (∀ c n l, (ctxOf s c).fits.find? (fun p => p.1 = n) = some (n, l) →
      Gives (modCtx c (fun x => { x with
        alf := some (n, Config.alfFit l), alfSent := false, fits := x.fits.filter fun p => n < p.1 }) s)
        (exec (.alfFitComplete c n) s)) ∧
    (∀ i, i < profileSpires s s.watch.profile → s.dev.state ≠ .off → s.dev.state ≠ .boot → s.dev.state ≠ .safe →
      Gives (modSpire i (fun p => { p with powered := true, leaving := false }) s) (exec (.spirePowerUp i) s))

/-- R175, R179, R229, R235, R265 to R267: a segment that ends on a Spire is among its frame's completed ones, and the
Spire has none. A decode segment, and one at E5 or of a floor row, ends at once, with a record for each of its CTUs, of
at most 63 bins where the CTU was coded anew; any other ends or waits on its Spire with the CTUs that are not yet
staged, the first of which does not fit, and goes on when it does. A segment that a Dome ends is among the coded ones,
its records have left the staging buffer and its bins are counted. What the Spire found of a CTU is an operand (log
entry 75). Completes: SEGMENT_DONE, STAGING_RESUME, DOME_TASK_DONE. -/
def Obligations.SegmentsEnd : Prop :=
  ∀ s : State, tablesOk s →
    (∀ i u r, (tget {} s.camp.spires i).run = some u → frameOf s u.ctx u.frame u.bottom = some r →
      let ended (t : State) : Prop :=
        (tget {} t.camp.spires i).run = none ∧ (tget {} t.camp.spires i).waiting = none ∧
          ∃ q ∈ t.camp.frames, isFrame u.ctx u.frame u.bottom q = true ∧ (u.row, u.seg) ∈ q.done ∧
            r.done.length + 1 = q.done.length ∧ r.level ≤ q.level
      let waits (t : State) : Prop :=
        ∃ v w c l, (tget {} t.camp.spires i).run = some v ∧ v.row = u.row ∧ v.seg = u.seg ∧
          (tget {} t.camp.spires i).waiting = some w ∧ w.left = c :: l ∧ mustWait t v c = true
      let frame (t : State) : Prop :=
        t.camp.frames.length = s.camp.frames.length ∧ t.bel = s.bel ∧ t.mem = s.mem ∧ t.camp.domes = s.camp.domes ∧
          ∀ c, c ≠ u.ctx → ctxOf t c = ctxOf s c
      let p := tget {} s.camp.spires i
      let g := frameGeo s r
      (∀ x : SegIn, p.waiting = none → (u.decode = true ∨ u.level = 5 ∨ u.floor = true) →
        ∃ t, exec (.segmentDone i x) s = .next t ∧ ended t ∧ frame t) ∧
      (∀ x : SegIn, p.waiting = none → ∃ t, exec (.segmentDone i x) s = .next t ∧ (ended t ∨ waits t) ∧ frame t) ∧
      (∀ x : SegIn, p.waiting = none → u.decode = false → (u.level = 5 ∨ u.floor = true) →
        let y := codeSegment (ctxOf s u.ctx) g r (picAt r (g.picOf u.row)) u (lowestRow g r) p.allow x
        y.ctus.length = g.segCtus u.seg ∧ (∀ z ∈ y.ctus, z.row = u.row ∧ 1 ≤ z.bins ∧ (z.recoded = true → z.bins ≤ 63)) ∧
        ∃ t, exec (.segmentDone i x) s = .next t ∧ ∃ q ∈ t.camp.frames, isFrame u.ctx u.frame u.bottom q = true ∧
          q.ctus = y.ctus.reverse ++ r.ctus ∧ q.recs.length = r.recs.length + y.ctus.length) ∧
      (∀ w, p.waiting = some w → w.left = [] → ∃ t, exec (.stagingResume i) s = .next t ∧ ended t ∧ frame t) ∧
      (∀ w c l, p.waiting = some w → w.left = c :: l →
        (mustWait s u c = true → Gives s (exec (.stagingResume i) s)) ∧
        (mustWait s u c = false → ∃ t, exec (.stagingResume i) s = .next t ∧ (ended t ∨ waits t) ∧ frame t) ∧
        (mustWait s u c = false → l = [] → ∃ t, exec (.stagingResume i) s = .next t ∧ ended t ∧ frame t))) ∧
    (∀ d c n b row seg r, (tget {} s.camp.domes d).bound = some (c, n, b) →
      (tget {} s.camp.domes d).run = some (row, seg) → frameOf s c n b = some r →
      (∀ x y, (x, y) ≠ (row, seg) → Gives s (exec (.domeTaskDone d x y) s)) ∧
      ∃ t, exec (.domeTaskDone d row seg) s = .next t ∧ (tget {} t.camp.domes d).run = none ∧
        (tget {} t.camp.domes d).bound = some (c, n, b) ∧
        (∃ q ∈ t.camp.frames, isFrame c n b q = true ∧ q.coded = (row, seg) :: r.coded ∧ q.staged ≤ r.staged ∧
          ∀ x ∈ q.recs, ¬ (x.1 = row ∧ x.2.1 = seg)) ∧
        t.ctxs = s.ctxs ∧ t.camp.spires = s.camp.spires ∧
        (r.decode = false → d < 12 →
          let off := 0x50004 + 0x1000 * d
          let bins := ((r.recs.filter fun x => x.1 = row ∧ x.2.1 = seg).map (·.2.2.2)).sum
          tget 0 t.counters off = min (counterMax off * counterUnit off) (tget 0 s.counters off + bins)))

/-- R175, R183, R184, R211, R386: frames leave Campanile. A CLOSE task takes its frame's record away, its Domes are
free, and an encode frame is with each enabled egress flow of its context, to launch at its instant; encode frames
unbound at their latest bind time are urgent; those unbound at L - guard are replaced by a substitute; decode frames
unbound at theirs are skipped, and their context conceals. Completes: FRAME_CLOSE, BIND_URGENT, SUBSTITUTE_PICTURE,
DECODE_FRAME_SKIP. -/
def Obligations.FramesLeave : Prop :=
  ∀ (c n : Nat) (s : State), tablesOk s →
    (∀ late task r, s.camp.ready.find? (fun t => t.kind = .close && t.ctx = c && t.frame = n) = some task →
      taskFrame s task = some r → (r.decode = true → ∀ u ∈ (ctxOf s c).units, u.task = true) →
      ∃ t, exec (.frameClose c n late) s = .next t ∧
        (∀ x ∈ t.camp.frames, isFrame r.ctx r.frame r.bottom x = false) ∧
        (∀ d ∈ r.domes, (tget {} t.camp.domes d).bound = none) ∧
        (∀ l i e, r.decode = false → r.pics ≠ [] → r.launch = some l → tget none s.flows.egress i = some e →
          fnat e.f 1 = 1 → fnat e.f 2 = 1 → fnat e.f 5 = c →
          ∃ e', tget none t.flows.egress i = some e' ∧ ∃ u ∈ e'.units, u.ctx = c ∧ u.frame = n ∧ u.launch = l) ∧
        t.camp.spires = s.camp.spires ∧ t.mem = s.mem ∧ t.bel = { s.bel with units := t.bel.units } ∧
        ∀ k, k ≠ c → ctxOf t k = ctxOf s k) ∧
    (∃ t, exec (.bindUrgent c n) s = .next t ∧
      (∀ q ∈ t.camp.frames, q.ctx = c → q.frame = n → q.decode = false → q.bound = false →
        latestBind s q ≤ frameNow s q → q.urgent = true) ∧
      t.camp.frames.length = s.camp.frames.length ∧ t.camp.spires = s.camp.spires ∧
      ((∃ q ∈ s.camp.frames, q.ctx = c ∧ q.frame = n ∧ q.decode = false ∧ q.bound = false ∧ q.urgent = false ∧
        latestBind s q ≤ frameNow s q) → bit (tget 0 t.irq 3).toNat 0 = true)) ∧
    (∃ t, exec (.substitutePicture c n) s = .next t ∧
      (∀ q ∈ t.camp.frames, q ∈ s.camp.frames ∧ ¬ (q.ctx = c ∧ q.frame = n ∧ q.decode = false ∧ q.bound = false ∧
        launchOf s q - guardNs q ≤ frameNow s q)) ∧
      (∀ q ∈ s.camp.frames, (q.ctx ≠ c ∨ q.frame ≠ n) → q ∈ t.camp.frames) ∧ t.camp.spires = s.camp.spires ∧
      ∀ k, k ≠ c → ctxOf t k = ctxOf s k) ∧
    (∀ r ∈ s.camp.frames, r.ctx = c → r.frame = n → r.decode = true → r.bound = false →
      latestBind s r ≤ frameNow s r → (ctxOf s c).st = .active → (∀ u ∈ (ctxOf s c).units, u.task = true) →
      ∃ t, exec (.decodeFrameSkip c n) s = .next t ∧ (∀ q ∈ t.camp.frames, isFrame c n r.bottom q = false) ∧
        (ctxOf t c).concealing = true ∧ 0 < (ctxOf t c).skips ∧ bit (tget 0 t.irq 3).toNat 2 = true ∧
        ∀ k, k ≠ c → ctxOf t k = ctxOf s k)

/-- R286 to R289, R293, R298, R300: access units of an ACTIVE decode context. One before sync that is no IRAP and starts
no GDR cycle is counted and conceals, and so is one too late; a second one of a slot is counted; any
other waits with its slot. Complete, or at its release deadline, its frame is released with a buffer of the pool; one
that breaks a limit of R285 is discarded. A bound frame with work left at its deadline is abandoned: incomplete, its
tasks gone and its Spires free. Completes: ACCESS_UNIT_MAPPED, ACCESS_UNIT_COMPLETE, DECODE_RELEASE_DEADLINE,
DECODE_ABANDON. -/
def Obligations.UnitsAreDecoded : Prop :=
  ∀ (c : Nat) (s : State), tablesOk s → (ctxOf s c).decode = true → (ctxOf s c).st = .active →
    let x := ctxOf s c
    (∀ u : UnitHead, x.synced = false → u.irap = false → u.gdrStart = false →
      Gives (modCtx c (fun x => defect (showSlot s x u).toNat (tally 8 1 x)) s) (exec (.accessUnitMapped c u) s)) ∧
    (∀ u : UnitHead, (x.synced = true ∨ u.irap = true ∨ u.gdrStart = true) →
      let n := (showSlot s x u).toNat
      let late := latestBind s (decodeRec x c n u) < frameNow s (decodeRec x c n u) ∨
        countNow s (tbD s x.tb) + fld x.f 11 + 8 < showSlot s x u
      (late → Gives (modCtx c (fun x => defect n (tally 6 1 x)) s) (exec (.accessUnitMapped c u) s)) ∧
      (¬ late → (n, u.bottom) ∈ x.slots → Gives (modCtx c (tally 7 1) s) (exec (.accessUnitMapped c u) s)) ∧
      (¬ late → (n, u.bottom) ∉ x.slots → (∀ v ∈ x.units, v.ended = none) →
        ∃ t, exec (.accessUnitMapped c u) s = .next t ∧ (ctxOf t c).synced = true ∧
          (n, u.bottom) ∈ (ctxOf t c).slots ∧ (∃ v ∈ (ctxOf t c).units, v.head = u ∧ v.slot = n) ∧
          (ctxOf t c).units.length = x.units.length + 1 ∧ (ctxOf t c).pool = x.pool ∧ t.mem = s.mem ∧
          ∀ k, k ≠ c → ctxOf t k = ctxOf s k)) ∧
    (∀ n b e u r, unitIn x n b = some u → frameOf s c n b = some r → r.released = false → e.truncated = false →
      (∀ v ∈ x.units, v.task = true) →
      let fits := e.headers = true ∧ e.sets = true ∧ accepted (ctxGeo s x) x.f u.head.irap e.info = true
      let released (o : Host.Outcome State Fault Refusal) (i : Nat) : Prop :=
        ∃ t, o = .next t ∧ (∃ q ∈ t.camp.frames, isFrame c n b q = true ∧ q.released = true ∧ allRefs q = [] ∧
          (picAt q 0).buf = i ∧ q.unitEnd = some e) ∧ (bufOf (ctxOf t c) i).holders = 1 ∧
          (bufOf (ctxOf t c) i).poc = u.head.poc ∧ (bufOf (ctxOf t c) i).frame = n ∧ ∀ k, k ≠ c → ctxOf t k = ctxOf s k
      let discarded (o : Host.Outcome State Fault Refusal) : Prop :=
        ∃ t, o = .next t ∧ (∀ q ∈ t.camp.frames, isFrame c n b q = false) ∧ unitIn (ctxOf t c) n b = none ∧
          (ctxOf t c).concealing = true ∧ (ctxOf t c).pool = x.pool ∧ ∀ k, k ≠ c → ctxOf t k = ctxOf s k
      (∀ i, fits → u.head.irap = true → allocBuf (streamMarks s.tick u.head x) (poolSize s x) = some i →
        released (exec (.accessUnitComplete c n b e) s) i ∧
        (latestBind s r ≤ frameNow s r → released (exec (.decodeReleaseDeadline c n b e) s) i)) ∧
      (¬ fits → discarded (exec (.accessUnitComplete c n b e) s) ∧
        (latestBind s r ≤ frameNow s r → discarded (exec (.decodeReleaseDeadline c n b e) s)))) ∧
    (∀ n b r, frameOf s c n b = some r → r.decode = true → r.bound = true → r.incomplete = false →
      r.done.length ≠ (frameGeo s r).rows * (frameGeo s r).segs → r.tS ≤ frameNow s r →
      ∃ t, exec (.decodeAbandon c n b) s = .next t ∧ (∃ q ∈ t.camp.frames, isFrame c n b q = true ∧ q.incomplete = true) ∧
        (∀ i, (tget {} t.camp.spires i).bound ≠ some (c, n, b)) ∧ (ctxOf t c).concealing = true ∧
        (∀ k ∈ t.camp.ready, isFrame k.ctx k.frame k.bottom r = true → k.kind ≠ .dparse ∧ k.kind ≠ .dseg) ∧
        ∀ k, k ≠ c → ctxOf t k = ctxOf s k)
/-! ## Cupola and Lantern (spec/11) -/

/-- R304, R309, R316, R321, R326: the framed commands of a composition. A new composition holds its fields and no layer;
a change keeps its layers, and its output space waits for an IRAP while its encode context is open; a deleted one is gone and
no audio flow is bound to it; a video or graphic layer holds its fields and the others stay; mastering metadata is
stored whole. Completes: CONFIGURE_COMPOSITION, DELETE_COMPOSITION, CONFIGURE_VIDEO_LAYER, CONFIGURE_GRAPHIC_LAYER,
SET_MASTERING_METADATA. -/
def Obligations.CompositionCommands : Prop :=
  FramedTimed opConfigureComposition .configureComposition (fun c f s => composeState c.ctx f s) ∧
  Framed opDeleteComposition .deleteComposition (fun c _ s =>
    unbindComp c.ctx { s with cup := { s.cup with comps := tset none s.cup.comps c.ctx none } }) ∧
  Framed opConfigureVideoLayer .configureVideoLayer (fun c f s => layerState' c.ctx f s) ∧
  Framed opConfigureGraphicLayer .configureGraphicLayer graphicState ∧
  Framed opSetMasteringMetadata .setMasteringMetadata (fun c f s => modComp c.ctx (fun x => { x with mastering := f }) s) ∧
  (∀ (c : Nat) (f : Fields) (s : State),
    (compOf s c = none → s.keep.persist = [] → compOf (composeState c f s) c = some { f := f, space := fnat f 3 }) ∧
    (∀ x, compOf s c = some x → ∃ y, compOf (composeState c f s) c = some y ∧ y.f = f ∧ y.layers = x.layers ∧
      y.graphics = x.graphics ∧ y.items = x.items ∧ y.mastering = x.mastering ∧
      y.space = (if (ctxOf s c).st = .closed ∨ (ctxOf s c).decode then fnat f 3 else x.space)) ∧
    (s.keep.persist = [] → ∀ k, k ≠ c → compOf (composeState c f s) k = compOf s k)) ∧
  (∀ (c : Nat) (s : State), tablesOk s →
    let u := unbindComp c { s with cup := { s.cup with comps := tset none s.cup.comps c none } }
    compOf u c = none ∧ (∀ k, k ≠ c → compOf u k = compOf s k) ∧
      ∀ i x, iflowOf u i = some x → ∀ b, x.bind = some b → b.1 ≠ c) ∧
  (∀ (c : Nat) (f : Fields) (x : Comp) (s : State), compOf s c = some x →
    ∃ y l, compOf (layerState' c f s) c = some y ∧ tget none y.layers (fnat f 1) = some l ∧ l.f = f.drop 1 ∧
      (∀ i, i ≠ fnat f 1 → tget none y.layers i = tget none x.layers i) ∧ y.f = x.f ∧ y.graphics = x.graphics ∧
      y.items = x.items ∧ ∀ k, k ≠ c → compOf (layerState' c f s) k = compOf s k) ∧
  (∀ (c : Cmd) (f : Fields) (x : Comp) (s : State), compOf s c.ctx = some x →
    ∃ y, compOf (graphicState c f s) c.ctx = some y ∧
      (∃ g, tget none y.graphics (fnat f 1) = some g ∧ g.f = f.drop 1) ∧
      (∀ i, i ≠ fnat f 1 → tget none y.graphics i = tget none x.graphics i) ∧ y.layers = x.layers ∧ y.items = x.items)

/-- R319, R320, R342, R439, R461: the asset commands and the composition's status. A defined asset is not committed;
a chunk of a defined asset is written at its address and offset; a commit is made in the background on a check unit
that the firmware holds, and stands only when the content's CRC-32C is the one given; a freed asset is gone. Where an
asset lies is the model's (log entry 35), and the layout of the chunk (log entry 26). Completes: DEFINE_ASSET,
WRITE_ASSET_CHUNK, COMMIT_ASSET, FREE_ASSET, READ_COMPOSITION_STATUS. -/
def Obligations.AssetCommands : Prop :=
  ∀ (c : Cmd) (f : Fields) (cl : List Clamp) (s : State),
    (AcceptedNow opDefineAsset c f cl s → ∃ p u, Completes opDefineAsset c cl [natWord p, natWord (p / 2 ^ 32)] s u
      (exec (.defineAsset c) s) ∧
      (∃ a, assetOf u (fnat f 1) = some a ∧ a.kind = fnat f 2 ∧ a.crc = intWord (fld f 6) ∧ a.addr = p ∧
        a.size = assetBytes a ∧ a.committed = false) ∧
      u = { s with free := s.free + 1, cup := { s.cup with assets := tset none s.cup.assets (fnat f 1) (assetOf u (fnat f 1)) } }) ∧
    (∀ a, AcceptedNow opWriteAssetChunk c f cl s → assetOf s (fnat f 1) = some a →
      Completes opWriteAssetChunk c cl [] s
        (memWrite (a.addr + fnat f 2) ((ofWords (c.params.drop 3)).take (fnat f 3)) s) (exec (.writeAssetChunk c) s)) ∧
    (AcceptedNow opCommitAsset c f cl s → ∃ t n, exec (.commitAsset c) s = .next t ∧
      freeUnit s = some n ∧ t.cup = s.cup ∧ t.mem = s.mem ∧
      t.cmd.jobs = s.cmd.jobs ++ [{ id := s.cmd.nextId, opcode := 0x0622, cmd := c, f := f, clamps := cl }] ∧
      (chkOf t n).holder = .firmware ∧ (chkOf t n).client = 2 ∧ (chkOf t n).object = fnat f 1) ∧
    (∀ a, assetOf s (fnat f 1) = some a →
      let r := opCommitAsset.apply c f s
      (polyOf 1 (memRead s a.addr a.size) = a.crc → r.status = none ∧
        assetOf r.s (fnat f 1) = some { a with committed := true } ∧ r.s.mem = s.mem ∧
        ∀ i, i ≠ fnat f 1 → assetOf r.s i = assetOf s i) ∧
      (polyOf 1 (memRead s a.addr a.size) ≠ a.crc → r.status = some .refused ∧ r.s.cup = s.cup ∧ r.s.mem = s.mem)) ∧
    (AcceptedNow opFreeAsset c f cl s → Completes opFreeAsset c cl [] s
      { s with cup := { s.cup with assets := tset none s.cup.assets (fnat f 1) none } } (exec (.freeAsset c) s)) ∧
    (AcceptedNow opReadCompositionStatus c f cl s →
      (compOf s c.ctx = none →
        Completes opReadCompositionStatus c cl (List.replicate 13 0) s s (exec (.readCompositionStatus c) s)) ∧
      (∀ x, compOf s c.ctx = some x → ∃ w, w.length = 13 ∧
        w[0]? = some (natWord (2 ^ 24 + x.space * 2 ^ 20 + fnat x.f 2 * 2 ^ 19 + fnat x.f 7)) ∧
        Completes opReadCompositionStatus c cl w s s (exec (.readCompositionStatus c) s)))

/-- R330, R331, R335, R336: the Lantern commands. An image is defined uncommitted; a chunk is written to copy A; a commit
is made in the background and writes copy B from copy A with every tile's check; an item holds its fields, others
stay, and Keep's store holds its image exactly while its persistent field says so. The layout of the chunk and of the
status result are the model's (log entries 26 and 36). R332, R333, R336: a tile whose copy A fails and copy B passes
is rewritten from copy B and passes then; a scrub rewrites the failing copy of each tile from the other, and an image
with a tile of which both fail is DAMAGED; where every tile of both copies passes nothing changes. Completes:
CONFIGURE_LANTERN_ITEM, DEFINE_LANTERN_IMAGE, WRITE_LANTERN_IMAGE_CHUNK, COMMIT_LANTERN_IMAGE, READ_LANTERN_STATUS,
LANTERN_TILE_REPAIR, LANTERN_SCRUB. -/
def Obligations.LanternCommands : Prop :=
  (Framed opConfigureLanternItem .configureLanternItem (fun c f s => (opConfigureLanternItem.apply c f s).s) ∧
   (∀ (c : Cmd) (f : Fields) (x : Comp) (s : State), compOf s c.ctx = some x →
     let u := (opConfigureLanternItem.apply c f s).s
     (∃ y, compOf u c.ctx = some y ∧ (∃ l, tget none y.items (fnat f 1) = some l ∧ l.f = f.drop 1) ∧
       (∀ i, i ≠ fnat f 1 → tget none y.items i = tget none x.items i) ∧ y.layers = x.layers ∧ y.graphics = x.graphics) ∧
       u.cup.images = s.cup.images ∧
       (∀ m, imageOf s (fnat f 3) = some m →
         ((∃ p ∈ u.keep.persist, p.comp = c.ctx ∧ p.item = fnat f 1) ↔ fnat f 10 = 1)) ∧
       (∀ p, ¬ (p.comp = c.ctx ∧ p.item = fnat f 1) → (p ∈ u.keep.persist ↔ p ∈ s.keep.persist))) ∧
   ∀ (c : Cmd) (f : Fields) (cl : List Clamp) (s : State),
     (AcceptedNow opDefineLanternImage c f cl s →
       let m : LImage := { width := fnat f 2, height := fnat f 3, crc := intWord (fld f 4) }
       Completes opDefineLanternImage c cl [] s { s with cup := { s.cup with images := tset none s.cup.images (fnat f 1) (some m) } }
         (exec (.defineLanternImage c) s)) ∧
     (AcceptedNow opWriteLanternImageChunk c f cl s →
       let bytes := (ofWords (c.params.drop 3)).take (fnat f 3)
       Completes opWriteLanternImageChunk c cl [] s
       (modImage (fnat f 1) (fun m => { m with a := copyWrite m.a (fnat f 2) bytes, committed := false }) s)
       (exec (.writeLanternImageChunk c) s)) ∧
     (AcceptedNow opCommitLanternImage c f cl s → ∃ t, exec (.commitLanternImage c) s = .next t ∧
       t.cup = s.cup ∧ t.cmd.jobs = s.cmd.jobs ++ [{ id := s.cmd.nextId, opcode := 0x0A03, cmd := c, f := f, clamps := cl }]) ∧
     (∀ m, imageOf s (fnat f 1) = some m →
       let r := opCommitLanternImage.apply c f s
       (polyOf 1 (copyRead m.a 0 (m.width * m.height * 5)) = m.crc → r.status = none ∧
         imageOf r.s (fnat f 1) = some (commitImage m) ∧ ∀ k, k < m.tiles →
           tileOkA (commitImage m) k = true ∧ tileOkB (commitImage m) k = true) ∧
       (polyOf 1 (copyRead m.a 0 (m.width * m.height * 5)) ≠ m.crc → r.status = some .refused ∧ r.s.cup = s.cup)) ∧
     (AcceptedNow opReadLanternStatus c f cl s → ∃ w, Completes opReadLanternStatus c cl w s s (exec (.readLanternStatus c) s))) ∧
  ((∀ (i k : Nat) (m : LImage) (s : State), imageOf s i = some m → m.committed = true → k < m.tiles →
     tileOkA m k = false → tileOkB m k = true → Gives (modImage i (repairA k) s) (exec (.lanternTileRepair i k) s)) ∧
   (∀ (k : Nat) (m : LImage), k < m.tiles → m.crcA.length = m.tiles → tabWf 0#8 none m.a = true → tileOkB m k = true →
     tileOkA (repairA k m) k = true) ∧
   (∀ (i : Nat) (m : LImage) (s : State), s.cup.images = [(i, some m)] → m.committed = true → m.tiles = 1 →
     (tileOkA m 0 = true → tileOkB m 0 = true → Gives s (exec .lanternScrub s)) ∧
     (tileOkA m 0 = false → tileOkB m 0 = true →
       Gives (raise 6 1 (modImage i (repairA 0) (bump 0x60010 1 s))) (exec .lanternScrub s)) ∧
     (tileOkA m 0 = true → tileOkB m 0 = false →
       Gives (raise 6 1 (modImage i (repairB 0) (bump 0x60010 1 s))) (exec .lanternScrub s)) ∧
     (tileOkA m 0 = false → tileOkB m 0 = false →
       Gives (raise 6 1 (modImage i (fun m => { m with damaged := true }) (bump 0x60010 2 s))) (exec .lanternScrub s))) ∧
   (∀ s : State, (∀ i m, (i, some m) ∈ s.cup.images → m.committed = true →
       ∀ k, k < m.tiles → tileOkA m k = true ∧ tileOkB m k = true) →
     (∀ i m, (i, some m) ∈ s.cup.images → imageOf s i = some m) → Gives s (exec .lanternScrub s)))

/-- R306, R311, R312, R315, R325, R341: Cupola's events. A composed row that is written advances its composition's count
and the source rows of its context's picture, and every sample it wrote lies in 4 to 1,019; a completed frame of a
buffered source in use advances its ring; a direct line in its window is kept, for this frame or the next, and the
first one outside makes its layer late and raises LAYER_LATE. Completes: COMPOSED_ROW_WRITTEN, SOURCE_FRAME_COMPLETE,
DIRECT_LINE_ARRIVAL. -/
def Obligations.CompositionEvents : Prop :=
  ∀ (c : Nat) (x : Comp) (n : Nat) (s : State), tablesOk s → compOf s c = some x → x.cur = some n →
    let g := geoTb s (fnat x.f 1)
    (∀ r : RowIn, x.rows < g.rows →
      ∃ t y w, exec (.composedRowWritten c r) s = .next t ∧ compOf t c = some y ∧ y.rows = x.rows + 1 ∧ y.cur = some n ∧
        y.last = some w ∧ y.graphics = x.graphics ∧ y.items = x.items ∧
        (fnat x.f 7 = 0 → w.ys.length = r.lines.length ∧
          ∀ l ∈ w.ys ++ w.cbs ++ w.crs, ∀ v ∈ l, 4 ≤ v ∧ v ≤ 1019) ∧
        (∀ q ∈ t.camp.frames, isFrame c n false q = true → g.picOf x.rows < q.pics.length →
          g.inPic x.rows + 1 ≤ (picAt q (g.picOf x.rows)).srcRows) ∧
        t.camp.frames.length = s.camp.frames.length ∧ t.mem = s.mem ∧ t.cup.sources = s.cup.sources ∧
        (∀ k, k ≠ c → ctxOf t k = ctxOf s k) ∧ ∀ k, k ≠ c → compOf t k = compOf s k) ∧
    (∀ r : RowIn, g.rows ≤ x.rows → Gives s (exec (.composedRowWritten c r) s)) ∧
    (∀ id f r q, id ∈ ringSources s → sourceOpen s id = true → (0x1000 ≤ id → (laneOf s (sdiLane id)).trs = true) →
      (sourceShape s id = none ∨ sourceShape s id = some (f, r)) → tget none s.cup.sources id = some q →
      Gives { s with cup := { s.cup with
          sources := tset none s.cup.sources id (some (Source.mk f r (q.count + 1) s.tick none [])) } }
        (exec (.sourceFrameComplete id f r) s)) ∧
    (∀ id f r, id ∉ ringSources s → Gives s (exec (.sourceFrameComplete id f r) s)) ∧
    (∀ i k l, tget none x.layers i = some l → fnat l.f 1 = 1 → layerMode l = 1 → l.missed = none →
      fnat l.f 5 ≤ k → k ≤ lastLine l →
      let tb := fnat x.f 1
      let y := firstReach l k
      (inWindow s tb n y = true →
        Gives (setLayer c i { l with line := some k, lineFrame := n } s) (exec (.directLineArrival c i k) s)) ∧
      (inWindow s tb n y = false → inWindow s tb (n + 1) y = true →
        Gives (setLayer c i { l with line := some k, lineFrame := n + 1 } s) (exec (.directLineArrival c i k) s)) ∧
      (inWindow s tb n y = false → inWindow s tb (n + 1) y = false →
        ∃ t z l', exec (.directLineArrival c i k) s = .next t ∧ compOf t c = some z ∧ tget none z.layers i = some l' ∧
          l'.missed.isSome = true ∧ l'.run = l.run + 1 ∧ l'.f = l.f ∧ (l.run = 0 → bit (tget 0 t.irq 6).toNat 0 = true) ∧
          (∀ j, j ≠ i → tget none z.layers j = tget none x.layers j) ∧ t.ctxs = s.ctxs))

/-! ## Lanes (spec/12) -/

/-- R345, R350, R362 to R367: the lane commands, accepted, take effect at once. The reference is chosen; a layout or a
media lane's mode that changes is stored whole and every port of it starts from row 0, one that changes nothing starts
nothing, and the other lanes stay; taps keep R350's relations and wait for the next training where training is on; a
lane in PRBS or loopback leaves its port, whose bring-up starts again when it returns; a status read gives 9 words, of
which the measurements of the line are free (log entry 2). A lane command that closes a tile with running channels waits
for them (R451). Completes: SELECT_LANE_REFERENCE, CONFIGURE_TURRET_LAYOUT, CONFIGURE_MEDIA_LANE, SET_TRANSMIT_TAPS,
SET_POLARITY, PRBS_GENERATOR_CHECKER, LOOPBACK, READ_LANE_STATUS. -/
def Obligations.LaneCommands : Prop :=
  ∀ (c : Cmd) (f : Fields) (cl : List Clamp) (s : State), tablesOk s →
    (AcceptedNow opSelectLaneReference c f cl s → (fld f 1 = 0 ∨ fld f 1 = 1) ∧
      Completes opSelectLaneReference c cl [] s { s with lanes := { s.lanes with source := fnat f 1 } }
        (exec (.selectLaneReference c) s)) ∧
    (AcceptedNow opConfigureTurretLayout c f cl s → (fld f 1 = 0 ∨ fld f 1 = 1) ∧
      (slice f 1 6 = layoutFields s (fnat f 1) → Completes opConfigureTurretLayout c cl [] s s (exec (.configureTurretLayout c) s)) ∧
      (slice f 1 6 ≠ layoutFields s (fnat f 1) → ∃ u, Completes opConfigureTurretLayout c cl [] s u
        (exec (.configureTurretLayout c) s) ∧ layoutFields u (fnat f 1) = slice f 1 6 ∧
        (∀ k, k / 8 = fnat f 1 → portExists u k = true → (portOf u k).phase = .pll ∨ (portOf u k).phase = .off) ∧
        (∀ n, n / 8 ≠ fnat f 1 → laneOf u n = laneOf s n ∧ portOf u n = portOf s n) ∧ u.ctxs = s.ctxs ∧ u.cup = s.cup ∧ u.mem = s.mem)) ∧
    (AcceptedNow opConfigureMediaLane c f cl s → mediaPark f s = none →
      (mediaSame s f = true → Completes opConfigureMediaLane c cl [] s s (exec (.configureMediaLane c) s)) ∧
      (mediaSame s f = false → ∃ u, Completes opConfigureMediaLane c cl [] s u (exec (.configureMediaLane c) s) ∧
        (∀ n, n ∈ mediaLanes f → (laneOf u n).media = slice f 1 6 ∧ (laneOf u n).tx = false ∧ (laneOf u n).trs = false) ∧
        (∀ n, n ∉ mediaLanes f → laneOf u n = laneOf s n ∧ portOf u n = portOf s n) ∧
        u.ctxs = s.ctxs ∧ u.cup = s.cup ∧ u.flows.egress = s.flows.egress ∧ u.mem = s.mem)) ∧
    (∀ tile, AcceptedNow opConfigureMediaLane c f cl s → mediaPark f s = some tile →
      ∃ t j, exec (.configureMediaLane c) s = .next t ∧ t.lanes = { s.lanes with closing := s.lanes.closing ++ [(tile, s.tick, j)] } ∧
        j.opcode = 0x0303 ∧ j.cmd = c ∧ j.f = f ∧ (ringOf t (viaRing c.via)).blocked = some j.id) ∧
    (AcceptedNow opSetTransmitTaps c f cl s → tapsOk (slice f 1 4) = true ∧ 400 ≤ fld f 5 ∧ fld f 5 ≤ 1000 ∧ fld f 5 % 25 = 0 ∧
      Completes opSetTransmitTaps c cl [] s
        (if fnat f 1 < 16 ∧ layoutOf s (fnat f 1 / 8) ≠ 0 ∧ portTrains s (portKey s (fnat f 1)) = true then
          modLane (fnat f 1) (fun l => { l with stored := some (slice f 1 4) }) s
        else modLane (fnat f 1) (fun l => { l with taps := slice f 1 4, stored := none }) s) (exec (.setTransmitTaps c) s)) ∧
    (AcceptedNow opSetPolarity c f cl s → Completes opSetPolarity c cl [] s
      (modLane (fnat f 1) (fun l => { l with polTx := fnat f 2 = 1, polRx := fnat f 3 = 1 }) s) (exec (.setPolarity c) s)) ∧
    (AcceptedNow opPrbsGeneratorChecker c f cl s → ∃ u, Completes opPrbsGeneratorChecker c cl [] s u
      (exec (.prbsGeneratorChecker c) s) ∧ (laneOf u (fnat f 1)).prbs = fnat f 2 ∧ (laneOf u (fnat f 1)).prbsDir = fnat f 3 ∧
      (laneDiag (laneOf s (fnat f 1)) = false → fnat f 2 ≠ 0 → portExists s (portKey s (fnat f 1)) = true →
        (portOf u (portKey s (fnat f 1))).phase = .off) ∧
      (laneDiag (laneOf s (fnat f 1)) = true → fnat f 2 = 0 → (laneOf s (fnat f 1)).loop = 0 →
        portExists s (portKey s (fnat f 1)) = true →
        (portOf u (portKey s (fnat f 1))).phase = .pll ∨ (portOf u (portKey s (fnat f 1))).phase = .off)) ∧
    (AcceptedNow opLoopback c f cl s → ∃ u, Completes opLoopback c cl [] s u (exec (.loopback c) s) ∧
      (laneOf u (fnat f 1)).loop = fnat f 2 ∧ (laneOf u (fnat f 1)).media = (laneOf s (fnat f 1)).media ∧
      (laneDiag (laneOf s (fnat f 1)) = false → fnat f 2 ≠ 0 → portExists s (portKey s (fnat f 1)) = true →
        (portOf u (portKey s (fnat f 1))).phase = .off)) ∧
    (AcceptedNow opReadLaneStatus c f cl s → ∃ w, w.length = 9 ∧ w[0]? = some (laneStat s (fnat f 1)) ∧
      Completes opReadLaneStatus c cl w s { s with free := s.free + 5 } (exec (.readLaneStatus c) s))

/-- R350 to R352: a port's bring-up. Its synthesisers lock and its transmitters are enabled; it negotiates, trains and
locks as its layout's fields say; each step that fails leaves it waiting for its retry and counts its failed lanes;
the last lane to lock brings a port of one lane up and one of more to deskew, which differences up to 180 ns pass and
larger ones fail with DESKEW_FAIL. A coefficient request steps a tap within R350's relations and is answered "at
limit" otherwise. R345, R349, R353: losses. A lane's loss of signal, CDR, block or marker lock takes its port from up
to its 100 ms of relocking, with its fall counted and PORT_DOWN raised; the relock timeout starts the port from row 0;
an uncorrectable codeword is counted on the port's first lane and in its Turret's window; a selected LANE_REFCLK that
is lost moves the tiles to the TCXO, sets REF_LOST and starts every port again. What a lane's receiver found is
an operand: a lock or a loss is one only when the counts of R347, R349 and R352 bear it out. Completes: PLL_LOCK,
AUTONEG_COMPLETE, LINK_TRAINING_END, LINK_LOCK, DESKEW, PORT_RETRY, CDR_LOCK_TIMEOUT, SIGNAL_RETURN,
TRAINING_COEFF_REQUEST, LANE_LOSS, LANE_RELOCK_TIMEOUT, FEC_UNCORRECTABLE, REF_LOST, LANE_REFCLK_PRESENCE_CHANGE. -/
def Obligations.PortsComeUp : Prop :=
  (∀ (k : Nat) (s : State), tablesOk s → portExists s k = true →
     (∀ n ∈ portLanes s k, laneDiag (laneOf s n) = false) →
     let after : Phase := if portTrains s k then .training else .locking
     let puts (ph : Phase) (o : Host.Outcome State Fault Refusal) : Prop :=
       ∃ t, o = .next t ∧ (portOf t k).phase = ph ∧ (∀ j, j ≠ k → portOf t j = portOf s j) ∧
         (∀ n, n ∉ portLanes s k → laneOf t n = laneOf s n) ∧ t.ctxs = s.ctxs ∧ t.mem = s.mem ∧ t.cup = s.cup
     ((k < 16 ∨ 32 ≤ k ∨ fnat (laneOf s k).media 1 = 3) → (portOf s k).phase = .pll →
       puts (if portNegotiates s k then .autoneg else after) (exec (.pllLock k []) s) ∧
       (∀ t, exec (.pllLock k []) s = .next t → ∀ n ∈ portLanes s k,
         (laneOf t n).pll = true ∧ (laneOf t n).tx = !s.supply.squelched) ∧
       ∀ bad, (∃ n ∈ bad, n ∈ portLanes s k) → puts .wait (exec (.pllLock k bad) s)) ∧
     ((portOf s k).phase = .autoneg → puts after (exec (.autonegComplete k true) s) ∧
       puts .pll (exec (.autonegComplete k false) s)) ∧
     ((portOf s k).phase = .training → ∀ bad a b,
       ((∀ n ∈ portLanes s k, n ∉ bad) → puts .locking (exec (.linkTrainingEnd k bad a b) s)) ∧
       ((∃ n ∈ portLanes s k, n ∈ bad) → puts .wait (exec (.linkTrainingEnd k bad a b) s))) ∧
     (∀ n x, portKey s n = k → n ∈ portLanes s k → ((portOf s k).phase = .locking ∨ (portOf s k).phase = .relock) →
       (lockSeen s n x = false → Gives s (exec (.linkLock n x) s)) ∧ (lockSeen s n x = true →
       ((∀ m ∈ portLanes s k, m = n ∨ laneLocked s m = true) →
         puts (if 1 < (portLanes s k).length then .deskew else .up) (exec (.linkLock n x) s)) ∧
       ((∃ m ∈ portLanes s k, m ≠ n ∧ laneLocked s m = false) → puts (portOf s k).phase (exec (.linkLock n x) s)) ∧
       (∀ t, exec (.linkLock n x) s = .next t → laneLocked t n = true))) ∧
     (∀ l : List Nat, (portOf s k).phase = .deskew → l.length = (portLanes s k).length →
       ((∀ a ∈ l, l.foldl max 0 - a ≤ 180000) → puts .up (exec (.deskew k l) s)) ∧
       ((∃ a ∈ l, 180000 < l.foldl max 0 - a) →
         Gives (raise 7 2 (setPort k { portOf s k with deskewFail := true } s)) (exec (.deskew k l) s))) ∧
     ((portOf s k).phase = .wait → puts .pll (exec (.portRetry k) s)) ∧
     ((portOf s k).phase = .locking → puts .wait (exec (.cdrLockTimeout k) s)) ∧
     (∀ n, n < 32 → (laneOf s n).signal = false → portKey s n = k → (portOf s k).phase ≠ .wait →
       Gives (modLane n (fun l => { l with signal := true }) s) (exec (.signalReturn n) s)) ∧
     (∀ n, n < 32 → (laneOf s n).signal = false → portKey s n = k → n ∈ portLanes s k → (portOf s k).phase = .wait →
       (∀ m ∈ portLanes s k, m = n ∨ (laneOf s m).signal = true) → puts .pll (exec (.signalReturn n) s)) ∧
     (∀ n tap up, (laneOf s n).train = 1 → tap ≤ 2 →
       let new := fset (laneOf s n).taps (tap + 1) (fld (laneOf s n).taps (tap + 1) + if up then 1 else -1)
       (tapsOk new = true → Sends (.control n 8 0) s (modLane n (fun l => { l with taps := new }) s)
         (exec (.trainingCoeffRequest n tap up) s)) ∧
       (tapsOk new = false → Sends (.control n 8 1) s s (exec (.trainingCoeffRequest n tap up) s)))) ∧
  (∀ s : State, tablesOk s →
     (∀ n k, n < 32 → lossReal k = true → laneLocked (modLane n (loseLane k) s) n = false → (portOf s (portKey s n)).phase = .up →
       ∃ t, exec (.laneLoss n k) s = .next t ∧ (portOf t (portKey s n)).phase = .relock ∧ laneOf t n = loseLane k (laneOf s n) ∧
         bit (tget 0 t.irq 7).toNat 1 = true ∧ (∀ m, m ≠ n → laneOf t m = laneOf s m) ∧
         (∀ j, j ≠ portKey s n → portOf t j = portOf s j) ∧ t.ctxs = s.ctxs ∧ t.mem = s.mem) ∧
     (∀ n k, n < 32 → lossReal k = true → (portOf s (portKey s n)).phase ≠ .up → (portOf s (portKey s n)).phase ≠ .deskew →
       Gives (modLane n (loseLane k) s) (exec (.laneLoss n k) s)) ∧
     (∀ n k, lossReal k = false → Gives s (exec (.laneLoss n k) s)) ∧
     (∀ k, portExists s k = true → (∀ n ∈ portLanes s k, laneDiag (laneOf s n) = false) → (portOf s k).phase = .relock →
       ∃ t, exec (.laneRelockTimeout k) s = .next t ∧ (portOf t k).phase = .pll ∧
         (∀ n ∈ portLanes s k, laneOf t n = laneDown (laneOf s n)) ∧ (∀ n, n ∉ portLanes s k → laneOf t n = laneOf s n)) ∧
     (∀ n, portExists s (portKey s n) = true → portFec s (portKey s n) = true → (laneOf s n).am = true → portKey s n < 16 →
       let k := portKey s n
       ∀ e, (fecCorrects (portNrz s k) < e →
           Gives (modHealth (k / 8) (fun h => { h with fec := tmod 0 h.fec k (· + 1) }) (bump (laneCounter k 8) 1 s))
             (exec (.fecUncorrectable ⟨n, e⟩) s)) ∧
         (e ≤ fecCorrects (portNrz s k) → Gives s (exec (.fecUncorrectable ⟨n, e⟩) s))) ∧
     (s.lanes.source = 1 → s.lanes.refclk = false →
       ∃ t, exec .refLost s = .next t ∧ t.lanes.source = 0 ∧ t.lanes.refLost = true ∧ t.lanes.layoutA = s.lanes.layoutA ∧
         t.lanes.layoutB = s.lanes.layoutB ∧
         (∀ k, k < 32 → portExists s k = true → (portOf t k).phase = .pll ∨ (portOf t k).phase = .off) ∧
         (∀ n, (laneOf t n).media = (laneOf s n).media ∧ (laneOf t n).taps = (laneOf s n).taps) ∧ t.ctxs = s.ctxs ∧ t.mem = s.mem) ∧
     (s.lanes.source = 0 → Gives s (exec .refLost s)) ∧
     (∀ ppm, Gives { s with lanes := { s.lanes with refclk := decide (-100 ≤ ppm ∧ ppm ≤ 100) } }
       (exec (.laneRefclkPresenceChange ppm) s)))

/-- R355 to R358: SDI on media lane m. TRS lock, of two EAVs on a format that the lane's class carries, is kept with its
link; its loss, four EAVs missing, is counted and raises SDI_UNLOCK; a frame whose TRS lock held throughout completes
its source's ring frame with its good ancillary packets, the CRC and ancillary errors counted and its audio given to
the flow that takes it; a quad link's frame with more than 16 us of skew does not complete; an output sends the newest
composed frame whose instant has come, once, with its ancillary packets and audio. Completes: SDI_TRS_LOCK,
SDI_TRS_LOSS, SDI_FRAME_COMPLETE, SDI_OUTPUT_FRAME. -/
def Obligations.SdiLanes : Prop :=
  ∀ (m : Nat) (s : State), m < 16 →
    let l := laneOf s (16 + m)
    (∀ f r k e, sdiIn s (16 + m) = true → classCarries (fnat l.media 2) f r = true →
      (2 ≤ e → Gives (modLane (16 + m) (fun l => { l with
        signal := true, cdr := true, trs := true, format := f, rate := r, link := k % 4, whole := false }) s)
        (exec (.sdiTrsLock m f r ⟨k, e⟩) s)) ∧
      (e < 2 → Gives s (exec (.sdiTrsLock m f r ⟨k, e⟩) s))) ∧
    (∀ e, 4 ≤ e → l.trs = true → Gives (raise 7 3 (bump (laneCounter (16 + m) 0x28) 1
      (modLane (16 + m) (fun l => { l with trs := false, whole := false, format := 0xF, rate := 0, link := 0 }) s)))
      (exec (.sdiTrsLoss ⟨m, e⟩) s)) ∧
    (∀ e, (e < 4 ∨ l.trs = false) → Gives s (exec (.sdiTrsLoss ⟨m, e⟩) s)) ∧
    (∀ skew lines anc audio, quadOf s m = false → sdiIn s (16 + m) = true → l.trs = true →
      let u := modLane (16 + m) (fun l => { l with whole := true })
        (embedAudio m audio (bump (laneCounter (16 + m) 0x18) (lines.filter lineBad).length
          (bump (laneCounter (16 + m) 0x1C) (anc.filter ancBad).length s)))
      Gives (if l.whole then completeSource (0x1000 + m) l.format l.rate none (anc.filter fun p => !ancBad p) u else u)
        (exec (.sdiFrameComplete m skew lines ⟨anc, audio⟩) s)) ∧
    (∀ skew lines anc audio, quadOf s m = true → m % 4 = 0 →
      (∀ j, j < 4 → sdiIn s (16 + m + j) = true ∧ (laneOf s (16 + m + j)).trs = true) →
      16000 < skew → ∃ t, exec (.sdiFrameComplete m skew lines ⟨anc, audio⟩) s = .next t ∧ t.cup = s.cup ∧ t.ctxs = s.ctxs ∧
        (∀ j, j < 4 → (laneOf t (16 + m + j)).whole = true)) ∧
    (∀ x, compOf s (fnat l.media 3) = some x → fnat l.media 1 = 2 → laneDiag l = false → l.tx = true → quadOf s m = false →
      let n := sdiFrameNow s x (fnat l.media 4)
      let t := tbD s (fnat x.f 1)
      let o := (x.outs.find? fun o => o.frame = n.toNat).getD { frame := n.toNat, input := some n.toNat, anc := [] }
      let e := embedded (fnat l.media 3) x n.toNat 16 s
      (0 ≤ n → l.sent ≠ some n.toNat → t.stretch = 0 →
        Sends (.sdiFrame m (o.input.getD n.toNat) 0
            [Config.payloadId (fnat l.media 2) t.format t.rate x.space 0] (timeCodeOf e.2 (fnat x.f 1) n.toNat false) o.anc e.1) s
          (modLane (16 + m) (fun l => { l with sent := some n.toNat }) e.2) (exec (.sdiOutputFrame m) s)) ∧
      (l.sent = some n.toNat → Gives s (exec (.sdiOutputFrame m) s)))

/-! ## Flows and paths (spec/13) -/

/-- R374, R377, R380, R385, R386, R401, R402: the flow commands. A configured flow holds its fields with counts that begin
at 0, an ingress flow keeps its place in the stream while its key stays, an egress flow keeps the units of the same
source; a deleted one is gone, and of an egress flow only the unit in flight goes on; a binding is stored; the status
read returns a flow's counts. Others stay. Completes: CONFIGURE_INGRESS_FLOW, DELETE_INGRESS_FLOW,
CONFIGURE_EGRESS_FLOW, DELETE_EGRESS_FLOW, BIND_AUDIO_FLOW, READ_FLOW_STATUS. -/
def Obligations.FlowCommands : Prop :=
  Framed opConfigureIngressFlow .configureIngressFlow (fun _ f s => ingressState f s) ∧
  Framed opDeleteIngressFlow .deleteIngressFlow
    (fun _ f s => { s with flows := { s.flows with ingress := tset none s.flows.ingress (fnat f 1) none } }) ∧
  Framed opConfigureEgressFlow .configureEgressFlow (fun _ f s => egressState f s) ∧
  Framed opDeleteEgressFlow .deleteEgressFlow (fun c f s => (opDeleteEgressFlow.apply c f s).s) ∧
  Framed opBindAudioFlow .bindAudioFlow (fun _ f s => bindState f s) ∧
  (∀ (f : Fields) (s : State),
    (∃ x, iflowOf (ingressState f s) (fnat f 1) = some x ∧ x.f = f.drop 1 ∧ x.counts = List.replicate 13 0 ∧
      (audioType (f.drop 1) = false → x.bind = none) ∧
      (∀ o, iflowOf s (fnat f 1) = some o → flowKeys o.f = flowKeys (f.drop 1) → fnat o.f 2 = fnat (f.drop 1) 2 →
        x.held = o.held ∧ x.released = o.released ∧ x.video = o.video) ∧
      (∀ o, iflowOf s (fnat f 1) = some o → flowKeys o.f ≠ flowKeys (f.drop 1) → x.started = false ∧ x.video = [])) ∧
    (∀ i, i ≠ fnat f 1 → iflowOf (ingressState f s) i = iflowOf s i)) ∧
  (∀ (f : Fields) (s : State),
    (∃ q, eflowOf (egressState f s) (fnat f 1) = some q ∧ q.f = f.drop 1 ∧ q.counts = List.replicate 6 0 ∧
      (eflowOf s (fnat f 1) = none → q.units = [] ∧ q.started = false)) ∧
    (∀ i, i ≠ fnat f 1 → eflowOf (egressState f s) i = eflowOf s i)) ∧
  (∀ (c : Cmd) (f : Fields) (s : State), tablesOk s →
    let u := (opDeleteEgressFlow.apply c f s).s
    eflowOf u (fnat f 1) = none ∧ (∀ i, i ≠ fnat f 1 → eflowOf u i = eflowOf s i) ∧
      (∀ q v l, eflowOf s (fnat f 1) = some q → q.units = v :: l → v.next ≠ 0 →
        ∃ z, tget none u.flows.tails (fnat f 1) = some z ∧ z.units = [v] ∧ z.f = q.f)) ∧
  (∀ (f : Fields) (x : IFlow) (s : State), iflowOf s (fnat f 1) = some x →
    iflowOf (bindState f s) (fnat f 1) =
      some { x with bind := if fnat f 2 = 0xFFFF then none else some (fnat f 2, fnat f 3, fnat f 4) }) ∧
  ∀ (c : Cmd) (f : Fields) (cl : List Clamp) (s : State), AcceptedNow opReadFlowStatus c f cl s →
    (∀ x, fnat f 2 = 0 → iflowOf s (fnat f 1) = some x → ∃ w, w.length = x.counts.length + 1 ∧
      Completes opReadFlowStatus c cl w s s (exec (.readFlowStatus c) s)) ∧
    (∀ q, fnat f 2 ≠ 0 → eflowOf s (fnat f 1) = some q → ∃ w, w.length = 6 ∧
      w[0]? = some (natWord (min 0xFFFFFFFF (q.counts.getD 0 0))) ∧
      Completes opReadFlowStatus c cl w s s (exec (.readFlowStatus c) s))

/-- R371, R373, R376, R384, R392, R393, R396, R399: the Turret commands. Each stores what it names: a port's identity, a
Turret's health parameters, the interlock's, a policer's rate and burst with its bucket cut to the burst, an overhead and
colour table, a queue's quantum and enable. A host packet waits in the named queue of each port, or for its launch
time. The status and membership reads change nothing; the membership table's layout is the model's (log entry 36).
Completes: PORT_IDENTITY, PATH_HEALTH_PARAMETERS, INTERLOCK_PARAMETERS, PRIVILEGED_POLICER,
TURRET_OVERHEAD_COLOUR_TABLE, DRR_QUEUE, SEND_HOST_PACKET, READ_TURRET_STATUS, READ_MEMBERSHIP_TABLE. -/
def Obligations.TurretCommands : Prop :=
  ∀ (c : Cmd) (f : Fields) (cl : List Clamp) (s : State),
    (AcceptedNow opPortIdentity c f cl s → (0 ≤ fld f 1 ∧ fld f 1 ≤ 31) ∧ Completes opPortIdentity c cl [] s
      { s with flows := { s.flows with idents := tset none s.flows.idents (fnat f 1) (some (f.drop 1)) } }
      (exec (.portIdentity c) s)) ∧
    (AcceptedNow opPathHealthParameters c f cl s → 1 ≤ fld f 3 ∧ fld f 3 ≤ 1000 ∧
      Completes opPathHealthParameters c cl [] s (judgeSentinels (modHealth (fnat f 1) (fun h => { h with f := f.drop 1 }) s))
        (exec (.pathHealthParameters c) s)) ∧
    (AcceptedNow opInterlockParameters c f cl s → 1 ≤ fld f 2 ∧ fld f 2 ≤ 600 ∧
      Completes opInterlockParameters c cl [] s { s with flows := { s.flows with lock := f } } (exec (.interlockParameters c) s)) ∧
    (AcceptedNow opPrivilegedPolicer c f cl s → 64 ≤ fld f 2 ∧ fld f 2 ≤ 100000 ∧ 1600 ≤ fld f 3 ∧ fld f 3 ≤ 1048576 ∧
      ∃ x, Completes opPrivilegedPolicer c cl [] s (setPolicer (fnat f 1) x s) (exec (.privilegedPolicer c) s) ∧
        x.rate = fnat f 2 ∧ x.burst = fnat f 3 ∧ x.bucket ≤ fnat f 3 * byteUnits ∧ x.bucket ≤ (policerNow s (fnat f 1)).bucket ∧
        x.tick = s.tick) ∧
    (AcceptedNow opTurretOverheadColourTable c f cl s → Completes opTurretOverheadColourTable c cl [] s
      (if fnat f 1 = 0 then { s with flows := { s.flows with overA := f.drop 1 } }
        else { s with flows := { s.flows with overB := f.drop 1 } }) (exec (.turretOverheadColourTable c) s)) ∧
    (AcceptedNow opDrrQueue c f cl s → 16 ≤ fld f 2 ∧ fld f 2 ≤ topQueue (fnat f 1) ∧ 64 ≤ fld f 3 ∧
      Completes opDrrQueue c cl [] s (setDrr (fnat f 1) (fnat f 2)
        { drrOf s (fnat f 1) (fnat f 2) with quantum := fnat f 3, enable := decide (fnat f 4 = 1) } s) (exec (.drrQueue c) s)) ∧
    (AcceptedNow opSendHostPacket c f cl s → fld f 4 = 0 →
      let ports := targetPorts s (hostTarget f) (fnat f 2)
      ∃ u, Completes opSendHostPacket c cl [] s u (exec (.sendHostPacket c) s) ∧
        (∀ p ∈ ports, ∃ x, (drrOf u p (fnat f 3)).pkts = (drrOf s p (fnat f 3)).pkts ++ [x] ∧ x.what = .hostPacket p (fnat f 7) ∧
          x.len = countedLen s p (fnat f 8 + 4)) ∧
        u = { s with flows := { s.flows with drr := u.flows.drr } }) ∧
    (AcceptedNow opSendHostPacket c f cl s → fld f 4 = 1 → 0 ≤ diff32 (fld f 5) (clockNs s) →
      diff32 (fld f 5) (clockNs s) ≤ 2000000000 →
      let add := (targetPorts s (hostTarget f) (fnat f 2)).map fun p => HostTimed.mk p (natWord (fnat f 5)) (fnat f 7)
        (decide (fnat f 6 = 1)) (countedLen s p (fnat f 8 + 4))
      Completes opSendHostPacket c cl [] s { s with flows := { s.flows with timed := s.flows.timed ++ add } }
        (exec (.sendHostPacket c) s)) ∧
    (AcceptedNow opReadTurretStatus c f cl s → ∃ w, w.length = 6 ∧ w[0]? = some (turInterlock s) ∧ w[1]? = some (turHealth s 0) ∧
      w[2]? = some (turHealth s 1) ∧ Completes opReadTurretStatus c cl w s s (exec (.readTurretStatus c) s)) ∧
    (AcceptedNow opReadMembershipTable c f cl s → ∃ w,
      Completes opReadMembershipTable c cl w s s (exec (.readMembershipTable c) s))

/-- R372, R375, R376, R379, R381, R383, R395: a frame arrives on a port that is up, or nothing happens. One that the port
does not accept is counted; one that no flow matches is counted; one that its privileged policer has no room for is
dropped, counted and raises POLICED; a neighbour request for the port's own address is answered, and a command datagram
goes to the command processor. A media frame counts as arrived on its port; in an ordered flow a packet already
delivered is counted as a duplicate. A video frame whose skew limit has passed is complete. The delivery loop of an
ordered flow never goes back, and leaves no packet that is next. Completes: FRAME_RECEIVED, VIDEO_FRAME_SKEW_TIMEOUT,
MERGE_GAP_TIMEOUT. -/
def Obligations.FramesArrive : Prop :=
  (∀ (r : RxFrame) (s : State),
    (portUp s r.port = false → Gives s (exec (.frameReceived r) s)) ∧
    (r.port < 16 → portUp s r.port = true → accepts s r = false →
      Gives (bump (0x80108 + 0x100 * (r.port / 8)) 1 s) (exec (.frameReceived r) s)) ∧
    (r.port < 16 → portUp s r.port = true → accepts s r = true → r.cls = .media → matchFlow s r = none →
      Gives (bump (0x80104 + 0x100 * (r.port / 8)) 1 (noteMember r s)) (exec (.frameReceived r) s)) ∧
    (∀ p, r.port < 33 → portUp s r.port = true → accepts s r = true → policerOf r.port (classOf s r) = some p →
      let x := policerNow s p
      let need := countedLen s r.port r.len * byteUnits
      (x.bucket < need → Gives (raise 9 2 (bump (0x90100 + 4 * p) 1 (setPolicer p x s))) (exec (.frameReceived r) s)) ∧
      (need ≤ x.bucket → r.cls = .neighbour → r.answer = false → ownAddress s r.port r.v6 r.dst = true →
        Sends (.control r.port 6 r.src) s (setPolicer p { x with bucket := x.bucket - need } s) (exec (.frameReceived r) s)) ∧
      (∀ d, need ≤ x.bucket → classOf s r = .command → r.datagram = some d →
        exec (.frameReceived r) s =
          .next (settle s (takeCommand d (setPolicer p { x with bucket := x.bucket - need } s))))) ∧
    (∀ i x, r.port < 33 → portUp s r.port = true → accepts s r = true → r.cls = .media → matchFlow s r = some (i, x) →
      tablesOk s → fnat x.f 27 = 0 → r.malformed = false →
      ∃ t y, exec (.frameReceived r) s = .next t ∧ iflowOf t i = some y ∧ y.f = x.f ∧ r.port ∈ y.ports ∧
        (portPath r.port = 0 → y.lastA = some s.tick) ∧ (portPath r.port = 1 → y.lastB = some s.tick) ∧
        (fnat x.f 2 ≠ 0 → x.started = true → extendSeq x.top r.seq ≤ x.released →
          y.counts = x.counts.modify 2 (fun k => min 0xFFFFFFFF (k + 1)) ∧ y.held = x.held ∧ y.released = x.released) ∧
        (∀ j, j ≠ i → iflowOf t j = iflowOf s j) ∧ t.flows.egress = s.flows.egress ∧ t.ctxs = s.ctxs ∧ t.mem = s.mem)) ∧
  (∀ (i : Nat) (x : IFlow) (v : RxVideo) (l : List RxVideo) (s : State), iflowOf s i = some x → fnat x.f 2 = 0 → fnat x.f 3 = 0 →
    x.video = v :: l → v.complete = false → (∃ m, v.marker = some m ∧ m.2 + ticksUs (skewOf s x.f) ≤ s.tick) →
    ∃ t y, exec (.videoFrameSkewTimeout i) s = .next t ∧ iflowOf t i = some y ∧ y.video = { v with complete := true } :: l ∧
      y.f = x.f ∧ (∀ j, j ≠ i → iflowOf t j = iflowOf s j) ∧ t.flows.egress = s.flows.egress ∧ t.mem = s.mem) ∧
  (∀ (i : Nat) (x : IFlow) (s : State), iflowOf s i = some x → (∀ h ∈ x.held, x.released < h.1) →
    ∃ t y, exec (.mergeGapTimeout i) s = .next t ∧ iflowOf t i = some y ∧ x.released ≤ y.released ∧
      (∀ h ∈ y.held, h ∈ x.held ∧ y.released + 1 < h.1) ∧ y.video = x.video ∧
      (∀ j, j ≠ i → iflowOf t j = iflowOf s j) ∧ t.ctxs = s.ctxs ∧ t.mem = s.mem)

/-- R374, R387, R388, R391 to R395, R398: what leaves. The packet of a coded unit leaves at its launch and not before,
when its wire is free and no packet is before it, with the flow's sequence number and the unit's time stamp; a flow
disabled at a launch sends nothing of that unit; a unit begun goes on. A timed host packet leaves when its time has come
and its wire is free. A port's scheduler sends the head of the queue under way while its deficit lasts, else adds the
quantum of the next queue, and only a packet that ends before the next launch; an empty queue keeps no deficit. A
subscriber's events wait in the queue of its number (log entry 58), and each takes its sequence number and loss count as
it leaves. Reports are repeated once, queries are answered, in the version of an older querier, and resolved neighbours
are asked for again. Completes: PACKET_LAUNCH, QUEUED_PACKET_SEND, MEMBERSHIP_REPORT_REPEAT,
MEMBERSHIP_QUERY_RESPONSE, ARP_REFRESH. -/
def Obligations.PacketsLeave : Prop :=
  (∀ (i : Nat) (lens : List Nat) (q : EFlow) (u : EgUnit) (l : List EgUnit) (s : State), tablesOk s →
    tget none s.flows.tails i = none → eflowOf s i = some q → fnat q.f 2 = 1 → q.units = u :: l →
    let now := heldNs s (sourceTb s q.f)
    let ports (f : Fields) := targetPorts s (fnat f 3) (fnat f 4)
    let free (f : Fields) : Prop := fnat f 25 = 0 ∧ ports f ≠ [] ∧
      ∀ p ∈ ports f, resolved s p (decide (fnat f 6 = 1)) (destOn f p) = true
    (u.next = 0 → u.window = 0 → fnat q.f 1 = 1 → now < u.launch → Gives s (exec (.packetLaunch (.flow i lens)) s)) ∧
    (u.next = 0 → u.window = 0 → u.launch ≤ now → fnat q.f 1 = 0 → (∀ v ∈ l, v.next = 0) →
      Gives (setEflow i (some { q with units := l }) s) (exec (.packetLaunch (.flow i lens)) s)) ∧
    (u.next = 0 → u.window = 0 → u.launch ≤ now → fnat q.f 1 = 1 → q.started = true → u.failed = [] → free q.f →
      mayStart s i { start := true, left := max u.launch q.freeAt - now } (ports q.f) (lens.headD 64) = true →
      ∃ t q', exec (.packetLaunch (.flow i lens)) s = .next t ∧
        Sent (some (.packet i (pathCode (ports q.f)) (lens.headD 64) q.seq u.stamp (decide (lens.length ≤ 1)) q.f
          (.coded u.nals 0))) s t ∧
        eflowOf t i = some q' ∧ q'.f = q.f ∧ q'.seq = (q.seq + 1) % 65536 ∧ (∀ j, j ≠ i → eflowOf t j = eflowOf s j) ∧
        (lens.length ≤ 1 → q'.units = l) ∧ t.ctxs = s.ctxs ∧ t.mem = s.mem) ∧
    (u.next ≠ 0 → u.next ∉ u.failed → fnat u.f 2 = 1 → free u.f →
      mayStart s i { start := false, left := packetDue s u - now } (ports u.f) (u.lens.getD u.next 64) = true →
      let last := decide (u.lens.length ≤ u.next + 1)
      ∃ t q', exec (.packetLaunch (.flow i lens)) s = .next t ∧
        Sent (some (.packet i (pathCode (ports u.f)) (u.lens.getD u.next 64) q.seq u.stamp last u.f
          (.coded u.nals u.next))) s t ∧
        eflowOf t i = some q' ∧ q'.units = (if last then l else { u with next := u.next + 1 } :: l))) ∧
  (∀ s : State,
    (∀ x, timedDue s = some x → hostMayStart s x = true → x.stamp = false → Sends (.hostPacket x.port x.tag) s
      (takeWire x.port x.len { s with flows := { s.flows with timed := s.flows.timed.erase x } })
      (exec (.packetLaunch .host) s)) ∧
    (∀ x, timedDue s = some x → hostMayStart s x = false → Gives s (exec (.packetLaunch .host) s)) ∧
    (timedDue s = none → Gives s (exec (.packetLaunch .host) s)) ∧
    (∀ x, timedDue s = some x → x ∈ s.flows.timed ∧ timedLeft s x ≤ 0)) ∧
  (∀ (p k : Nat) (sub : Sub) (e : Event) (l : List (Nat × Event)) (s : State), portUp s p = true → k < 16 →
    (∀ x ∈ s.flows.drr, ∀ y ∈ x.2.pkts, y.excl = false) → tget none s.cmd.subs k = some sub → sub.queue = (p, e) :: l →
    busyQueues s p = [k] → tget 0 s.flows.visit p ≠ k + 1 →
    eventLen s p sub e ≤ (drrOf s p k).deficit + (drrOf s p k).quantum → queueGuard s p (eventLen s p sub e) = true →
    ∃ t, exec (.queuedPacketSend p) s = .next t ∧
      Sent (some (.event k 0 sub.seq sub.lost e (eventWire sub.seq sub.lost e))) s t ∧
      t.flows.egress = s.flows.egress ∧ t.ctxs = s.ctxs) ∧
  (∀ (p k : Nat) (h : QPkt) (l : List QPkt) (s : State), tablesOk s → portUp s p = true → 16 ≤ k → k < 1024 →
    (∀ e ∈ s.flows.drr, ∀ x ∈ e.2.pkts, x.excl = false) → (drrOf s p k).enable = true → (drrOf s p k).pkts = h :: l →
    let goes (d : Nat) : Prop := ∃ t, exec (.queuedPacketSend p) s = .next t ∧ Sent (some h.what) s t ∧
      (drrOf t p k).pkts = l ∧ (drrOf t p k).deficit = (if l = [] then 0 else d - h.len) ∧
      (drrOf t p k).quantum = (drrOf s p k).quantum ∧ t.flows.egress = s.flows.egress ∧ t.ctxs = s.ctxs
    (queueGuard s p h.len = true → tget 0 s.flows.visit p = k + 1 → h.len ≤ (drrOf s p k).deficit →
      goes (drrOf s p k).deficit) ∧
    (queueGuard s p h.len = true → busyQueues s p = [k] →
      (tget 0 s.flows.visit p ≠ k + 1 ∨ (drrOf s p k).deficit < h.len) →
      h.len ≤ (drrOf s p k).deficit + (drrOf s p k).quantum → goes ((drrOf s p k).deficit + (drrOf s p k).quantum)) ∧
    (queueGuard s p h.len = false → busyQueues s p = [k] → Gives s (exec (.queuedPacketSend p) s))) ∧
  (∀ s : State,
    (∃ t, exec .membershipReportRepeat s = .next t ∧ Leaves s t ∧ ∀ m ∈ s.flows.reports, ∀ p ∈ pathPorts s m.1,
      tget 0 s.flows.older p = 0 → Sent (some (.member p (if m ∈ s.flows.members then 3 else 2) 0 m.2.1 m.2.2)) s t) ∧
    (∀ p g o, portUp s p = true → ∃ t, exec (.membershipQueryResponse p ⟨g, o⟩) s = .next t ∧
      Leaves { s with flows := { s.flows with older := tset 0 s.flows.older p o } } t ∧
      ∀ m ∈ s.flows.members, m.1 = portPath p → (g = 0 ∨ m.2.1 = g) → tabWf 0 none s.flows.older = true →
        Sent (some (.member p 4 o m.2.1 (if o = 0 then m.2.2 else 0))) s t) ∧
    (∃ t, exec .arpRefresh s = .next t ∧ Leaves s t ∧ ∀ e ∈ s.flows.neigh, portUp s e.1 = true →
      Sent (some (.control e.1 5 e.2)) s t))

/-- R396 to R400: path health. A 10 ms window that ends judges the FEC condition of the ports that carry and begins anew; a
sentinel timeout judges the sentinels; once its conditions have held for 100 ms a Turret is GOOD again with cause 5 of
R400 and the interlock follows. The interlock's rows in their order: PATH_FORCE_IN, a command's force, a BAD path with a
GOOD other, and the primary that has been GOOD for the hold-off; a row that selects the other Turret counts the switch
and raises PATH_SWITCH. Completes: FEC_WINDOW_END, SENTINEL_TIMEOUT, HEALTH_SETTLED, HOLDOFF_EXPIRY. -/
def Obligations.PathHealth : Prop :=
  ∀ s : State,
    (∀ t corrected prbs, t < 2 →
      let h := healthOf s t
      let bad := (List.range 8).any fun l => carries s (8 * t + l) && decide (fnat h.f 1 < tget 0 h.fec (8 * t + l))
      Gives (modHealth t (fun h => { h with fecFail := bad, fec := [] }) (countWindow corrected prbs s))
        (exec (.fecWindowEnd ⟨t, corrected, prbs⟩) s)) ∧
    (∀ t i : Nat, t < 2 → (∃ v ∈ slice (healthOf s t).f 2 8, v = (i : Int)) →
      Gives (judgeSentinels s) (exec (.sentinelTimeout t i) s)) ∧
    (∀ t k, t < 2 → (healthOf s t).good = false → portsFail (judgeSentinels s) t = false →
      healthHolds (judgeSentinels s) t = true → (healthOf s t).since = some k → k + 62500000 ≤ s.tick →
      let u := modHealth t (fun h => { h with good := true, goodSince := s.tick }) (judgeSentinels s)
      exec (.healthSettled t) s = .next (settle s (interlock (pathEvent t 5 u))) ∧
        Gives u (exec (.healthSettled t) s)) ∧
    (∀ t, (healthOf s t).since = none → Gives (judgeSentinels s) (exec (.healthSettled t) s)) ∧
    exec .holdoffExpiry s = .next (settle s (interlock s)) ∧
    (∀ b cause, s.dev.state ≠ .boot → s.dev.state ≠ .off → interlockRow s = some (b, cause) → b ≠ s.flows.selB →
      (interlock s).flows.selB = b ∧ (interlock s).flows.lastCause = cause ∧ bit (tget 0 (interlock s).irq 8).toNat 0 = true ∧
        tget 0 (interlock s).counters 0x80004 = min 0xFFFFFFFF (tget 0 s.counters 0x80004 + 1)) ∧
    (s.pins.pathForce = true → interlockRow s = some (true, 3)) ∧
    (s.pins.pathForce = false → fnat s.flows.lock 3 = 1 → interlockRow s = some (false, 4)) ∧
    (s.pins.pathForce = false → fnat s.flows.lock 3 = 2 → interlockRow s = some (true, 4)) ∧
    (s.pins.pathForce = false → fnat s.flows.lock 3 = 0 → (healthOf s (b2n s.flows.selB)).good = false →
      (healthOf s (1 - b2n s.flows.selB)).good = true → interlockRow s = some (!s.flows.selB, 1)) ∧
    (s.pins.pathForce = false → fnat s.flows.lock 3 = 0 → (healthOf s (b2n s.flows.selB)).good = true →
      (b2n s.flows.selB = fnat s.flows.lock 1 ∨ (healthOf s (fnat s.flows.lock 1)).good = false ∨
        s.tick < (healthOf s (fnat s.flows.lock 1)).goodSince + ticksUs (fnat s.flows.lock 2 * 1000000)) →
      interlockRow s = none)

/-! ## Memory (spec/14) -/

/-- R408, R412, R424, R425, R429, R435, R436: the memory commands. Policy, a port's latency target and the BAR2 base are
stored; the row-disturbance threshold waits for its window. A set point asked for while a pass gathers is answered
DEFERRED; otherwise the request follows the selector and the profile, and under the ladder's hold nothing is asked. A
retrain works in the background, and takes its channel out of the ladder when it is done. A port whose engine the
variant lacks is NO_RESOURCE (R5). The status is 28 words. Completes: MEMORY_POLICY, PORT_LATENCY_TARGET,
ROW_DISTURBANCE_SETTINGS, SET_POINT, RETRAIN_CHANNEL, BAR2_APERTURE, READ_MEMORY_STATUS. -/
def Obligations.MemoryCommands : Prop :=
  ∀ (c : Cmd) (f : Fields) (cl : List Clamp) (s : State),
    (AcceptedNow opMemoryPolicy c f cl s → 1 ≤ fld f 3 ∧ fld f 3 ≤ 168 ∧
      Completes opMemoryPolicy c cl [] s (modMem (fun m => { m with policy := f }) s) (exec (.memoryPolicy c) s)) ∧
    (AcceptedNow opPortLatencyTarget c f cl s → 0 ≤ fld f 1 ∧ fld f 1 ≤ 33 ∧ portPresent s (fnat f 1) = true ∧ 100 ≤ fld f 2 ∧ fld f 2 ≤ 65535 ∧
      Completes opPortLatencyTarget c cl [] s
        (modMem (fun m => { m with targets := tset none m.targets (fnat f 1) (some (fnat f 2)) }) s) (exec (.portLatencyTarget c) s)) ∧
    (AcceptedNow opRowDisturbanceSettings c f cl s → 500 ≤ fld f 1 ∧ fld f 1 ≤ 32767 ∧
      Completes opRowDisturbanceSettings c cl [] s
        (modMem (fun m => { m with rhNext := fld f 1, rh := fset m.rh 2 (fld f 2) }) s) (exec (.rowDisturbanceSettings c) s)) ∧
    (AcceptedNow opSetPoint c f cl s →
      let asked := modMem (fun m => { m with selector := fnat f 1 }) s
      let d := wantedSetpoint asked
      (fnat f 1 = 1 → d = 0) ∧ (fnat f 1 = 2 → d = 1) ∧ (fnat f 1 = 0 → d = (if s.watch.profile = 2 then 1 else 0)) ∧
      (s.mem.ladderHold = true → Completes opSetPoint c cl [] s asked (exec (.setPoint c) s)) ∧
      (s.mem.ladderHold = false → (s.mem.engine = .idle ∨ s.mem.engine = .gather ∧ d = s.mem.setpoint) →
        Completes opSetPoint c cl [] s (modMem (fun m => { m with request := if d = m.setpoint then none else some d }) asked)
          (exec (.setPoint c) s)) ∧
      (s.mem.ladderHold = false → (s.mem.engine = .switch ∨ s.mem.engine = .check) →
        Completes opSetPoint c cl [] s (modMem (fun m => { m with request := some d }) asked) (exec (.setPoint c) s)) ∧
      (s.mem.ladderHold = false → s.mem.engine = .gather → d ≠ s.mem.setpoint → cl = [] →
        ∃ t, exec (.setPoint c) s = .next t ∧ t.mem = { s.mem with selector := fnat f 1, request := some d } ∧
          Sent (replyOut c (replyOf 0x0704 c .deferred [] none [])) s t)) ∧
    (AcceptedNow opRetrainChannel c f cl s → ∃ t, exec (.retrainChannel c) s = .next t ∧ t.mem = s.mem ∧
      t.cmd.jobs = s.cmd.jobs ++ [{ id := s.cmd.nextId, opcode := 0x0705, cmd := c, f := f, clamps := cl }]) ∧
    (∀ k, k = fnat f 1 → k < 8 → tablesOk s → let u := (opRetrainChannel.apply c f s).s
      u.mem.degraded = s.mem.degraded.filter (· ≠ k) ∧ u.mem.raised = s.mem.raised.filter (· ≠ k) ∧
      (tget {} u.mem.chans k).step = 0 ∧ (tget {} u.mem.chans k).passTick = s.tick ∧
      (tget {} u.mem.chans k).ageHigh = s.tick ∧ (tget {} u.mem.chans k).ageLow = s.tick ∧
      (u.mem.degraded = [] → u.mem.ladderHold = false ∧ u.mem.setpoint = wantedSetpoint s ∧ u.mem.request = none) ∧
      (u.mem.degraded ≠ [] → u.mem.setpoint = s.mem.setpoint ∧ u.mem.ladderHold = s.mem.ladderHold) ∧
      u.mem.dram = s.mem.dram ∧ u.ctxs = s.ctxs) ∧
    (AcceptedNow opBar2Aperture c f cl s →
      Completes opBar2Aperture c cl [] s (modMem (fun m => { m with bar2 := fnat f 1 }) s) (exec (.bar2Aperture c) s)) ∧
    (AcceptedNow opReadMemoryStatus c f cl s → ∃ w, w.length = 28 ∧ w[0]? = some (memStat s) ∧ w[25]? = some (ueInfo s) ∧
      w[26]? = some (natWord s.mem.ueAddr) ∧ Completes opReadMemoryStatus c cl w s s (exec (.readMemoryStatus c) s))

/-- R329, R407, R408, R411, R413, R415, R420, R430 to R433, R437: a request at a DRAM port in service waits, burst by burst,
at its subchannels. A burst that finds its subchannel free and its bank ready, with no refresh overdue, is served in its
own command slot: it wakes its rank; it writes exactly the bytes it gives, none in the Lantern store, whose breach is
counted unless the firmware's port wrote; a corrected error is counted for its rank, and an uncorrectable burst is held
as failed and latched first. A read of a bank that a refresh holds, and a request that a throttle keeps from its row, go
on waiting and change no memory; while the set points switch every burst waits. Whatever is served, no byte outside the
request changes. A scrub of an idle slot finds the same errors and counts its burst; one that finds no such slot does
nothing. BAR2 writes below the reserved region alone, counts what is discarded once for the Lantern store and once for
the rest, and reads zero in it. Completes: MEMORY_REQUEST, PATROL_SCRUB, BAR2_WRITE, BAR2_READ. -/
def Obligations.MemoryAccesses : Prop :=
  (∀ (q : MemReq) (n : Nat) (s : State), tablesOk s → Memory.wf s.mem.dram = true → n = (q.write.map List.length).getD q.len →
    memUp s = true → q.port < 34 → q.addr + n ≤ dramBytes s →
    (s.mem.engine = .switch → ∃ t, exec (.memoryRequest q) s = .next t ∧ t.mem.dram = s.mem.dram ∧ t.mem.banks = s.mem.banks ∧
      ∀ r, (subAt t r).queue = (subAt s r).queue ++
        ((bursts q).filter fun x => rankOf x.addr = r).map fun x => { req := x, came := s.tick }) ∧
    ((∀ r, (subAt s r).queue = []) → ∃ t, exec (.memoryRequest q) s = .next t ∧
      (q.write = none → ∀ a, memByte t a = memByte s a) ∧
      ∀ a, ¬ (q.addr ≤ a ∧ a < q.addr + n) → memByte t a = memByte s a)) ∧
  (∀ (q : MemReq) (s : State), (memUp s = false ∨ 34 ≤ q.port ∨ dramBytes s < q.addr + (q.write.map List.length).getD q.len) →
    Gives s (exec (.memoryRequest q) s)) ∧
  (∀ (q : MemReq) (n : Nat) (s : State), tablesOk s → Memory.wf s.mem.dram = true → memServes s = true → q.port < 34 →
    n = (q.write.map List.length).getD q.len → 0 < n → q.addr % 64 + n ≤ 64 → q.addr + n ≤ dramBytes s →
    (subAt s (rankOf q.addr)).queue = [] → (∀ b, b < 32 → (bankAt s (rankOf q.addr) b).postponed = 0) →
    let r := rankOf q.addr
    let k := bankAt s r (bankOf q.addr)
    let held : Prop := (q.write = none ∧ s.tick < k.held) ∨
      (k.row ≠ some (rowOf q.addr) ∧ throttled s q.port r (bankOf q.addr) = true)
    (held → ∃ t, exec (.memoryRequest q) s = .next t ∧ t.mem.dram = s.mem.dram ∧ t.mem.banks = s.mem.banks ∧
      (subAt t r).queue.map (·.req) = bursts q ∧ t.mem.bad = s.mem.bad ∧ t.ctxs = s.ctxs ∧ t.camp = s.camp) ∧
    (¬ held → ∃ t, exec (.memoryRequest q) s = .next t ∧ (subAt t r).queue = [] ∧
      (q.write = none → ∀ a, memByte t a = memByte s a) ∧
      (∀ l, q.write = some l → inLantern s q.addr = false → ∀ a, memByte t a =
        if q.addr ≤ a ∧ a < q.addr + l.length then l.getD (a - q.addr) 0 else memByte s a) ∧
      (∀ l, q.write = some l → inLantern s q.addr = true → (∀ a, memByte t a = memByte s a) ∧
        (q.port ≠ 32 → bit (tget 0 t.irq 6).toNat 3 = true ∧ (q.failed = false →
          tget 0 t.counters 0x60014 = min (counterMax 0x60014 * counterUnit 0x60014) (tget 0 s.counters 0x60014 + 1)))) ∧
      (r % 2 = 0 → (tget {} t.mem.chans (r / 2)).pd0 = false) ∧ (r % 2 = 1 → (tget {} t.mem.chans (r / 2)).pd1 = false) ∧
      (∀ k, k = rankCounter r 0 → q.corrected = true → q.failed = false → (q.write.isSome = true ∨ q.addr / 64 * 64 ∉ s.mem.bad) →
        tget 0 t.counters k = min (counterMax k * counterUnit k) (tget 0 s.counters k + 1)) ∧
      (q.failed = true → q.write = none → q.addr / 64 * 64 ∉ s.mem.bad →
        q.addr / 64 * 64 ∈ t.mem.bad ∧ (s.mem.ueValid = false → t.mem.ueValid = true ∧ t.mem.ueAddr = q.addr ∧
          t.mem.ueOwner = q.owner ∧ t.mem.uePort = q.port ∧ t.mem.ueScrub = false) ∧
        (s.mem.ueValid = true → t.mem.ueAddr = s.mem.ueAddr ∧ t.mem.ueMore = min 0xFF (s.mem.ueMore + 1))) ∧
      (q.failed = false → (q.write.isSome = true ∨ q.addr / 64 * 64 ∉ s.mem.bad) →
        t.mem.ueValid = s.mem.ueValid ∧ (∀ b ∈ t.mem.bad, b ∈ s.mem.bad) ∧ t.ctxs = s.ctxs ∧ t.keep = s.keep ∧
        t.cup = s.cup ∧ t.camp = s.camp) ∧
      t.lanes = s.lanes ∧ t.mem.setpoint = s.mem.setpoint ∧ t.mem.targets = s.mem.targets)) ∧
  (∀ (q : MemReq) (s : State), memServes s = true → q.addr / 64 * 64 + 64 ≤ dramBytes s →
    let r := rankOf q.addr
    let a := q.addr / 64 * 64
    let slot : Prop := pick s r = none ∨ (scrubBehind s r = true ∧ 255 ≤ (subAt s r).slots)
    (¬ slot → Gives s (exec (.patrolScrub q) s)) ∧
    (slot → q.corrected = false → q.failed = false → a ∉ s.mem.bad → Gives (noteScrub a s) (exec (.patrolScrub q) s)) ∧
    (slot → q.failed = true → a ∉ s.mem.bad → s.mem.ueValid = false →
      ∃ t, exec (.patrolScrub q) s = .next t ∧ a ∈ t.mem.bad ∧ t.mem.ueScrub = true ∧ t.mem.uePort = 0xFF ∧
        t.mem.ueAddr = a ∧ t.mem.dram = s.mem.dram)) ∧
  ∀ (o n : Nat) (l : List Byte) (s : State), barUp s = true → o + l.length ≤ 2 ^ 32 → o + n ≤ 2 ^ 32 →
    let a := s.mem.bar2 * 2 ^ 30 + o
    let k := reservedBase s - a
    let w := memStore a (l.take k) s
    let lost (lantern : Bool) : Prop := ∃ i, k ≤ i ∧ i < l.length ∧ inLantern s (a + i) = lantern
    (¬ lost true → ¬ lost false → Gives w (exec (.bar2Write o l) s)) ∧
    (lost true → ¬ lost false → Gives (raise 6 3 (bump 0x60014 1 w)) (exec (.bar2Write o l) s)) ∧
    (¬ lost true → lost false → Gives (bump 0xA0020 1 w) (exec (.bar2Write o l) s)) ∧
    (lost true → lost false → Gives (bump 0xA0020 1 (raise 6 3 (bump 0x60014 1 w))) (exec (.bar2Write o l) s)) ∧
    Sends (.bar2 o ((List.range n).map fun i => bar2Byte s (a + i))
      ((burstsOf a n).any fun b => decide (b < reservedBase s) && decide (b ∈ s.mem.bad))) s s (exec (.bar2Read o n) s) ∧
    (∀ i, reservedBase s ≤ i → bar2Byte s i = 0) ∧ (∀ i, i < reservedBase s → bar2Byte s i = memByte s i)

/-- R409 to R411, R419 to R421: banks. A refresh closes its bank and holds it for 130 ns (82 ticks), at most four of them
postponed while an urgency-3 request waits on the bank; a page whose idle timer has expired closes, another stays open;
a rank with no request pending, every bank closed and its timer expired powers down, unless power-down is off or a
request arrives; the row-disturbance window's end clears every count, ends the throttles of the window before, and
brings in the new threshold. Completes: REFRESH_DUE, PAGE_IDLE_CLOSE, POWER_DOWN_ENTRY, RH_WINDOW_END. -/
def Obligations.BankEvents : Prop :=
  ∀ (r b : Nat) (s : State), r < 16 → b < 32 →
    (memServes s = true → urgentOn s r b = true → (bankAt s r b).postponed < 4 →
      Gives (modBank r b (fun k => { k with postponed := k.postponed + 1 }) s) (exec (.refreshDue r (b / 4) (b % 4)) s)) ∧
    (memServes s = true → (urgentOn s r b = false ∨ 4 ≤ (bankAt s r b).postponed) →
      Gives (modBank r b (fun k => { k with
        row := none, hits := 0, raa := k.raa - Config.raaimt, used := s.tick, held := s.tick + 82 }) s)
        (exec (.refreshDue r (b / 4) (b % 4)) s)) ∧
    (memServes s = false → Gives s (exec (.refreshDue r (b / 4) (b % 4)) s)) ∧
    (clocksSince s (bankAt s r b).used (fnat s.mem.policy 1) = true →
      Gives (modBank r b (fun k => { k with row := none, hits := 0, used := if k.row.isSome then s.tick else k.used }) s)
        (exec (.pageIdleClose r b) s)) ∧
    (clocksSince s (bankAt s r b).used (fnat s.mem.policy 1) = false → Gives s (exec (.pageIdleClose r b) s)) ∧
    (memServes s = true → (subAt s r).queue = [] → (∀ k, k < 32 → (bankAt s r k).row = none ∧
        clocksSince s (bankAt s r k).used (fnat s.mem.policy 2) = true) → fnat s.mem.policy 2 ≠ 0 →
      Gives (modChan (r / 2) (fun c => if r % 2 = 0 then { c with pd0 := true } else { c with pd1 := true }) s)
        (exec (.powerDownEntry r false) s)) ∧
    (∀ u, (u = true ∨ (subAt s r).queue ≠ [] ∨ (∃ k, k < 32 ∧ (bankAt s r k).row ≠ none) ∨ fnat s.mem.policy 2 = 0) →
      Gives s (exec (.powerDownEntry r u) s)) ∧
    ∃ t, exec .rhWindowEnd s = .next t ∧ t.mem.throttles = (s.mem.throttles.filter (·.more)).map (fun t => { t with more := false }) ∧
      (tablesOk s → ∀ k, (tget {} t.mem.banks k).rows = [] ∧ (tget {} t.mem.banks k).row = (tget {} s.mem.banks k).row) ∧
      t.mem.rh = fset s.mem.rh 1 s.mem.rhNext ∧ t.mem.dram = s.mem.dram ∧ t.ctxs = s.ctxs

/-- R422 to R427: the training engine. A pass gathers on an idle engine, of a channel that is not degraded, and commits
at the set point in effect or starts the channel's ladder: the channel is degraded at step 1, and the other set point is
asked for. A switch starts on request while no Spire is forced, changes the set point, and is checked. A check that
passes ends a ladder at step 2 with the set point held; one that fails on the ladder's channel is step 3: it is scrubbed more
often and the set point goes back. Completes: TRAINING_PASS_START, TRAINING_PASS_COMMIT, TRAIN_FAIL,
SETPOINT_SWITCH_START, SETPOINT_SWITCH_COMPLETE, SETPOINT_CHECK_COMPLETE. -/
def Obligations.TrainingEngine : Prop :=
  ∀ (c sub : Nat) (g : Int) (s : State),
    (memServes s = true → c < 8 → s.mem.engine = .idle → c ∉ s.mem.degraded →
      ∀ h, (h = true ∨ s.dev.state ≠ .train) →
      Gives (modChan c (fun x => { x with gather := true }) (modMem (fun m => { m with engine := .gather }) s))
        (exec (.trainingPassStart c h) s)) ∧
    (s.mem.engine = .gather → (tget {} s.mem.chans c).gather = true →
      ∃ t, exec (.trainingPassCommit c) s = .next t ∧ t.mem.engine = .idle ∧ t.mem.setpoint = s.mem.setpoint ∧
        (tablesOk s → tget {} t.mem.chans c = committed s.mem.setpoint s.tick (tget {} s.mem.chans c)) ∧
        t.mem.dram = s.mem.dram ∧ t.mem.degraded = s.mem.degraded ∧ t.ctxs = s.ctxs) ∧
    (s.mem.engine = .gather → (tget {} s.mem.chans c).gather = true → c ∉ s.mem.degraded →
      ∃ t, exec (.trainFail c sub g) s = .next t ∧ t.mem.engine = .idle ∧ c ∈ t.mem.degraded ∧ (tget {} t.mem.chans c).step = 1 ∧
        bit (tget 0 t.irq 10).toNat 2 = true ∧ t.mem.setpoint = s.mem.setpoint ∧ t.mem.dram = s.mem.dram ∧
        (s.mem.ladder = none → s.mem.ladderHold = false → t.mem.ladder = some c ∧ t.mem.request = some (1 - s.mem.setpoint)) ∧
        (s.mem.ladderHold = true → c ∈ t.mem.raised)) ∧
    (s.mem.engine = .idle → s.mem.request = some (1 - s.mem.setpoint) → anyForced s = false →
      Gives (modMem (fun m => { m with engine := .switch, request := none }) s) (exec .setpointSwitchStart s)) ∧
    (anyForced s = true → Gives s (exec .setpointSwitchStart s)) ∧
    (s.mem.engine = .switch → Gives (bump 0xA0018 1 (modMem (fun m => { m with engine := .check, setpoint := 1 - m.setpoint }) s))
      (exec .setpointSwitchComplete s)) ∧
    (s.mem.engine = .check → s.mem.ladder = none → Gives (engineIdle s) (exec (.setpointCheckComplete 0 sub g) s)) ∧
    (s.mem.engine = .check → s.mem.ladder = some c →
      ∃ t, exec (.setpointCheckComplete 0 sub g) s = .next t ∧ t.mem.engine = .idle ∧ t.mem.ladder = none ∧ t.mem.ladderHold = true ∧
        (tget {} t.mem.chans c).step = 2 ∧ t.mem.setpoint = s.mem.setpoint ∧ t.mem.degraded = s.mem.degraded) ∧
    (∀ failed, s.mem.engine = .check → s.mem.ladder = some c → c < 8 → bit failed c = true → c ∈ s.mem.degraded →
      ∃ t, exec (.setpointCheckComplete failed sub g) s = .next t ∧ t.mem.engine = .idle ∧ t.mem.ladderHold = true ∧
        (tget {} t.mem.chans c).step = 3 ∧ c ∈ t.mem.raised ∧ t.mem.request = some (1 - s.mem.setpoint))

/-! ## DMA and check units (spec/15) -/

/-- R438, R439, R443 to R445, R453, R456, R459, R460, R463, R464: the DMA and check commands. A configured channel is the
host's, with its fields, WAITING or IDLE; others stay. Start triggers the named channels alone; pause, resume and abort
do as R463 says; a released channel or unit is free. A unit opened stands at its initial value; one closed gives its
result, its byte count and whether the compare failed, and a mismatch is told. Completes: CONFIGURE_DMA_CHANNEL,
START_CHANNELS, CHANNEL_CONTROL, RELEASE_DMA_CHANNEL, ENGINE_SETTINGS, OPEN_CHECK_UNIT, CLOSE_CHECK_UNIT,
RELEASE_CHECK_UNIT, READ_DMA_AND_CHECK_STATUS. -/
def Obligations.DmaCommands : Prop :=
  ∀ (c : Cmd) (f : Fields) (cl : List Clamp) (s : State),
    let n := fnat f 1
    let x := dmaOf s n
    let u := chkOf s n
    (AcceptedNow opConfigureDmaChannel c f cl s → 0 ≤ fld f 1 ∧ fld f 1 ≤ 63 ∧ fld f 9 ≤ fld f 8 ∧
      ∃ z, Completes opConfigureDmaChannel c cl [] s z (exec (.configureDmaChannel c) s) ∧
        dmaOf z n = { holder := .host, f := f.drop 1, state := if fnat f 2 = 1 then .waiting else .idle, timer := 8 * s.tick } ∧
        (∀ k, k ≠ n → dmaOf z k = dmaOf s k) ∧ (fnat f 15 < 16 → (chkOf z (fnat f 15)).client = 1 ∧ (chkOf z (fnat f 15)).object = n) ∧
        z = { s with dma := z.dma }) ∧
    (AcceptedNow opStartChannels c f cl s → ∃ z, Completes opStartChannels c cl [] s z (exec (.startChannels c) s) ∧
      (∀ k, k ∉ startMask f → dmaOf z k = dmaOf s k) ∧
      (∀ k, k ∈ startMask f → (dmaOf s k).f ≠ [] → fnat (dmaOf s k).f 2 = 0 → (dmaOf s k).state = .waiting →
        (dmaOf z k).inRun = true ∧ (dmaOf z k).f = (dmaOf s k).f ∧
        ((dmaOf s k).paused = false → downDomain s (dmaOf s k) = none → (dmaOf z k).state = .running)) ∧
      (∀ k, k ∈ startMask f → fnat (dmaOf s k).f 2 ≠ 0 → dmaOf z k = dmaOf s k) ∧ z.mem = s.mem ∧ z.ctxs = s.ctxs) ∧
    (AcceptedNow opChannelControl c f cl s →
      (fld f 2 = 0 → Completes opChannelControl c cl [] s (setDma n { x with state := .paused, paused := true } s)
        (exec (.channelControl c) s)) ∧
      (fld f 2 = 1 → x.inRun = true → downDomain s x = none → ∃ z, Completes opChannelControl c cl [] s z
        (exec (.channelControl c) s) ∧ (dmaOf z n).state = .running ∧ (dmaOf z n).paused = false ∧ (dmaOf z n).f = x.f ∧
        ∀ k, k ≠ n → dmaOf z k = dmaOf s k) ∧
      (fld f 2 = 1 → x.inRun = false → x.trig = false → ∃ z, Completes opChannelControl c cl [] s z
        (exec (.channelControl c) s) ∧ (dmaOf z n).state = .waiting ∧ (dmaOf z n).paused = false ∧ (dmaOf z n).f = x.f) ∧
      (fld f 2 = 2 → ∃ z, Completes opChannelControl c cl [] s z (exec (.channelControl c) s) ∧
        (tablesOk s → dmaOf z n = { holder := x.holder, f := x.f, timer := x.timer }) ∧
        (x.inRun = true → fnat x.f 14 < 16 → tablesOk s → chkOf z (fnat x.f 14) = loadUnit (chkOf s (fnat x.f 14))) ∧
        z.mem = s.mem)) ∧
    (AcceptedNow opReleaseDmaChannel c f cl s → ∃ z, Completes opReleaseDmaChannel c cl [] s z (exec (.releaseDmaChannel c) s) ∧
      (tablesOk s → dmaOf z n = {} ∧ ∀ k, k ≠ n → dmaOf z k = dmaOf s k) ∧ z.mem = s.mem ∧ z.counters = s.counters) ∧
    (AcceptedNow opEngineSettings c f cl s → 10 ≤ fld f 1 ∧ fld f 1 ≤ 10000 ∧
      Completes opEngineSettings c cl [] s { s with dma := { s.dma with drain := fnat f 1 } } (exec (.engineSettings c) s)) ∧
    (AcceptedNow opOpenCheckUnit c f cl s → ∃ v, v.holder = .host ∧ v.opened = true ∧ v.poly = fnat f 2 ∧ v.bytes = 0 ∧
      v.crc = natWord (polyInit (fnat f 2)) ∧ v.queue = [] ∧
      Completes opOpenCheckUnit c cl [] s (setChk n v s) (exec (.openCheckUnit c) s)) ∧
    (AcceptedNow opCloseCheckUnit c f cl s →
      let d := drainAll u
      let r := polyResult d.poly d.crc.toNat
      let done := setChk n { loadUnit d with result := r } s
      ((fnat f 2 ≠ 1 ∨ r = natWord (fnat f 3)) → Completes opCloseCheckUnit c cl [r, natWord d.bytes, natWord (d.bytes / 2 ^ 32), 0] s
        done (exec (.closeCheckUnit c) s)) ∧
      (fnat f 2 = 1 → r ≠ natWord (fnat f 3) → Completes opCloseCheckUnit c cl [r, natWord d.bytes, natWord (d.bytes / 2 ^ 32), 1] s
        (raise 12 0 (bump 0xC0000 1 done)) (exec (.closeCheckUnit c) s))) ∧
    (AcceptedNow opReleaseCheckUnit c f cl s → Completes opReleaseCheckUnit c cl [] s
      (setChk n { result := u.result, overrun := u.overrun, widthErr := u.widthErr } s) (exec (.releaseCheckUnit c) s)) ∧
    (AcceptedNow opReadDmaAndCheckStatus c f cl s → ∃ w, w.length = 96 ∧ (∀ k, k < 64 → w[k]? = some (dmaStat s k)) ∧
      Completes opReadDmaAndCheckStatus c cl w s s (exec (.readDmaAndCheckStatus c) s))

/-- R444, R445, R451 to R454: triggers and domains. A trigger of a channel's own kind starts a waiting channel, is held once
by a busy one, and a further one is dropped and counted, a raster event's with its unit; a timer's comes when its
period, in eighths of a tick, has passed since the last, and not before. Host memory lost
pauses the running channels with a host element; its return, or a tile's, makes those go on that no command paused. A
tile's drain waits for each affected channel; its timeout refuses the lane command, which changes nothing. Completes:
DMA_TRIGGER, DMA_TIMER_EXPIRY, HOST_MEMORY_LOST, DMA_DOMAIN_RESUME, DRAIN_TIMEOUT, DMA_DRAIN_PAUSE. -/
def Obligations.DmaEvents : Prop :=
  ∀ (c : Nat) (s : State),
    let x := dmaOf s c
    let starts (o : Host.Outcome State Fault Refusal) : Prop :=
      ∃ t, o = .next t ∧ (dmaOf t c).inRun = true ∧ (dmaOf t c).f = x.f ∧ (∀ k, k ≠ c → dmaOf t k = dmaOf s k) ∧
        (dmaOf t c).state = (if x.paused || (downDomain s x).isSome then .paused else .running) ∧ t.mem = s.mem ∧ t.ctxs = s.ctxs
    (∀ kind, x.f ≠ [] → fnat x.f 2 = kind → kind ≤ 3 →
      (x.state = .waiting → starts (exec (.dmaTrigger c kind) s)) ∧
      ((x.state = .running ∨ x.state = .paused) → x.trig = false →
        Gives (setDma c { x with trig := true } s) (exec (.dmaTrigger c kind) s)) ∧
      ((x.state = .running ∨ x.state = .paused) → x.trig = true → kind ≠ 1 →
        Gives (bump 0xB0008 1 s) (exec (.dmaTrigger c kind) s)) ∧
      ((x.state = .running ∨ x.state = .paused) → x.trig = true → kind = 1 → ∃ u,
        Gives (raise 2 4 (bump 0x20200 1 { s with bel := { s.bel with lastMiss := u } })) (exec (.dmaTrigger c kind) s)) ∧
      ((x.state = .idle ∨ x.state = .done ∨ x.state = .error) → Gives s (exec (.dmaTrigger c kind) s))) ∧
    (∀ kind, (x.f = [] ∨ fnat x.f 2 ≠ kind) → Gives s (exec (.dmaTrigger c kind) s)) ∧
    (x.f ≠ [] → fnat x.f 2 = 2 → x.timer + fnat x.f 3 * 5 ≤ 8 * s.tick → x.state = .waiting →
      starts (exec (.dmaTimerExpiry c) s) ∧
      ∀ t, exec (.dmaTimerExpiry c) s = .next t → (dmaOf t c).timer = x.timer + fnat x.f 3 * 5) ∧
    (8 * s.tick < x.timer + fnat x.f 3 * 5 → Gives s (exec (.dmaTimerExpiry c) s)) ∧
    (∃ t, exec .hostMemoryLost s = .next t ∧ t.pins.hostUp = false ∧ t.mem = s.mem ∧ t.ctxs = s.ctxs ∧
      (tablesOk s → ∀ k, dmaOf t k = if (dmaOf s k).state = .running ∧ (dmaOf s k).hostRun = true
        then { dmaOf s k with state := .paused, domain := some 4 } else dmaOf s k)) ∧
    (s.pins.pcieReady = true → ∃ t, exec (.dmaDomainResume 4) s = .next t ∧ t.pins.hostUp = true ∧
      (∀ k, k < 64 → (dmaOf s k).domain = some 4 → (dmaOf s k).paused = false →
        downDomain { s with pins := { s.pins with hostUp := true } } (dmaOf s k) = none → (dmaOf t k).state = .running) ∧
      (∀ k, (dmaOf s k).domain ≠ some 4 → dmaOf t k = dmaOf s k) ∧ t.mem = s.mem) ∧
    (∀ d, d = 2 ∨ d = 3 → tileUp s d = true → x.domain = some d → x.paused = false → downDomain s x = none → c < 64 →
      ∃ t, exec (.dmaDomainResume d) s = .next t ∧ (dmaOf t c).state = .running ∧ t.mem = s.mem ∧ t.lanes = s.lanes) ∧
    (∀ tile tick j, parked s tile = some (tick, j) →
      (elapsed s tick s.dma.drain = false → Gives s (exec (.drainTimeout tile) s)) ∧
      (elapsed s tick s.dma.drain = true → (∃ k, k < 64 ∧ drainAffects s tile k = true) →
        ringHolds j s = true → ∃ t, exec (.drainTimeout tile) s = .next t ∧
          t.lanes = { s.lanes with closing := s.lanes.closing.filter (fun e => !(e.1 = tile && e.2.2.id = j.id)) } ∧
          bit (tget 0 t.irq 11).toNat 1 = true ∧ Sent (replyOut j.cmd (replyOf j.opcode j.cmd .refused [] none [])) s t) ∧
      (elapsed s tick s.dma.drain = true → (∀ k, k < 64 → drainAffects s tile k = false) →
        exec (.drainTimeout tile) s = .next (settle s (finishDrain tile j s))) ∧
      (s.lanes.closing.length = 1 → drainAffects s tile c = true → (∃ k, k < 64 ∧ k ≠ c ∧ drainAffects s tile k = true) →
        Gives (pauseForTile tile c s) (exec (.dmaDrainPause c) s)) ∧
      (s.lanes.closing.length = 1 → drainAffects s tile c = true → (∀ k, k < 64 → k ≠ c → drainAffects s tile k = false) →
        exec (.dmaDrainPause c) s = .next (settle s (finishDrain tile j (pauseForTile tile c s))))) ∧
    (s.lanes.closing = [] → Gives s (exec (.dmaDrainPause c) s))

/-- R440 to R442, R446: a run of a plain copy, of one source element in module DRAM to one destination element of the same
length there, with no error and no check unit, leaves at the destination the bytes that the source held, and every
other byte as it was; the bytes move at the row that ends the run (log entry 40). An element of the list that cannot
be read ends it in ERROR with code 2, and no byte moves. Without a run in progress nothing happens. R448: mode 1 and
mode 2 undo each other: samples interleaved, made planar and interleaved again are the same bytes, for every count of
channels, block and width. Completes: DMA_RUN_END. -/
def Obligations.DmaCopies : Prop :=
  (∀ (c i j : Nat) (l : List Nat) (e d : Elem) (q : DmaIn) (s : State), Memory.wf s.mem.dram = true →
     let x := dmaOf s c
     (x.state ≠ .running → Gives s (exec (.dmaRunEnd c q) s)) ∧
     (x.state = .running → runSources s x = i :: l → q.badList = some i →
       ∃ t, exec (.dmaRunEnd c q) s = .next t ∧ (dmaOf t c).state = .error ∧ (dmaOf t c).error = 2 ∧ t.mem = s.mem ∧
         bit (tget 0 t.irq 11).toNat 0 = true) ∧
     (x.state = .running → fnat x.f 10 = 0 → 16 ≤ fnat x.f 14 → x.destOff = 0 → q.badList = none → q.badData = [] →
       runSources s x = [i] → elemAt s x i = e → e.space = 0 → elemBad s x e = false →
       (indexesFrom x x.dest).find? (fun k => (elemAt s x k).dest) = some j → elemAt s x j = d → d.space = 0 → d.len = e.len → elemBad s x d = false →
       inLantern s d.addr = false → listFails s x q i = false → listFails s x q j = false →
       (∀ b ∈ burstsOf e.addr e.len, b ∉ s.mem.bad) →
       ∃ t, exec (.dmaRunEnd c q) s = .next t ∧
         (∀ a, memByte t a = if d.addr ≤ a ∧ a < d.addr + d.len then memByte s (e.addr + (a - d.addr)) else memByte s a) ∧
         (dmaOf t c).error = 0 ∧ (dmaOf t c).f = x.f ∧ t.ctxs = s.ctxs ∧ t.keep = s.keep ∧ t.dma.units = s.dma.units)) ∧
  (∀ (count n block : Nat) (l : List Byte), 1 ≤ n → n ≤ 4 → l.length = count * block * n →
     toInterleaved count n block (toPlanar count n block l) = l)

/-- R457, R458: the host's feed registers. A write to an open unit of the host waits in its queue, of one write in progress
and 16 waiting; with a full queue it is discarded and OVERRUN set; selector 4 takes 16-bit writes alone. However the
cycles fall, the register covers the bytes of the accepted writes in order. Completes: CHK_FEED8_WRITE,
CHK_FEED16_WRITE, CHK_FEED32_WRITE. -/
def Obligations.CheckFeeds : Prop :=
  (∀ (n : Nat) (v : Word) (s : State), n < 16 →
    let u := chkOf s n
    u.opened = true → u.holder = .host →
    (u.queue.length ≤ 16 → u.poly ≠ 4 →
      Gives (setChk n { u with queue := u.queue ++ [leBytes 1 v.toNat] } s) (exec (.chkFeed8Write n v) s) ∧
      Gives (setChk n { u with queue := u.queue ++ [leBytes 4 v.toNat] } s) (exec (.chkFeed32Write n v) s)) ∧
    (u.queue.length ≤ 16 →
      Gives (setChk n { u with queue := u.queue ++ [leBytes 2 v.toNat] } s) (exec (.chkFeed16Write n v) s)) ∧
    (u.poly = 4 → Gives (setChk n { u with widthErr := true } s) (exec (.chkFeed8Write n v) s) ∧
      Gives (setChk n { u with widthErr := true } s) (exec (.chkFeed32Write n v) s)) ∧
    (17 ≤ u.queue.length → Gives (setChk n { u with overrun := true } s) (exec (.chkFeed16Write n v) s))) ∧
  (∀ (n : Nat) (v : Word) (s : State), (chkOf s n).opened = false ∨ (chkOf s n).holder ≠ .host →
    Gives s (exec (.chkFeed8Write n v) s) ∧ Gives s (exec (.chkFeed16Write n v) s) ∧ Gives s (exec (.chkFeed32Write n v) s)) ∧
  (∀ u : Chk, drainAll (drainCycle u) = drainAll u) ∧
  (∀ u : Chk, u.poly ≠ 4 → (drainAll u).crc = natWord (polyWrite u.poly u.crc.toNat u.queue.flatten) ∧
    (drainAll u).bytes = u.bytes + u.queue.flatten.length)

/-! ## The whole block -/

/-- A step takes the command at the front of the queue and runs it with the queue's rest; on an empty queue one tick of
625 MHz passes (the model's choice, log entry 1). -/
def Obligations.StepRunsFront : Prop :=
  ∀ s : State, (∀ c l, s.pending = c :: l → step s = exec c { s with pending := l }) ∧
    (s.pending = [] → step s = .next (tickState s))

/-- What reset leaves where the spec gives it: the module in BOOT, the set point high, no context, flow, timebase or
pending command, every counter 0, and every register at the reset value of its table; that the model starts after power-up,
in BOOT and released from RESET_N, is the model's choice (log entry 3). The invariants of this file hold there. -/
def Obligations.ResetState : Prop :=
  let s := State.reset
  s.dev.state = .boot ∧ s.mem.setpoint = 0 ∧ s.ctxs = [] ∧ s.groups = [] ∧ s.flows.ingress = [] ∧ s.flows.egress = [] ∧
    s.bel.tbs = [] ∧ s.cmd.pend = [] ∧ s.pending = [] ∧ s.bel.incr = 0x019999999A ∧ s.bel.ptp.servo = .unset ∧
    s.flows.selB = false ∧ s.mem.policy = [64, 1024, 24, 1000] ∧ s.mem.rh = [4000, 1000] ∧ s.mem.bar2 = 0 ∧
    tget 0 s.alertEn 13 = 0x232 ∧ (∀ b, tget 0 s.irqEn b = 0) ∧ (∀ k, tget 0 s.counters k = 0) ∧
    Memory.wf s.mem.dram = true ∧ countersOk s ∧ tablesOk s ∧ s.supply.pwrGood = true

/-- R65, R67: a packet whose CRC fails is answered CRC_MISMATCH and nothing of it is applied, clamped or reported, whatever
else is right with it. NO_REPLY keeps back the reply alone, and only with status OK; the completion record of a command
ring is always written. A stored packet of family 0x0A or 0x0F is refused unread (R117). A command that fails at a stage from 8 on is answered with that status and changes nothing. -/
def Obligations.RejectedPackets : Prop :=
  (∀ (c : Cmd) (l : List Byte) (s : State), stage2 c.via l = true → stage3 l = false →
    let unread : Prop := isStored c.via = true ∧ ((l.getD 5 0).toNat = 0x0A ∨ (l.getD 5 0).toNat = 0x0F)
    ∃ r, (runBytes opTable c l s).1 = s ∧ (runBytes opTable c l s).2.1 = some r ∧ (¬ unread → r.status = .crcMismatch) ∧
      (unread → r.status = .refused) ∧ r.clamps = [] ∧
      r.result = [] ∧ r.effect = none ∧ ∀ t, (runBytes opTable c l s).2.2 t = t) ∧
  (∀ (c : Cmd) (r : Reply) (s : State),
    (c.noReply = true → r.status = .ok → sendReply c r s = s) ∧
    ((c.noReply = false ∨ r.status ≠ .ok) → (∀ n, c.via ≠ .store n) → (∀ n, c.via = .ring n → c.capacity ≠ 0) →
      ∃ a b, (sendReply c r s).out = .reply c.via c.src a r b :: s.out) ∧
    (∀ n, c.via = .ring n → let g := ringOf s n
      ∃ x, (finishCmd c r s).out = x ++ .completion n (recordAddr g g.consumer)
        (completionWire n c.tag r.status r.clamps.length (g.consumer + 1).toNat g.phase
          (if suppressed c r then 0 else replyBytes r)) :: s.out)) ∧
  ∀ p ∈ opcodeRows, ∀ (c : Cmd) (st : Status) (cl : List Clamp) (s : State), Fails p.2 c st cl s →
    ∃ t, exec (p.1 c) s = .next t ∧
      still { t with cmd := { t.cmd with kept := [] } } = still { s with cmd := { s.cmd with kept := [] } } ∧
      Sent (replyOut c (replyOf p.2.opcode c st cl none [])) s t

/-- R68, R69, R350: a clamped number lands on the permitted value nearest to the request brought into the range, the
lower of two equally near, and has a clamp entry exactly when it differs from the request; a selector outside its set
refuses the packet with the entries made before it. The example of R350 gives its three entries. -/
def Obligations.FieldsAreClamped : Prop :=
  (∀ (lo hi step v : Int) (sg : Bool), 0 < step → (∃ m, lo ≤ m * step ∧ m * step ≤ hi) →
    let g := (inRange (.num lo hi step sg) v).1
    let c := clip lo hi v
    (∃ m, g = m * step) ∧ lo ≤ g ∧ g ≤ hi ∧ ((inRange (.num lo hi step sg) v).2 = none ↔ g = v) ∧
    (∀ m, lo ≤ m * step → m * step ≤ hi →
      (g - c).natAbs ≤ (m * step - c).natAbs ∧ ((g - c).natAbs = (m * step - c).natAbs → g ≤ m * step)) ∧
    ((inRange (.num lo hi step sg) v).2 = some .belowMin → v < lo ∧ g = lo) ∧
    ((inRange (.num lo hi step sg) v).2 = some .aboveMax → hi < v ∧ g = hi)) ∧
  (∀ (id : Nat) (acc : Fields) (cl : List Clamp) (ok : List Nat) (w : Word) (ps : List (Fields → Spec)) (ws : List Word),
    w.toNat ∉ ok → checkFields id acc cl (pSel ok :: ps) (w :: ws) =
      .refused (cl ++ [{ field := id, requested := w, applied := 0xFFFFFFFF, reason := .selector }])) ∧
  ∀ (c : Cmd) (s : State), checkFields 1 [] [] (opSetTransmitTaps.specs c s) [3, 0xFFFFFFF4, 56, 0xFFFFFFEC, 810] =
    .ok [3, -12, 52, 0, 800]
      [{ field := 3, requested := 56, applied := 52, reason := .crossField },
        { field := 4, requested := 0xFFFFFFEC, applied := 0, reason := .crossField },
        { field := 5, requested := 810, applied := 800, reason := .granule }]

/-- R11: a counter at its maximum stays there whatever is added, and never wraps; and whatever a step does, every
counter that was within its register's range is within it after. -/
def Obligations.CountersSaturate : Prop :=
  (∀ (k n : Nat) (s : State), tabWf 0 none s.counters = true →
    let top := counterMax k * counterUnit k
    (tget 0 s.counters k = top → tget 0 (bump k n s).counters k = top) ∧
    (tget 0 s.counters k + n ≤ top → tget 0 (bump k n s).counters k = tget 0 s.counters k + n) ∧
    (tget 0 s.counters k ≤ top → tget 0 s.counters k ≤ tget 0 (bump k n s).counters k) ∧
    (∀ j, j ≠ k → tget 0 (bump k n s).counters j = tget 0 s.counters j)) ∧
  ∀ s t : State, tabWf 0 none s.counters = true → countersOk s → step s = .next t → tabWf 0 none t.counters = true ∧ countersOk t

/-- Module DRAM keeps its canonical form through every step: addresses strictly rising, and no byte listed that an
unlisted address reads as anyway (log entry 6 says what one reads as). -/
def Obligations.MemoryStaysCanonical : Prop :=
  ∀ s t : State, Memory.wf s.mem.dram = true → step s = .next t → Memory.wf t.mem.dram = true

/-- Every keyed table of the state keeps its canonical form through every step. -/
def Obligations.TablesStayCanonical : Prop :=
  ∀ s t : State, tablesOk s → step s = .next t → tablesOk t

/-- R6, R114, R475: no step changes what the module is: its variant, serial number, MAC address and recovery image stay;
the minimum security version never falls, and the trip log loses nothing. -/
def Obligations.IdentityIsFixed : Prop :=
  ∀ s t : State, step s = .next t →
    t.dev.variant = s.dev.variant ∧ t.keep.serial = s.keep.serial ∧ t.keep.mac = s.keep.mac ∧
      t.keep.recovery = s.keep.recovery ∧ s.keep.minSecver ≤ t.keep.minSecver ∧ s.keep.trips <:+ t.keep.trips

/-- R43, R54, R107: whenever PWR_GOOD is low the device is in OFF with no background command at work, and every step keeps
that; a step never faults and is never refused. -/
def Obligations.OffWithoutPower : Prop :=
  (∀ s : State, ∃ t, step s = .next t) ∧ ∀ s t : State,
    (s.supply.pwrGood = false → s.dev.state = .off ∧ s.cmd.jobs = []) → step s = .next t →
    (t.supply.pwrGood = false → t.dev.state = .off ∧ t.cmd.jobs = [])
end

