-- ==== Sys2Proof/Laws/Tab.lean ====
section
/-! SUPPORT. Laws of keyed tables: read after write, the canonical form kept by every operation, writes to
one key and to two. -/

namespace Sys2Proof.Machine

section
variable {α : Type}

@[simp] theorem tget_nil (d : α) (k : Nat) : tget d [] k = d := rfl

theorem tget_tput_some (d : α) (t : Tab α) (k : Nat) (v : α) : tget d (tput t k (some v)) k = v := by
  induction t with
  | nil => simp [tput, tget]
  | cons x t ih =>
    obtain ⟨j, w⟩ := x
    by_cases h : k < j
    · simp [tput, tget, h]
    · by_cases e : j = k
      · simp [tput, tget, e]
      · simp [tput, tget, h, e, ih]

theorem tput_tput_some (t : Tab α) (k : Nat) (v : α) (w : Option α) :
    tput (tput t k (some v)) k w = tput t k w := by
  induction t with
  | nil => cases w <;> simp [tput]
  | cons x t ih =>
    obtain ⟨j, u⟩ := x
    by_cases h : k < j
    · cases w <;> simp [tput, h]
    · by_cases e : j = k
      · cases w <;> simp [tput, e]
      · cases w <;> simp [tput, h, e, ih]

theorem tput_comm (t : Tab α) (k l : Nat) (v w : α) (h : k ≠ l) :
    tput (tput t k (some v)) l (some w) = tput (tput t l (some w)) k (some v) := by
  induction t with
  | nil =>
    rcases Nat.lt_or_gt_of_ne h with h | h
    · have a : ¬ l < k := by omega
      have b : l ≠ k := by omega
      simp [tput, h, a, h.ne]
    · have a : ¬ k < l := by omega
      have b : l ≠ k := by omega
      simp [tput, h, a, b]
  | cons x t ih =>
    obtain ⟨j, u⟩ := x
    rcases Nat.lt_trichotomy k j with a | a | a <;> rcases Nat.lt_trichotomy l j with b | b | b
    all_goals rcases Nat.lt_or_gt_of_ne h with g | g
    all_goals try omega
    all_goals simp [tput, a, b, g, h, h.symm, Nat.lt_asymm, Nat.ne_of_lt, ih]

theorem tget_tput_some_ne (d : α) (t : Tab α) (k l : Nat) (v : α) (h : l ≠ k) :
    tget d (tput t k (some v)) l = tget d t l := by
  induction t with
  | nil => by_cases g : l < k <;> simp [tput, tget, h.symm, g]
  | cons x t ih =>
    obtain ⟨j, w⟩ := x
    by_cases a : k < j
    · by_cases g : l < k
      · have b : l < j := by omega
        have c : j ≠ l := by omega
        simp [tput, tget, a, h.symm, g, b, c]
      · simp [tput, tget, a, h.symm, g]
    · by_cases e : j = k
      · subst e; simp [tput, tget, h.symm]
      · simp [tput, tget, a, e, ih]

theorem map_tput_some {β : Type} (g : α → β) (d : α) (t : Tab α) (k : Nat) (b : α)
    (h : tget d t k ≠ d) (e : g b = g (tget d t k)) :
    (tput t k (some b)).map (fun x => (x.1, g x.2)) = t.map fun x => (x.1, g x.2) := by
  induction t with
  | nil => simp at h
  | cons x t ih =>
    obtain ⟨j, w⟩ := x
    by_cases c : j = k
    · simp only [tget, c, if_true] at e; simp [tput, c, e]
    · by_cases a : k < j
      · simp [tget, c, a] at h
      · simp only [tget, c, a, if_false] at h e
        simp only [tput, a, c, if_false, List.map_cons, ih h e]

variable [DecidableEq α]

theorem tset_of_ne {d : α} {v : α} (t : Tab α) (k : Nat) (h : v ≠ d) : tset d t k v = tput t k (some v) := by
  simp [tset, h]

theorem tget_tset_of_ne {d v : α} (t : Tab α) (k : Nat) (h : v ≠ d) : tget d (tset d t k v) k = v := by
  rw [tset_of_ne t k h, tget_tput_some]

theorem tset_tset {d v : α} (t : Tab α) (k : Nat) (w : α) (h : v ≠ d) :
    tset d (tset d t k v) k w = tset d t k w := by
  rw [tset_of_ne t k h]; simp only [tset, tput_tput_some]

theorem tset_comm {d v w : α} (t : Tab α) {k l : Nat} (h : k ≠ l) (hv : v ≠ d) (hw : w ≠ d) :
    tset d (tset d t k v) l w = tset d (tset d t l w) k v := by
  rw [tset_of_ne t k hv, tset_of_ne _ l hw, tset_of_ne t l hw, tset_of_ne _ k hv, tput_comm t k l v w h]

/-! ## The canonical form -/

theorem tabWf_cons {d : α} {lo : Option Nat} {k : Nat} {v : α} {t : Tab α} :
    tabWf d lo ((k, v) :: t) = true ↔ (∀ m, lo = some m → m < k) ∧ v ≠ d ∧ tabWf d (some k) t = true := by
  cases lo <;> simp [tabWf, and_assoc]

theorem tabWf_weaken {d : α} {t : Tab α} {lo : Option Nat} {m : Nat} (h : tabWf d (some m) t = true)
    (g : ∀ a, lo = some a → a ≤ m) : tabWf d lo t = true := by
  cases t with
  | nil => cases lo <;> rfl
  | cons x t =>
    obtain ⟨k, v⟩ := x
    rw [tabWf_cons] at h ⊢
    exact ⟨fun a e => Nat.lt_of_le_of_lt (g a e) (h.1 m rfl), h.2⟩

theorem tabWf_tput {d : α} {t : Tab α} {lo : Option Nat} {k : Nat} {v : Option α}
    (h : tabWf d lo t = true) (hk : ∀ m, lo = some m → m < k) (hv : v ≠ some d) :
    tabWf d lo (tput t k v) = true := by
  induction t generalizing lo with
  | nil =>
    cases v with
    | none => exact h
    | some v => rw [tput, tabWf_cons]; exact ⟨hk, fun e => hv (by rw [e]), rfl⟩
  | cons x t ih =>
    obtain ⟨j, w⟩ := x
    have c := tabWf_cons.mp h
    by_cases a : k < j
    · cases v with
      | none => simpa [tput, a] using h
      | some v =>
        simp only [tput, a, if_true]
        refine tabWf_cons.mpr ⟨hk, fun e => hv (by rw [e]), tabWf_cons.mpr ⟨?_, c.2⟩⟩
        intro m e; cases e; exact a
    · by_cases e : j = k
      · subst e
        cases v with
        | none =>
          simp only [tput, lt_irrefl, if_true, if_false]
          exact tabWf_weaken c.2.2 fun m g => Nat.le_of_lt (c.1 m g)
        | some v =>
          simp only [tput, lt_irrefl, if_true, if_false]
          exact tabWf_cons.mpr ⟨hk, fun g => hv (congrArg some g), c.2.2⟩
      · simp only [tput, a, e, if_false]
        refine tabWf_cons.mpr ⟨c.1, c.2.1, ih c.2.2 ?_⟩
        intro m g; cases g; omega

/-- A write keeps the canonical form. -/
theorem tabWf_tset {d : α} {t : Tab α} (h : tabWf d none t = true) (k : Nat) (v : α) :
    tabWf d none (tset d t k v) = true := by
  refine tabWf_tput h (by simp) ?_
  by_cases e : v = d <;> simp [e]

theorem tabWf_tmod {d : α} {t : Tab α} (h : tabWf d none t = true) (k : Nat) (f : α → α) :
    tabWf d none (tmod d t k f) = true := tabWf_tset h k _

theorem tabWf_filter {d : α} {t : Tab α} {lo : Option Nat} (p : Nat × α → Bool) (h : tabWf d lo t = true) :
    tabWf d lo (t.filter p) = true := by
  induction t generalizing lo with
  | nil => exact h
  | cons x t ih =>
    obtain ⟨k, v⟩ := x
    have c := tabWf_cons.mp h
    by_cases e : p (k, v)
    · rw [List.filter_cons_of_pos e]
      exact tabWf_cons.mpr ⟨c.1, c.2.1, ih c.2.2⟩
    · rw [List.filter_cons_of_neg e]
      exact ih (tabWf_weaken c.2.2 fun m g => Nat.le_of_lt (c.1 m g))

theorem tabWf_tmap {d : α} {t : Tab α} {lo : Option Nat} (f : Nat → α → α) (h : tabWf d lo t = true) :
    tabWf d lo (tmap d t f) = true := by
  induction t generalizing lo with
  | nil => exact h
  | cons x t ih =>
    obtain ⟨k, v⟩ := x
    have c := tabWf_cons.mp h
    by_cases e : f k v = d
    · have g : tmap d ((k, v) :: t) f = tmap d t f := by simp [tmap, e]
      rw [g]
      exact ih (tabWf_weaken c.2.2 fun m g => Nat.le_of_lt (c.1 m g))
    · have g : tmap d ((k, v) :: t) f = (k, f k v) :: tmap d t f := by simp [tmap, e]
      rw [g]
      exact tabWf_cons.mpr ⟨c.1, e, ih c.2.2⟩

/-! ## Read after write -/

theorem tget_below {d : α} {t : Tab α} {k : Nat} (h : tabWf d (some k) t = true) : tget d t k = d := by
  cases t with
  | nil => rfl
  | cons x t =>
    obtain ⟨j, v⟩ := x
    have c := (tabWf_cons.mp h).1 k rfl
    have a : j ≠ k := by omega
    simp [tget, a, c]

theorem tget_low {d : α} {t : Tab α} {k l : Nat} (h : tabWf d (some k) t = true) (g : l ≤ k) : tget d t l = d :=
  tget_below (tabWf_weaken h (by intro a e; cases e; exact g))

theorem tget_tput_none {d : α} {t : Tab α} {lo : Option Nat} (h : tabWf d lo t = true) (k l : Nat) :
    tget d (tput t k none) l = if l = k then d else tget d t l := by
  induction t generalizing lo with
  | nil => simp [tput]
  | cons x t ih =>
    obtain ⟨j, w⟩ := x
    have c := tabWf_cons.mp h
    by_cases a : k < j
    · simp only [tput, a, if_true]
      by_cases e : l = k
      · subst e
        have b : j ≠ l := by omega
        simp [tget, b, a]
      · simp [e]
    · by_cases e : j = k
      · subst e
        simp only [tput, lt_irrefl, if_true, if_false]
        by_cases g : l = j
        · subst g; simp [tget_below c.2.2]
        · by_cases b : l < j
          · simp [tget, g, Ne.symm g, b, tget_low c.2.2 b.le]
          · simp [tget, g, Ne.symm g, b]
      · simp only [tput, a, e, if_false]
        by_cases g : l = k
        · subst g; simp [tget, e, a, ih c.2.2]
        · simp [tget, g, ih c.2.2]

/-- A key reads what was last written to it. -/
theorem tget_tset_same {d : α} {t : Tab α} (h : tabWf d none t = true) (k : Nat) (v : α) :
    tget d (tset d t k v) k = v := by
  by_cases e : v = d
  · simp [tset, e, tget_tput_none h]
  · exact tget_tset_of_ne t k e

/-- A write leaves every other key alone. -/
theorem tget_tset_other {d : α} {t : Tab α} (h : tabWf d none t = true) {k l : Nat} (v : α) (g : l ≠ k) :
    tget d (tset d t k v) l = tget d t l := by
  by_cases e : v = d
  · simp [tset, e, tget_tput_none h, g]
  · rw [tset_of_ne t k e, tget_tput_some_ne d t k l v g]

/-- A write of a value other than the default leaves every other key alone, in any table. -/
theorem tget_tset_ne {d v : α} (t : Tab α) {k l : Nat} (h : v ≠ d) (g : l ≠ k) :
    tget d (tset d t k v) l = tget d t l := by
  rw [tset_of_ne t k h, tget_tput_some_ne d t k l v g]

end

end Sys2Proof.Machine
end

