-- ==== Sys2Proof/Laws/Report.lean ====
section
/-! SUPPORT. What reporting can change: events, interrupt flags, MSI-X, the interlock and `settle` leave
`still` alone, and the output log only grows. -/

namespace Sys2Proof.Machine

/-! ## Interrupt words and counters -/

theorem or_ne_zero {a m : Word} (h : m ≠ 0) : a ||| m ≠ 0 := by
  intro e
  apply h
  have : m = (a ||| m) &&& m := by
    ext i
    simp only [BitVec.getElem_and, BitVec.getElem_or]
    cases a[i] <;> cases m[i] <;> rfl
  rw [e] at this; simpa using this

theorem withBits_tset (b : Nat) (m x : Word) (t : Tab Word) (h : (tget 0 t b ||| x) ||| m = tget 0 t b ||| m)
    (hx : tget 0 t b ||| x ≠ 0) : withBits b m (tset 0 t b (tget 0 t b ||| x)) = withBits b m t := by
  unfold withBits
  rw [tget_tset_of_ne t b hx, h, tset_tset t b _ hx]

theorem withBits_other (b c : Nat) (m x : Word) (t : Tab Word) (hm : m ≠ 0) (hx : x ≠ 0) (h : b ≠ c) :
    withBits b m (tset 0 t c (tget 0 t c ||| x)) = tset 0 (withBits b m t) c (tget 0 (withBits b m t) c ||| x) := by
  unfold withBits
  rw [tget_tset_ne t (or_ne_zero hx) h, tset_comm t h.symm (or_ne_zero hx) (or_ne_zero hm),
    tget_tset_ne t (or_ne_zero hm) h.symm]

/-- The interrupt words as `still` keeps them. -/
def stillIrq (t : Tab Word) : Tab Word := withBits 0 3 (withBits 1 0x100 (withBits 8 7 t))

theorem stillIrq_raise (b i : Nat) (t : Tab Word)
    (h : (b = 0 ∧ i < 2) ∨ (b = 1 ∧ i = 8) ∨ (b = 8 ∧ i < 3)) :
    stillIrq (tset 0 t b (tget 0 t b ||| natWord (2 ^ i))) = stillIrq t := by
  rcases h with ⟨rfl, h⟩ | ⟨rfl, rfl⟩ | ⟨rfl, h⟩
  · have hx : natWord (2 ^ i) ≠ 0 := by
      rcases (by omega : i = 0 ∨ i = 1) with rfl | rfl <;> decide
    unfold stillIrq
    rw [withBits_other 8 0 7 _ t (by decide) hx (by decide), withBits_other 1 0 _ _ _ (by decide) hx (by decide),
      withBits_tset 0 3 _ _ ?_ (or_ne_zero hx)]
    rcases (by omega : i = 0 ∨ i = 1) with rfl | rfl <;> (rw [BitVec.or_assoc]; rfl)
  · have hx : natWord (2 ^ 8) ≠ 0 := by decide
    unfold stillIrq
    rw [withBits_other 8 1 7 _ t (by decide) hx (by decide), withBits_tset 1 _ _ _ ?_ (or_ne_zero hx)]
    rw [BitVec.or_assoc]; rfl
  · have hx : natWord (2 ^ i) ≠ 0 := by
      rcases (by omega : i = 0 ∨ i = 1 ∨ i = 2) with rfl | rfl | rfl <;> decide
    unfold stillIrq
    rw [withBits_tset 8 7 _ _ ?_ (or_ne_zero hx)]
    rcases (by omega : i = 0 ∨ i = 1 ∨ i = 2) with rfl | rfl | rfl <;> (rw [BitVec.or_assoc]; rfl)

theorem still_irq (s : State) : (still s).irq = stillIrq s.irq := rfl

@[simp] theorem still_raise (b i : Nat) (s : State)
    (h : (b = 0 ∧ i < 2) ∨ (b = 1 ∧ i = 8) ∨ (b = 8 ∧ i < 3)) : still (raise b i s) = still s := by
  have e := stillIrq_raise b i s.irq h
  unfold stillIrq at e
  simp only [still, raise, e]

theorem still_bump_aux (t : Tab Nat) (off n : Nat) (hn : 0 < n) (h : off = 0x10414 ∨ off = 0x80004) :
    tset 0 (tset 0 (tset 0 t off n) 0x10414 1) 0x80004 1 = tset 0 (tset 0 t 0x10414 1) 0x80004 1 := by
  have hn : n ≠ 0 := by omega
  rcases h with rfl | rfl
  · rw [tset_tset t _ _ hn]
  · rw [tset_comm t (by decide) hn (by decide), tset_tset _ _ _ hn]

@[simp] theorem still_bump (off n : Nat) (s : State) (hn : 0 < n) (h : off = 0x10414 ∨ off = 0x80004) :
    still (bump off n s) = still s := by
  have hp : 0 < min (counterMax off * counterUnit off) (tget 0 s.counters off + n) := by
    have : 0 < counterMax off * counterUnit off := by rcases h with rfl | rfl <;> decide
    omega
  simp only [still, bump, still_bump_aux _ _ _ hp h]

/-! ## Events -/

@[simp] theorem still_send (o : Out) (s : State) : still (send o s) = still s := rfl

@[simp] theorem still_sendMsix (v : Nat) (s : State) : still (sendMsix v s) = still s := by
  unfold sendMsix
  split
  · rfl
  · split
    · split <;> rfl
    · rfl

theorem still_foldl {β : Type} (f : State → β → State) (h : ∀ s x, still (f s x) = still s) (l : List β) (s : State) :
    still (l.foldl f s) = still s := by
  induction l generalizing s with
  | nil => rfl
  | cons x t ih => rw [List.foldl_cons, ih, h]

@[simp] theorem still_sendLines (s0 s : State) : still (sendLines s0 s) = still s :=
  still_foldl _ (fun s x => by split <;> simp) _ _

theorem still_setSub (i : Nat) (x y : Sub) (s : State) (h : tget none s.cmd.subs i = some x) (e : y.f = x.f) :
    still (setSub i y s) = still s := by
  have g := map_tput_some stillSub none s.cmd.subs i (some y) (by simp [h]) (by simp [h, stillSub, e])
  have t : tset none s.cmd.subs i (some y) = tput s.cmd.subs i (some (some y)) := tset_of_ne _ _ (by simp)
  simp only [still, setSub, t, g]

/-- Subscriber `i` after `setSub`. -/
theorem tget_setSub (i : Nat) (y : Sub) (s : State) : tget none (setSub i y s).cmd.subs i = some y :=
  tget_tset_of_ne _ _ (by simp)

@[simp] theorem still_askSub (u : Sub) (s : State) : still (askSub u s) = still s := by
  unfold askSub
  split <;> rfl

theorem still_offer (e : Event) (i : Nat) (u : Sub) (s : State) (h : tget none s.cmd.subs i = some u) :
    still (offer e i u s) = still s := by
  unfold offer
  have lose : still (setSub i (loseEvent u) s) = still s := still_setSub i u _ s h rfl
  dsimp only
  split
  · rfl
  · split
    · split
      · rw [still_raise _ _ _ (by decide), still_bump _ _ _ (by decide) (by decide), lose]
      · have a : ∀ t : State, still { t with cmd := { t.cmd with evq :=
            { s.cmd.evq with tail := (s.cmd.evq.tail + 1) % evqSlots s.cmd.evq } } } =
            still { t with cmd := { t.cmd with evq := s.cmd.evq } } := fun t => rfl
        have b : still (setSub i { u with seq := u.seq + 1, lost := 0 } (send (.event i (eventAddr s.cmd.evq s.cmd.evq.tail) u.seq u.lost e (eventWire u.seq u.lost e)) s)) = still s := by
          exact (still_setSub i u { u with seq := u.seq + 1, lost := 0 } _ h rfl).trans
            (still_send (.event i (eventAddr s.cmd.evq s.cmd.evq.tail) u.seq u.lost e (eventWire u.seq u.lost e)) s)
        split
        · rw [still_sendMsix, a]; exact b
        · rw [a]; exact b
    · split
      · rw [still_askSub, lose]
      · split
        · exact lose
        · exact still_setSub i u _ s h rfl

@[simp] theorem still_emit (code ctx source : Nat) (bytes : List Byte) (s : State) :
    still (emit code ctx source bytes s) = still s := by
  unfold emit
  refine still_foldl _ (fun t i => ?_) _ _
  split
  · rename_i u h; exact still_offer _ _ _ _ h
  · rfl

/-! ## Device states, health, the interlock -/

@[simp] theorem still_stateEvent (x : DevState × DevState × Nat) (s : State) : still (stateEvent x s) = still s :=
  still_emit _ _ _ _ _

@[simp] theorem still_changeState (new : DevState) (cause : Nat) (s : State) :
    still (changeState new cause s) = still s := by
  have a : ∀ t : State, ∀ n w, still { t with dev := { t.dev with state := n, owed := w } } = still t := fun _ _ _ => rfl
  have b : still (raise 0 0 { s with dev := { s.dev with state := new } }) = still s := by
    rw [still_raise _ _ _ (by decide)]; rfl
  unfold changeState
  dsimp only
  split
  · rfl
  · have c : still (if new = .degraded then raise 0 1 (raise 0 0 { s with dev := { s.dev with state := new } })
        else raise 0 0 { s with dev := { s.dev with state := new } }) = still s := by
      split
      · rw [still_raise _ _ _ (by decide), b]
      · exact b
    generalize (if new = .degraded then raise 0 1 (raise 0 0 { s with dev := { s.dev with state := new } })
        else raise 0 0 { s with dev := { s.dev with state := new } }) = u at c
    have d : ∀ l : List (DevState × DevState × Nat), still (l.foldl (fun t x => stateEvent x t)
        { u with dev := { u.dev with owed := [] } }) = still s := by
      intro l
      rw [still_foldl _ (fun t x => still_stateEvent x t)]
      exact (a u u.dev.state []).trans c
    cases new
    · exact c
    · exact (a u u.dev.state _).trans c
    all_goals exact d _

@[simp] theorem still_settleDegraded (s : State) : still (settleDegraded s) = still s := by
  unfold settleDegraded
  split <;> simp

@[simp] theorem still_settleTrip (s : State) : still (settleTrip s) = still s := by
  unfold settleTrip
  split <;> rfl

@[simp] theorem still_settleOpen (s : State) : still (settleOpen s) = still s := by
  unfold settleOpen
  dsimp only
  split
  · split <;> simp
  · split <;> simp
  · split <;> simp
  · rfl

@[simp] theorem still_pathEvent (t c : Nat) (s : State) : still (pathEvent t c s) = still s := still_emit _ _ _ _ _

@[simp] theorem still_interlock (s : State) : still (interlock s) = still s := by
  unfold interlock
  split
  · rfl
  · split
    · rfl
    · split
      · rfl
      · rw [still_pathEvent, still_bump _ _ _ (by decide) (by decide), still_raise _ _ _ (by decide)]; rfl

theorem still_modHealth (t : Nat) (f : Health → Health) (s : State) (h : ∀ x, stillHealth (f x) = stillHealth x) :
    still (modHealth t f s) = still s := by
  unfold modHealth
  split <;> simp only [still, h]

@[simp] theorem still_refreshTurret (t : Nat) (s : State) : still (refreshTurret t s) = still s := by
  refine (still_modHealth _ _ _ ?_).trans (still_modHealth _ _ _ ?_)
  · exact fun _ => rfl
  · exact fun _ => rfl

theorem still_reportBad (t : Nat) (s : State) (h : t < 2) : still (reportBad t s) = still s := by
  unfold reportBad
  rw [still_pathEvent, still_raise _ _ _ (by omega)]

theorem still_foldl_mem {β : Type} (f : State → β → State) (l : List β) (s : State)
    (h : ∀ s, ∀ x ∈ l, still (f s x) = still s) : still (l.foldl f s) = still s := by
  induction l generalizing s with
  | nil => rfl
  | cons x t ih => rw [List.foldl_cons, ih _ fun s y hy => h s y (.tail _ hy), h s x (.head _)]

theorem failing_lt (s : State) : ∀ t ∈ failing s, t < 2 := by
  intro t h
  have := (List.mem_filter.1 h).1
  simp only [List.mem_cons, List.not_mem_nil, or_false] at this
  omega

@[simp] theorem still_settleTurrets (s : State) : still (settleTurrets s) = still s := by
  unfold settleTurrets
  dsimp only
  split
  · simp
  · rw [still_interlock, still_foldl_mem _ _ _ fun s t h => still_reportBad t s (failing_lt _ t h),
      still_foldl (fun s t => modHealth t (fun h => { h with good := false }) s)
        fun s t => still_modHealth t _ s fun _ => rfl]
    simp

@[simp] theorem still_reportOn (kind p : Nat) (m : Nat × Nat × Nat) (s : State) :
    still (reportOn kind p m s) = still s := by
  unfold reportOn
  dsimp only
  split
  · rfl
  · split <;> rfl

@[simp] theorem still_report (kind : Nat) (m : Nat × Nat × Nat) (s : State) : still (report kind m s) = still s := by
  unfold report
  exact still_foldl _ (fun s p => still_reportOn kind p m s) _ _

@[simp] theorem still_settleMembers (s : State) : still (settleMembers s) = still s := by
  unfold settleMembers
  dsimp only
  split
  · rfl
  · have a : ∀ t : State, ∀ m r, still { t with flows := { t.flows with members := m, reports := r } } = still t :=
      fun _ _ _ => rfl
    rw [a, still_foldl _ (fun _ _ => still_report _ _ _), still_foldl _ (fun _ _ => still_report _ _ _)]

@[simp] theorem still_settleEvents (s : State) : still (settleEvents s) = still s := by
  unfold settleEvents
  refine still_foldl _ (fun t i => ?_) _ _
  unfold dropEvents
  split
  · rfl
  · rename_i u h
    dsimp only
    split
    · rfl
    · exact still_setSub i u _ t h rfl

/-- What every step settles changes nothing that `still` keeps. -/
@[simp] theorem still_settle (s0 s : State) : still (settle s0 s) = still s := by
  simp [settle]

/-- A step that ends in `ran` answers a next state, which leaves what `still` keeps as its effect made it. -/
theorem ran_next (s0 s : State) : ∃ t, ran s0 s = .next t ∧ Leaves s t := ⟨settle s0 s, rfl, still_settle s0 s⟩

end Sys2Proof.Machine
end

