-- ==== Sys2Proof/Laws/Engine.lean ====
section
/-! SUPPORT. What running a packet does: the reply is sent, the action's state stands but for what reporting
changes, and the output log only grows. -/

namespace Sys2Proof.Machine

/-! ## The output log only grows -/

/-- The output log of `t` is that of `s` with newer entries. -/
def Grows (s t : State) : Prop := ∃ a, t.out = a ++ s.out

theorem Grows.refl (s : State) : Grows s s := ⟨[], rfl⟩

theorem Grows.trans {s t u : State} (h : Grows s t) (g : Grows t u) : Grows s u := by
  obtain ⟨a, ha⟩ := h
  obtain ⟨b, hb⟩ := g
  exact ⟨b ++ a, by rw [hb, ha, List.append_assoc]⟩

theorem Grows.of_eq {s t : State} (h : t.out = s.out) : Grows s t := ⟨[], h⟩

theorem grows_send (o : Out) (s : State) : Grows s (send o s) := ⟨[o], rfl⟩

theorem grows_sendMsix (v : Nat) (s : State) : Grows s (sendMsix v s) := by
  unfold sendMsix
  split
  · exact .refl s
  · split
    · split
      · exact .refl s
      · exact .of_eq rfl
    · exact grows_send _ s

theorem grows_foldl {β : Type} (f : State → β → State) (h : ∀ s x, Grows s (f s x)) (l : List β) (s : State) :
    Grows s (l.foldl f s) := by
  induction l generalizing s with
  | nil => exact .refl s
  | cons x t ih => exact (h s x).trans (ih _)

theorem grows_sendLines (s0 s : State) : Grows s (sendLines s0 s) := by
  unfold sendLines
  refine grows_foldl _ (fun t b => ?_) _ _
  split
  · exact grows_sendMsix _ t
  · exact .refl t

theorem grows_askSub (u : Sub) (s : State) : Grows s (askSub u s) := by
  unfold askSub
  split
  · exact grows_send _ s
  · exact .refl s

theorem grows_offer (e : Event) (i : Nat) (u : Sub) (s : State) : Grows s (offer e i u s) := by
  unfold offer
  dsimp only
  split
  · exact .refl s
  · split
    · split
      · exact .of_eq rfl
      · have a : Grows s (setSub i { u with seq := u.seq + 1, lost := 0 }
            (send (.event i (eventAddr s.cmd.evq s.cmd.evq.tail) u.seq u.lost e (eventWire u.seq u.lost e)) s)) :=
          (grows_send _ s).trans (.of_eq rfl)
        split
        · exact (a.trans (.of_eq rfl)).trans (grows_sendMsix _ _)
        · exact a.trans (.of_eq rfl)
    · split
      · exact (Grows.of_eq rfl).trans (grows_askSub _ _)
      · split
        · exact .of_eq rfl
        · exact .of_eq rfl

theorem grows_emit (code ctx source : Nat) (bytes : List Byte) (s : State) : Grows s (emit code ctx source bytes s) := by
  unfold emit
  refine grows_foldl _ (fun t i => ?_) _ _
  split
  · exact grows_offer _ _ _ _
  · exact .refl t

theorem grows_changeState (new : DevState) (cause : Nat) (s : State) : Grows s (changeState new cause s) := by
  unfold changeState
  dsimp only
  split
  · exact .refl s
  · have c : Grows s (if new = .degraded then raise 0 1 (raise 0 0 { s with dev := { s.dev with state := new } })
        else raise 0 0 { s with dev := { s.dev with state := new } }) := by
      split <;> exact .of_eq rfl
    generalize (if new = .degraded then raise 0 1 (raise 0 0 { s with dev := { s.dev with state := new } })
        else raise 0 0 { s with dev := { s.dev with state := new } }) = u at c
    have d : ∀ l : List (DevState × DevState × Nat), Grows s (l.foldl (fun t x => stateEvent x t)
        { u with dev := { u.dev with owed := [] } }) := by
      intro l
      exact c.trans ((Grows.of_eq rfl).trans (grows_foldl _ (fun t x => grows_emit _ _ _ _ t) _ _))
    cases new
    · exact c
    · exact c.trans (.of_eq rfl)
    all_goals exact d _

theorem grows_settleDegraded (s : State) : Grows s (settleDegraded s) := by
  unfold settleDegraded
  split
  · exact grows_changeState _ _ s
  · exact .refl s

theorem grows_settleTrip (s : State) : Grows s (settleTrip s) := by
  unfold settleTrip
  split
  · exact .of_eq rfl
  · exact .refl s

theorem grows_settleOpen (s : State) : Grows s (settleOpen s) := by
  unfold settleOpen
  dsimp only
  split <;> first | (split <;> first | exact grows_changeState _ _ s | exact .refl s) | exact .refl s

theorem grows_raise (b i : Nat) (s : State) : Grows s (raise b i s) := .of_eq rfl

theorem grows_bump (o n : Nat) (s : State) : Grows s (bump o n s) := .of_eq rfl

theorem grows_pathEvent (t c : Nat) (s : State) : Grows s (pathEvent t c s) := grows_emit _ _ _ _ s

theorem grows_interlock (s : State) : Grows s (interlock s) := by
  unfold interlock
  split
  · exact .refl s
  · split
    · exact .refl s
    · split
      · exact .refl s
      · refine Grows.trans ?_ (grows_pathEvent _ _ _)
        refine Grows.trans ?_ (grows_bump _ _ _)
        refine Grows.trans ?_ (grows_raise _ _ _)
        exact .of_eq rfl

theorem grows_modHealth (t : Nat) (f : Health → Health) (s : State) : Grows s (modHealth t f s) := by
  unfold modHealth
  split <;> exact .of_eq rfl

theorem grows_refreshTurret (t : Nat) (s : State) : Grows s (refreshTurret t s) :=
  (grows_modHealth t _ s).trans (grows_modHealth t _ _)

theorem grows_reportBad (t : Nat) (s : State) : Grows s (reportBad t s) :=
  (grows_raise _ _ s).trans (grows_pathEvent _ _ _)

theorem grows_settleTurrets (s : State) : Grows s (settleTurrets s) := by
  have a : Grows s (refreshTurret 1 (refreshTurret 0 s)) :=
    (grows_refreshTurret 0 s).trans (grows_refreshTurret 1 _)
  unfold settleTurrets
  dsimp only
  split
  · exact a
  · exact a.trans ((grows_foldl _ (fun s t => grows_modHealth t _ s) _ _).trans
      ((grows_foldl _ (fun s t => grows_reportBad t s) _ _).trans (grows_interlock _)))

theorem grows_reportOn (kind p : Nat) (m : Nat × Nat × Nat) (s : State) : Grows s (reportOn kind p m s) := by
  unfold reportOn
  dsimp only
  split
  · exact grows_send _ s
  · split
    · exact .refl s
    · exact grows_send _ s

theorem grows_report (kind : Nat) (m : Nat × Nat × Nat) (s : State) : Grows s (report kind m s) := by
  unfold report
  exact grows_foldl _ (fun s p => grows_reportOn kind p m s) _ _

theorem grows_settleMembers (s : State) : Grows s (settleMembers s) := by
  unfold settleMembers
  dsimp only
  split
  · exact .refl s
  · refine Grows.trans ?_ (.of_eq rfl)
    exact (grows_foldl _ (fun _ _ => grows_report _ _ _) _ _).trans (grows_foldl _ (fun _ _ => grows_report _ _ _) _ _)

theorem grows_settleEvents (s : State) : Grows s (settleEvents s) := by
  unfold settleEvents
  refine grows_foldl _ (fun t i => ?_) _ _
  unfold dropEvents
  split
  · exact .refl t
  · dsimp only
    split
    · exact .refl t
    · exact .of_eq rfl

theorem grows_settle (s0 s : State) : Grows s (settle s0 s) := by
  unfold settle
  exact (grows_settleMembers s).trans ((grows_settleTurrets _).trans ((grows_settleOpen _).trans
    ((grows_settleDegraded _).trans ((grows_settleTrip _).trans ((grows_settleEvents _).trans (grows_sendLines s0 _))))))

/-! ## Replies -/

/-- What `Completes` compares: `still` without the kept records. -/
def quiet (s : State) : State := still { s with cmd := { s.cmd with kept := [] } }

theorem quiet_of_still {s t : State} (h : still t = still s) : quiet t = quiet s :=
  congrArg (fun u : State => { u with cmd := { u.cmd with kept := [] } }) h

theorem quiet_keepReply (c : Cmd) (r : Reply) (s : State) : quiet (keepReply c r s) = quiet s := rfl

theorem quiet_sendReply (c : Cmd) (r : Reply) (s : State) : quiet (sendReply c r s) = quiet s := by
  unfold sendReply
  split
  · rfl
  · split
    · rfl
    · split <;> rfl
    · rfl

theorem still_clampedEvent (c : Cmd) (r : Reply) (s : State) : still (clampedEvent c r s) = still s := by
  unfold clampedEvent
  split
  · exact still_emit _ _ _ _ s
  · rfl

theorem quiet_deliver (c : Cmd) (r : Reply) (s : State) : quiet (deliver c r s) = quiet s :=
  (quiet_sendReply c r _).trans (quiet_of_still (still_clampedEvent c r s))

theorem grows_clampedEvent (c : Cmd) (r : Reply) (s : State) : Grows s (clampedEvent c r s) := by
  unfold clampedEvent
  split
  · exact grows_emit _ _ _ _ s
  · exact .refl s

theorem sent_sendReply (c : Cmd) (r : Reply) (s : State) : (sendReply c r s).out = (replyOut c r).toList ++ s.out := by
  unfold sendReply replyOut
  split
  · rfl
  · cases c.via with
    | store => rfl
    | ring _ => dsimp only; split <;> rfl
    | mgmt => rfl
    | inband => rfl

/-- A reply delivered is in the output log, whatever grew it before and after. -/
theorem sent_deliver {s t u : State} (c : Cmd) (r : Reply) (h : Grows s t) (g : Grows (deliver c r t) u) :
    Sent (replyOut c r) s u := by
  obtain ⟨a, ha⟩ := h
  obtain ⟨b, hb⟩ := grows_clampedEvent c r t
  obtain ⟨d, hd⟩ := g
  refine ⟨d, b ++ a, ?_⟩
  rw [hd]
  unfold deliver
  rw [sent_sendReply, hb, ha]
  simp [List.append_assoc]

/-! ## A packet accepted, refused or placed -/

theorem command_running (op : Op) (c : Cmd) {s : State} (h : Running s) :
    command op c s = ran s (runCmd opTable op c s) := by
  unfold command
  rw [if_neg (by rintro (e | e); exacts [h.1 e, h.2 e])]

/-- A packet that fails changes nothing but its reply. -/
theorem fails_next {op : Op} {c : Cmd} {st : Status} {cl : List Clamp} {s : State} (h : Fails op c st cl s) :
    ∃ t, command op c s = .next t ∧ quiet t = quiet s ∧
      Sent (replyOut c (replyOf op.opcode c st cl none [])) s t := by
  refine ⟨_, command_running op c h.1, ?_, ?_⟩
  · rw [quiet_of_still (still_settle s _)]
    simp only [runCmd, runOp, h.2, id]
    exact quiet_deliver _ _ _
  · simp only [runCmd, runOp, h.2, id]
    exact sent_deliver c _ (.refl s) (grows_settle _ _)

/-- An immediate command accepted: its action's state stands and its reply is sent. -/
theorem completes_now {op : Op} {c : Cmd} {f : Fields} {cl : List Clamp} {s : State} (h : AcceptedNow op c f cl s)
    (hb : op.background = false) (hp : op.park c f s = none)
    (hs : (op.apply c f (op.accept c f s)).status = none)
    (ho : Grows s (op.apply c f (op.accept c f s)).s)
    (ha : ∀ t : State, Grows t (op.after c f t)) :
    ∃ t, command op c s = .next t ∧
      quiet t = quiet (op.after c f (deliver c (okReply op c cl (op.apply c f (op.accept c f s)).words)
        (op.apply c f (op.accept c f s)).s)) ∧
      Sent (replyOut c (okReply op c cl (op.apply c f (op.accept c f s)).words)) s t := by
  have e : runCmd opTable op c s = op.after c f (deliver c (okReply op c cl
      (op.apply c f (op.accept c f s)).words) (op.apply c f (op.accept c f s)).s) := by
    have st : acceptStatus cl (op.apply c f (op.accept c f s)).status = if cl = [] then .ok else .okClamped := by
      simp only [acceptStatus, hs]; rfl
    simp only [runCmd, runOp, h.2.2, h.2.1, handedOver, hb, hp, act, st, okReply]
    rfl
  refine ⟨_, command_running op c h.1, ?_, ?_⟩
  · rw [e]; exact quiet_of_still (still_settle s _)
  · rw [e]; exact sent_deliver c _ ho ((ha _).trans (grows_settle _ _))

/-- An immediate command accepted whose opcode has nothing after its reply. -/
theorem completes_plain {op : Op} {c : Cmd} {f : Fields} {cl : List Clamp} {s : State} (h : AcceptedNow op c f cl s)
    (hb : op.background = false) (hp : op.park c f s = none)
    (hs : (op.apply c f (op.accept c f s)).status = none)
    (ho : Grows s (op.apply c f (op.accept c f s)).s) (ha : op.after = fun _ _ s => s) :
    Completes op c cl (op.apply c f (op.accept c f s)).words s (op.apply c f (op.accept c f s)).s (command op c s) := by
  obtain ⟨t, e, q, w⟩ := completes_now h hb hp hs ho (by rw [ha]; exact fun t => .refl t)
  refine ⟨t, e, ?_, w⟩
  rw [ha] at q
  exact q.trans (quiet_deliver _ _ _)

end Sys2Proof.Machine
end

