-- ==== Sys2Proof/Laws/LineCode.lean ====
section
/-! SUPPORT. The line codes undo themselves (R347, R348, R355): what a receiver recovers is what was sent. -/

namespace Sys2Proof.Machine

/-- The descrambler, begun from the bits that the line had before, gives the bits that were scrambled. -/
theorem descramble_scramble (a b : Nat) (past l : List Bool) : descramble a b past (scramble a b past l) = l := by
  induction l generalizing past with
  | nil => rfl
  | cons x l ih =>
    simp only [scramble, descramble, ih]
    congr 1
    cases x <;> simp

/-- A level has one pair of bits, and a pair one level. -/
theorem ungray_gray (p : Bool × Bool) : ungray (gray p) = p := by
  obtain ⟨a, b⟩ := p
  cases a <;> cases b <;> rfl

theorem gray_lt (p : Bool × Bool) : gray p < 4 := by
  obtain ⟨a, b⟩ := p
  cases a <;> cases b <;> decide

/-- The receiver undoes the precoder, whatever symbol the line had before. -/
theorem unprecode_precode (p : Nat) (l : List Nat) (h : ∀ g ∈ l, g < 4) : unprecode p (precode p l) = l := by
  induction l generalizing p with
  | nil => rfl
  | cons g l ih =>
    have hg := h g (List.mem_cons_self ..)
    simp only [precode, unprecode, ih _ fun x hx => h x (List.mem_cons_of_mem _ hx)]
    congr 1
    omega

/-- Scrambling and precoding change no length. -/
@[simp] theorem scramble_length (a b : Nat) (past l : List Bool) : (scramble a b past l).length = l.length := by
  induction l generalizing past with
  | nil => rfl
  | cons x l ih => simp [scramble, ih]

@[simp] theorem precode_length (p : Nat) (l : List Nat) : (precode p l).length = l.length := by
  induction l generalizing p with
  | nil => rfl
  | cons g l ih => simp [precode, ih]

end Sys2Proof.Machine
end

