-- ==== Sys2Proof/Laws/State.lean ====
section
/-! SUPPORT. Each update of one part of the state, field by field: the fields that it leaves as they are, and the part
that it writes. -/

namespace Sys2Proof.Machine

variable (s : State)

@[simp] theorem modCtx_supply (c : Nat) (f : Ctx → Ctx) : (modCtx c f s).supply = s.supply := rfl
@[simp] theorem modCtx_pins (c : Nat) (f : Ctx → Ctx) : (modCtx c f s).pins = s.pins := rfl
@[simp] theorem modCtx_dev (c : Nat) (f : Ctx → Ctx) : (modCtx c f s).dev = s.dev := rfl
@[simp] theorem modCtx_keep (c : Nat) (f : Ctx → Ctx) : (modCtx c f s).keep = s.keep := rfl
@[simp] theorem modCtx_cmd (c : Nat) (f : Ctx → Ctx) : (modCtx c f s).cmd = s.cmd := rfl
@[simp] theorem modCtx_bel (c : Nat) (f : Ctx → Ctx) : (modCtx c f s).bel = s.bel := rfl
@[simp] theorem modCtx_groups (c : Nat) (f : Ctx → Ctx) : (modCtx c f s).groups = s.groups := rfl
@[simp] theorem modCtx_camp (c : Nat) (f : Ctx → Ctx) : (modCtx c f s).camp = s.camp := rfl
@[simp] theorem modCtx_cup (c : Nat) (f : Ctx → Ctx) : (modCtx c f s).cup = s.cup := rfl
@[simp] theorem modCtx_lanes (c : Nat) (f : Ctx → Ctx) : (modCtx c f s).lanes = s.lanes := rfl
@[simp] theorem modCtx_flows (c : Nat) (f : Ctx → Ctx) : (modCtx c f s).flows = s.flows := rfl
@[simp] theorem modCtx_mem (c : Nat) (f : Ctx → Ctx) : (modCtx c f s).mem = s.mem := rfl
@[simp] theorem modCtx_dma (c : Nat) (f : Ctx → Ctx) : (modCtx c f s).dma = s.dma := rfl
@[simp] theorem modCtx_watch (c : Nat) (f : Ctx → Ctx) : (modCtx c f s).watch = s.watch := rfl
@[simp] theorem modCtx_counters (c : Nat) (f : Ctx → Ctx) : (modCtx c f s).counters = s.counters := rfl
@[simp] theorem modCtx_irq (c : Nat) (f : Ctx → Ctx) : (modCtx c f s).irq = s.irq := rfl
@[simp] theorem modCtx_irqEn (c : Nat) (f : Ctx → Ctx) : (modCtx c f s).irqEn = s.irqEn := rfl
@[simp] theorem modCtx_alertEn (c : Nat) (f : Ctx → Ctx) : (modCtx c f s).alertEn = s.alertEn := rfl
@[simp] theorem modCtx_msix (c : Nat) (f : Ctx → Ctx) : (modCtx c f s).msix = s.msix := rfl
@[simp] theorem modCtx_msixMasked (c : Nat) (f : Ctx → Ctx) : (modCtx c f s).msixMasked = s.msixMasked := rfl
@[simp] theorem modCtx_msixPending (c : Nat) (f : Ctx → Ctx) : (modCtx c f s).msixPending = s.msixPending := rfl
@[simp] theorem modCtx_tick (c : Nat) (f : Ctx → Ctx) : (modCtx c f s).tick = s.tick := rfl
@[simp] theorem modCtx_free (c : Nat) (f : Ctx → Ctx) : (modCtx c f s).free = s.free := rfl
@[simp] theorem modCtx_out (c : Nat) (f : Ctx → Ctx) : (modCtx c f s).out = s.out := rfl
@[simp] theorem modCtx_pending (c : Nat) (f : Ctx → Ctx) : (modCtx c f s).pending = s.pending := rfl
@[simp] theorem modPtp_supply (f : Ptp → Ptp) : (modPtp f s).supply = s.supply := rfl
@[simp] theorem modPtp_pins (f : Ptp → Ptp) : (modPtp f s).pins = s.pins := rfl
@[simp] theorem modPtp_dev (f : Ptp → Ptp) : (modPtp f s).dev = s.dev := rfl
@[simp] theorem modPtp_keep (f : Ptp → Ptp) : (modPtp f s).keep = s.keep := rfl
@[simp] theorem modPtp_cmd (f : Ptp → Ptp) : (modPtp f s).cmd = s.cmd := rfl
@[simp] theorem modPtp_ctxs (f : Ptp → Ptp) : (modPtp f s).ctxs = s.ctxs := rfl
@[simp] theorem modPtp_groups (f : Ptp → Ptp) : (modPtp f s).groups = s.groups := rfl
@[simp] theorem modPtp_camp (f : Ptp → Ptp) : (modPtp f s).camp = s.camp := rfl
@[simp] theorem modPtp_cup (f : Ptp → Ptp) : (modPtp f s).cup = s.cup := rfl
@[simp] theorem modPtp_lanes (f : Ptp → Ptp) : (modPtp f s).lanes = s.lanes := rfl
@[simp] theorem modPtp_flows (f : Ptp → Ptp) : (modPtp f s).flows = s.flows := rfl
@[simp] theorem modPtp_mem (f : Ptp → Ptp) : (modPtp f s).mem = s.mem := rfl
@[simp] theorem modPtp_dma (f : Ptp → Ptp) : (modPtp f s).dma = s.dma := rfl
@[simp] theorem modPtp_watch (f : Ptp → Ptp) : (modPtp f s).watch = s.watch := rfl
@[simp] theorem modPtp_counters (f : Ptp → Ptp) : (modPtp f s).counters = s.counters := rfl
@[simp] theorem modPtp_irq (f : Ptp → Ptp) : (modPtp f s).irq = s.irq := rfl
@[simp] theorem modPtp_irqEn (f : Ptp → Ptp) : (modPtp f s).irqEn = s.irqEn := rfl
@[simp] theorem modPtp_alertEn (f : Ptp → Ptp) : (modPtp f s).alertEn = s.alertEn := rfl
@[simp] theorem modPtp_msix (f : Ptp → Ptp) : (modPtp f s).msix = s.msix := rfl
@[simp] theorem modPtp_msixMasked (f : Ptp → Ptp) : (modPtp f s).msixMasked = s.msixMasked := rfl
@[simp] theorem modPtp_msixPending (f : Ptp → Ptp) : (modPtp f s).msixPending = s.msixPending := rfl
@[simp] theorem modPtp_tick (f : Ptp → Ptp) : (modPtp f s).tick = s.tick := rfl
@[simp] theorem modPtp_free (f : Ptp → Ptp) : (modPtp f s).free = s.free := rfl
@[simp] theorem modPtp_out (f : Ptp → Ptp) : (modPtp f s).out = s.out := rfl
@[simp] theorem modPtp_pending (f : Ptp → Ptp) : (modPtp f s).pending = s.pending := rfl
@[simp] theorem modFrame_supply (c n : Nat) (b : Bool) (f : FrameRec → FrameRec) : (modFrame c n b f s).supply = s.supply := rfl
@[simp] theorem modFrame_pins (c n : Nat) (b : Bool) (f : FrameRec → FrameRec) : (modFrame c n b f s).pins = s.pins := rfl
@[simp] theorem modFrame_dev (c n : Nat) (b : Bool) (f : FrameRec → FrameRec) : (modFrame c n b f s).dev = s.dev := rfl
@[simp] theorem modFrame_keep (c n : Nat) (b : Bool) (f : FrameRec → FrameRec) : (modFrame c n b f s).keep = s.keep := rfl
@[simp] theorem modFrame_cmd (c n : Nat) (b : Bool) (f : FrameRec → FrameRec) : (modFrame c n b f s).cmd = s.cmd := rfl
@[simp] theorem modFrame_bel (c n : Nat) (b : Bool) (f : FrameRec → FrameRec) : (modFrame c n b f s).bel = s.bel := rfl
@[simp] theorem modFrame_ctxs (c n : Nat) (b : Bool) (f : FrameRec → FrameRec) : (modFrame c n b f s).ctxs = s.ctxs := rfl
@[simp] theorem modFrame_groups (c n : Nat) (b : Bool) (f : FrameRec → FrameRec) : (modFrame c n b f s).groups = s.groups := rfl
@[simp] theorem modFrame_cup (c n : Nat) (b : Bool) (f : FrameRec → FrameRec) : (modFrame c n b f s).cup = s.cup := rfl
@[simp] theorem modFrame_lanes (c n : Nat) (b : Bool) (f : FrameRec → FrameRec) : (modFrame c n b f s).lanes = s.lanes := rfl
@[simp] theorem modFrame_flows (c n : Nat) (b : Bool) (f : FrameRec → FrameRec) : (modFrame c n b f s).flows = s.flows := rfl
@[simp] theorem modFrame_mem (c n : Nat) (b : Bool) (f : FrameRec → FrameRec) : (modFrame c n b f s).mem = s.mem := rfl
@[simp] theorem modFrame_dma (c n : Nat) (b : Bool) (f : FrameRec → FrameRec) : (modFrame c n b f s).dma = s.dma := rfl
@[simp] theorem modFrame_watch (c n : Nat) (b : Bool) (f : FrameRec → FrameRec) : (modFrame c n b f s).watch = s.watch := rfl
@[simp] theorem modFrame_counters (c n : Nat) (b : Bool) (f : FrameRec → FrameRec) : (modFrame c n b f s).counters = s.counters := rfl
@[simp] theorem modFrame_irq (c n : Nat) (b : Bool) (f : FrameRec → FrameRec) : (modFrame c n b f s).irq = s.irq := rfl
@[simp] theorem modFrame_irqEn (c n : Nat) (b : Bool) (f : FrameRec → FrameRec) : (modFrame c n b f s).irqEn = s.irqEn := rfl
@[simp] theorem modFrame_alertEn (c n : Nat) (b : Bool) (f : FrameRec → FrameRec) : (modFrame c n b f s).alertEn = s.alertEn := rfl
@[simp] theorem modFrame_msix (c n : Nat) (b : Bool) (f : FrameRec → FrameRec) : (modFrame c n b f s).msix = s.msix := rfl
@[simp] theorem modFrame_msixMasked (c n : Nat) (b : Bool) (f : FrameRec → FrameRec) : (modFrame c n b f s).msixMasked = s.msixMasked := rfl
@[simp] theorem modFrame_msixPending (c n : Nat) (b : Bool) (f : FrameRec → FrameRec) : (modFrame c n b f s).msixPending = s.msixPending := rfl
@[simp] theorem modFrame_tick (c n : Nat) (b : Bool) (f : FrameRec → FrameRec) : (modFrame c n b f s).tick = s.tick := rfl
@[simp] theorem modFrame_free (c n : Nat) (b : Bool) (f : FrameRec → FrameRec) : (modFrame c n b f s).free = s.free := rfl
@[simp] theorem modFrame_out (c n : Nat) (b : Bool) (f : FrameRec → FrameRec) : (modFrame c n b f s).out = s.out := rfl
@[simp] theorem modFrame_pending (c n : Nat) (b : Bool) (f : FrameRec → FrameRec) : (modFrame c n b f s).pending = s.pending := rfl
@[simp] theorem modCamp_supply (f : Camp → Camp) : (modCamp f s).supply = s.supply := rfl
@[simp] theorem modCamp_pins (f : Camp → Camp) : (modCamp f s).pins = s.pins := rfl
@[simp] theorem modCamp_dev (f : Camp → Camp) : (modCamp f s).dev = s.dev := rfl
@[simp] theorem modCamp_keep (f : Camp → Camp) : (modCamp f s).keep = s.keep := rfl
@[simp] theorem modCamp_cmd (f : Camp → Camp) : (modCamp f s).cmd = s.cmd := rfl
@[simp] theorem modCamp_bel (f : Camp → Camp) : (modCamp f s).bel = s.bel := rfl
@[simp] theorem modCamp_ctxs (f : Camp → Camp) : (modCamp f s).ctxs = s.ctxs := rfl
@[simp] theorem modCamp_groups (f : Camp → Camp) : (modCamp f s).groups = s.groups := rfl
@[simp] theorem modCamp_cup (f : Camp → Camp) : (modCamp f s).cup = s.cup := rfl
@[simp] theorem modCamp_lanes (f : Camp → Camp) : (modCamp f s).lanes = s.lanes := rfl
@[simp] theorem modCamp_flows (f : Camp → Camp) : (modCamp f s).flows = s.flows := rfl
@[simp] theorem modCamp_mem (f : Camp → Camp) : (modCamp f s).mem = s.mem := rfl
@[simp] theorem modCamp_dma (f : Camp → Camp) : (modCamp f s).dma = s.dma := rfl
@[simp] theorem modCamp_watch (f : Camp → Camp) : (modCamp f s).watch = s.watch := rfl
@[simp] theorem modCamp_counters (f : Camp → Camp) : (modCamp f s).counters = s.counters := rfl
@[simp] theorem modCamp_irq (f : Camp → Camp) : (modCamp f s).irq = s.irq := rfl
@[simp] theorem modCamp_irqEn (f : Camp → Camp) : (modCamp f s).irqEn = s.irqEn := rfl
@[simp] theorem modCamp_alertEn (f : Camp → Camp) : (modCamp f s).alertEn = s.alertEn := rfl
@[simp] theorem modCamp_msix (f : Camp → Camp) : (modCamp f s).msix = s.msix := rfl
@[simp] theorem modCamp_msixMasked (f : Camp → Camp) : (modCamp f s).msixMasked = s.msixMasked := rfl
@[simp] theorem modCamp_msixPending (f : Camp → Camp) : (modCamp f s).msixPending = s.msixPending := rfl
@[simp] theorem modCamp_tick (f : Camp → Camp) : (modCamp f s).tick = s.tick := rfl
@[simp] theorem modCamp_free (f : Camp → Camp) : (modCamp f s).free = s.free := rfl
@[simp] theorem modCamp_out (f : Camp → Camp) : (modCamp f s).out = s.out := rfl
@[simp] theorem modCamp_pending (f : Camp → Camp) : (modCamp f s).pending = s.pending := rfl
@[simp] theorem modSpire_supply (i : Nat) (f : Spire → Spire) : (modSpire i f s).supply = s.supply := rfl
@[simp] theorem modSpire_pins (i : Nat) (f : Spire → Spire) : (modSpire i f s).pins = s.pins := rfl
@[simp] theorem modSpire_dev (i : Nat) (f : Spire → Spire) : (modSpire i f s).dev = s.dev := rfl
@[simp] theorem modSpire_keep (i : Nat) (f : Spire → Spire) : (modSpire i f s).keep = s.keep := rfl
@[simp] theorem modSpire_cmd (i : Nat) (f : Spire → Spire) : (modSpire i f s).cmd = s.cmd := rfl
@[simp] theorem modSpire_bel (i : Nat) (f : Spire → Spire) : (modSpire i f s).bel = s.bel := rfl
@[simp] theorem modSpire_ctxs (i : Nat) (f : Spire → Spire) : (modSpire i f s).ctxs = s.ctxs := rfl
@[simp] theorem modSpire_groups (i : Nat) (f : Spire → Spire) : (modSpire i f s).groups = s.groups := rfl
@[simp] theorem modSpire_cup (i : Nat) (f : Spire → Spire) : (modSpire i f s).cup = s.cup := rfl
@[simp] theorem modSpire_lanes (i : Nat) (f : Spire → Spire) : (modSpire i f s).lanes = s.lanes := rfl
@[simp] theorem modSpire_flows (i : Nat) (f : Spire → Spire) : (modSpire i f s).flows = s.flows := rfl
@[simp] theorem modSpire_mem (i : Nat) (f : Spire → Spire) : (modSpire i f s).mem = s.mem := rfl
@[simp] theorem modSpire_dma (i : Nat) (f : Spire → Spire) : (modSpire i f s).dma = s.dma := rfl
@[simp] theorem modSpire_watch (i : Nat) (f : Spire → Spire) : (modSpire i f s).watch = s.watch := rfl
@[simp] theorem modSpire_counters (i : Nat) (f : Spire → Spire) : (modSpire i f s).counters = s.counters := rfl
@[simp] theorem modSpire_irq (i : Nat) (f : Spire → Spire) : (modSpire i f s).irq = s.irq := rfl
@[simp] theorem modSpire_irqEn (i : Nat) (f : Spire → Spire) : (modSpire i f s).irqEn = s.irqEn := rfl
@[simp] theorem modSpire_alertEn (i : Nat) (f : Spire → Spire) : (modSpire i f s).alertEn = s.alertEn := rfl
@[simp] theorem modSpire_msix (i : Nat) (f : Spire → Spire) : (modSpire i f s).msix = s.msix := rfl
@[simp] theorem modSpire_msixMasked (i : Nat) (f : Spire → Spire) : (modSpire i f s).msixMasked = s.msixMasked := rfl
@[simp] theorem modSpire_msixPending (i : Nat) (f : Spire → Spire) : (modSpire i f s).msixPending = s.msixPending := rfl
@[simp] theorem modSpire_tick (i : Nat) (f : Spire → Spire) : (modSpire i f s).tick = s.tick := rfl
@[simp] theorem modSpire_free (i : Nat) (f : Spire → Spire) : (modSpire i f s).free = s.free := rfl
@[simp] theorem modSpire_out (i : Nat) (f : Spire → Spire) : (modSpire i f s).out = s.out := rfl
@[simp] theorem modSpire_pending (i : Nat) (f : Spire → Spire) : (modSpire i f s).pending = s.pending := rfl
@[simp] theorem modDome_supply (d : Nat) (f : Dome → Dome) : (modDome d f s).supply = s.supply := rfl
@[simp] theorem modDome_pins (d : Nat) (f : Dome → Dome) : (modDome d f s).pins = s.pins := rfl
@[simp] theorem modDome_dev (d : Nat) (f : Dome → Dome) : (modDome d f s).dev = s.dev := rfl
@[simp] theorem modDome_keep (d : Nat) (f : Dome → Dome) : (modDome d f s).keep = s.keep := rfl
@[simp] theorem modDome_cmd (d : Nat) (f : Dome → Dome) : (modDome d f s).cmd = s.cmd := rfl
@[simp] theorem modDome_bel (d : Nat) (f : Dome → Dome) : (modDome d f s).bel = s.bel := rfl
@[simp] theorem modDome_ctxs (d : Nat) (f : Dome → Dome) : (modDome d f s).ctxs = s.ctxs := rfl
@[simp] theorem modDome_groups (d : Nat) (f : Dome → Dome) : (modDome d f s).groups = s.groups := rfl
@[simp] theorem modDome_cup (d : Nat) (f : Dome → Dome) : (modDome d f s).cup = s.cup := rfl
@[simp] theorem modDome_lanes (d : Nat) (f : Dome → Dome) : (modDome d f s).lanes = s.lanes := rfl
@[simp] theorem modDome_flows (d : Nat) (f : Dome → Dome) : (modDome d f s).flows = s.flows := rfl
@[simp] theorem modDome_mem (d : Nat) (f : Dome → Dome) : (modDome d f s).mem = s.mem := rfl
@[simp] theorem modDome_dma (d : Nat) (f : Dome → Dome) : (modDome d f s).dma = s.dma := rfl
@[simp] theorem modDome_watch (d : Nat) (f : Dome → Dome) : (modDome d f s).watch = s.watch := rfl
@[simp] theorem modDome_counters (d : Nat) (f : Dome → Dome) : (modDome d f s).counters = s.counters := rfl
@[simp] theorem modDome_irq (d : Nat) (f : Dome → Dome) : (modDome d f s).irq = s.irq := rfl
@[simp] theorem modDome_irqEn (d : Nat) (f : Dome → Dome) : (modDome d f s).irqEn = s.irqEn := rfl
@[simp] theorem modDome_alertEn (d : Nat) (f : Dome → Dome) : (modDome d f s).alertEn = s.alertEn := rfl
@[simp] theorem modDome_msix (d : Nat) (f : Dome → Dome) : (modDome d f s).msix = s.msix := rfl
@[simp] theorem modDome_msixMasked (d : Nat) (f : Dome → Dome) : (modDome d f s).msixMasked = s.msixMasked := rfl
@[simp] theorem modDome_msixPending (d : Nat) (f : Dome → Dome) : (modDome d f s).msixPending = s.msixPending := rfl
@[simp] theorem modDome_tick (d : Nat) (f : Dome → Dome) : (modDome d f s).tick = s.tick := rfl
@[simp] theorem modDome_free (d : Nat) (f : Dome → Dome) : (modDome d f s).free = s.free := rfl
@[simp] theorem modDome_out (d : Nat) (f : Dome → Dome) : (modDome d f s).out = s.out := rfl
@[simp] theorem modDome_pending (d : Nat) (f : Dome → Dome) : (modDome d f s).pending = s.pending := rfl
@[simp] theorem setChk_supply (n : Nat) (u : Chk) : (setChk n u s).supply = s.supply := rfl
@[simp] theorem setChk_pins (n : Nat) (u : Chk) : (setChk n u s).pins = s.pins := rfl
@[simp] theorem setChk_dev (n : Nat) (u : Chk) : (setChk n u s).dev = s.dev := rfl
@[simp] theorem setChk_keep (n : Nat) (u : Chk) : (setChk n u s).keep = s.keep := rfl
@[simp] theorem setChk_cmd (n : Nat) (u : Chk) : (setChk n u s).cmd = s.cmd := rfl
@[simp] theorem setChk_bel (n : Nat) (u : Chk) : (setChk n u s).bel = s.bel := rfl
@[simp] theorem setChk_ctxs (n : Nat) (u : Chk) : (setChk n u s).ctxs = s.ctxs := rfl
@[simp] theorem setChk_groups (n : Nat) (u : Chk) : (setChk n u s).groups = s.groups := rfl
@[simp] theorem setChk_camp (n : Nat) (u : Chk) : (setChk n u s).camp = s.camp := rfl
@[simp] theorem setChk_cup (n : Nat) (u : Chk) : (setChk n u s).cup = s.cup := rfl
@[simp] theorem setChk_lanes (n : Nat) (u : Chk) : (setChk n u s).lanes = s.lanes := rfl
@[simp] theorem setChk_flows (n : Nat) (u : Chk) : (setChk n u s).flows = s.flows := rfl
@[simp] theorem setChk_mem (n : Nat) (u : Chk) : (setChk n u s).mem = s.mem := rfl
@[simp] theorem setChk_watch (n : Nat) (u : Chk) : (setChk n u s).watch = s.watch := rfl
@[simp] theorem setChk_counters (n : Nat) (u : Chk) : (setChk n u s).counters = s.counters := rfl
@[simp] theorem setChk_irq (n : Nat) (u : Chk) : (setChk n u s).irq = s.irq := rfl
@[simp] theorem setChk_irqEn (n : Nat) (u : Chk) : (setChk n u s).irqEn = s.irqEn := rfl
@[simp] theorem setChk_alertEn (n : Nat) (u : Chk) : (setChk n u s).alertEn = s.alertEn := rfl
@[simp] theorem setChk_msix (n : Nat) (u : Chk) : (setChk n u s).msix = s.msix := rfl
@[simp] theorem setChk_msixMasked (n : Nat) (u : Chk) : (setChk n u s).msixMasked = s.msixMasked := rfl
@[simp] theorem setChk_msixPending (n : Nat) (u : Chk) : (setChk n u s).msixPending = s.msixPending := rfl
@[simp] theorem setChk_tick (n : Nat) (u : Chk) : (setChk n u s).tick = s.tick := rfl
@[simp] theorem setChk_free (n : Nat) (u : Chk) : (setChk n u s).free = s.free := rfl
@[simp] theorem setChk_out (n : Nat) (u : Chk) : (setChk n u s).out = s.out := rfl
@[simp] theorem setChk_pending (n : Nat) (u : Chk) : (setChk n u s).pending = s.pending := rfl
@[simp] theorem setAsset_supply (i : Nat) (a : Option Asset) : (setAsset i a s).supply = s.supply := rfl
@[simp] theorem setAsset_pins (i : Nat) (a : Option Asset) : (setAsset i a s).pins = s.pins := rfl
@[simp] theorem setAsset_dev (i : Nat) (a : Option Asset) : (setAsset i a s).dev = s.dev := rfl
@[simp] theorem setAsset_keep (i : Nat) (a : Option Asset) : (setAsset i a s).keep = s.keep := rfl
@[simp] theorem setAsset_cmd (i : Nat) (a : Option Asset) : (setAsset i a s).cmd = s.cmd := rfl
@[simp] theorem setAsset_bel (i : Nat) (a : Option Asset) : (setAsset i a s).bel = s.bel := rfl
@[simp] theorem setAsset_ctxs (i : Nat) (a : Option Asset) : (setAsset i a s).ctxs = s.ctxs := rfl
@[simp] theorem setAsset_groups (i : Nat) (a : Option Asset) : (setAsset i a s).groups = s.groups := rfl
@[simp] theorem setAsset_camp (i : Nat) (a : Option Asset) : (setAsset i a s).camp = s.camp := rfl
@[simp] theorem setAsset_lanes (i : Nat) (a : Option Asset) : (setAsset i a s).lanes = s.lanes := rfl
@[simp] theorem setAsset_flows (i : Nat) (a : Option Asset) : (setAsset i a s).flows = s.flows := rfl
@[simp] theorem setAsset_mem (i : Nat) (a : Option Asset) : (setAsset i a s).mem = s.mem := rfl
@[simp] theorem setAsset_dma (i : Nat) (a : Option Asset) : (setAsset i a s).dma = s.dma := rfl
@[simp] theorem setAsset_watch (i : Nat) (a : Option Asset) : (setAsset i a s).watch = s.watch := rfl
@[simp] theorem setAsset_counters (i : Nat) (a : Option Asset) : (setAsset i a s).counters = s.counters := rfl
@[simp] theorem setAsset_irq (i : Nat) (a : Option Asset) : (setAsset i a s).irq = s.irq := rfl
@[simp] theorem setAsset_irqEn (i : Nat) (a : Option Asset) : (setAsset i a s).irqEn = s.irqEn := rfl
@[simp] theorem setAsset_alertEn (i : Nat) (a : Option Asset) : (setAsset i a s).alertEn = s.alertEn := rfl
@[simp] theorem setAsset_msix (i : Nat) (a : Option Asset) : (setAsset i a s).msix = s.msix := rfl
@[simp] theorem setAsset_msixMasked (i : Nat) (a : Option Asset) : (setAsset i a s).msixMasked = s.msixMasked := rfl
@[simp] theorem setAsset_msixPending (i : Nat) (a : Option Asset) : (setAsset i a s).msixPending = s.msixPending := rfl
@[simp] theorem setAsset_tick (i : Nat) (a : Option Asset) : (setAsset i a s).tick = s.tick := rfl
@[simp] theorem setAsset_free (i : Nat) (a : Option Asset) : (setAsset i a s).free = s.free := rfl
@[simp] theorem setAsset_out (i : Nat) (a : Option Asset) : (setAsset i a s).out = s.out := rfl
@[simp] theorem setAsset_pending (i : Nat) (a : Option Asset) : (setAsset i a s).pending = s.pending := rfl
@[simp] theorem setLayer_supply (c i : Nat) (l : VLayer) : (setLayer c i l s).supply = s.supply := rfl
@[simp] theorem setLayer_pins (c i : Nat) (l : VLayer) : (setLayer c i l s).pins = s.pins := rfl
@[simp] theorem setLayer_dev (c i : Nat) (l : VLayer) : (setLayer c i l s).dev = s.dev := rfl
@[simp] theorem setLayer_keep (c i : Nat) (l : VLayer) : (setLayer c i l s).keep = s.keep := rfl
@[simp] theorem setLayer_cmd (c i : Nat) (l : VLayer) : (setLayer c i l s).cmd = s.cmd := rfl
@[simp] theorem setLayer_bel (c i : Nat) (l : VLayer) : (setLayer c i l s).bel = s.bel := rfl
@[simp] theorem setLayer_ctxs (c i : Nat) (l : VLayer) : (setLayer c i l s).ctxs = s.ctxs := rfl
@[simp] theorem setLayer_groups (c i : Nat) (l : VLayer) : (setLayer c i l s).groups = s.groups := rfl
@[simp] theorem setLayer_camp (c i : Nat) (l : VLayer) : (setLayer c i l s).camp = s.camp := rfl
@[simp] theorem setLayer_lanes (c i : Nat) (l : VLayer) : (setLayer c i l s).lanes = s.lanes := rfl
@[simp] theorem setLayer_flows (c i : Nat) (l : VLayer) : (setLayer c i l s).flows = s.flows := rfl
@[simp] theorem setLayer_mem (c i : Nat) (l : VLayer) : (setLayer c i l s).mem = s.mem := rfl
@[simp] theorem setLayer_dma (c i : Nat) (l : VLayer) : (setLayer c i l s).dma = s.dma := rfl
@[simp] theorem setLayer_watch (c i : Nat) (l : VLayer) : (setLayer c i l s).watch = s.watch := rfl
@[simp] theorem setLayer_counters (c i : Nat) (l : VLayer) : (setLayer c i l s).counters = s.counters := rfl
@[simp] theorem setLayer_irq (c i : Nat) (l : VLayer) : (setLayer c i l s).irq = s.irq := rfl
@[simp] theorem setLayer_irqEn (c i : Nat) (l : VLayer) : (setLayer c i l s).irqEn = s.irqEn := rfl
@[simp] theorem setLayer_alertEn (c i : Nat) (l : VLayer) : (setLayer c i l s).alertEn = s.alertEn := rfl
@[simp] theorem setLayer_msix (c i : Nat) (l : VLayer) : (setLayer c i l s).msix = s.msix := rfl
@[simp] theorem setLayer_msixMasked (c i : Nat) (l : VLayer) : (setLayer c i l s).msixMasked = s.msixMasked := rfl
@[simp] theorem setLayer_msixPending (c i : Nat) (l : VLayer) : (setLayer c i l s).msixPending = s.msixPending := rfl
@[simp] theorem setLayer_tick (c i : Nat) (l : VLayer) : (setLayer c i l s).tick = s.tick := rfl
@[simp] theorem setLayer_free (c i : Nat) (l : VLayer) : (setLayer c i l s).free = s.free := rfl
@[simp] theorem setLayer_out (c i : Nat) (l : VLayer) : (setLayer c i l s).out = s.out := rfl
@[simp] theorem setLayer_pending (c i : Nat) (l : VLayer) : (setLayer c i l s).pending = s.pending := rfl
@[simp] theorem modComp_supply (c : Nat) (f : Comp → Comp) : (modComp c f s).supply = s.supply := rfl
@[simp] theorem modComp_pins (c : Nat) (f : Comp → Comp) : (modComp c f s).pins = s.pins := rfl
@[simp] theorem modComp_dev (c : Nat) (f : Comp → Comp) : (modComp c f s).dev = s.dev := rfl
@[simp] theorem modComp_keep (c : Nat) (f : Comp → Comp) : (modComp c f s).keep = s.keep := rfl
@[simp] theorem modComp_cmd (c : Nat) (f : Comp → Comp) : (modComp c f s).cmd = s.cmd := rfl
@[simp] theorem modComp_bel (c : Nat) (f : Comp → Comp) : (modComp c f s).bel = s.bel := rfl
@[simp] theorem modComp_ctxs (c : Nat) (f : Comp → Comp) : (modComp c f s).ctxs = s.ctxs := rfl
@[simp] theorem modComp_groups (c : Nat) (f : Comp → Comp) : (modComp c f s).groups = s.groups := rfl
@[simp] theorem modComp_camp (c : Nat) (f : Comp → Comp) : (modComp c f s).camp = s.camp := rfl
@[simp] theorem modComp_lanes (c : Nat) (f : Comp → Comp) : (modComp c f s).lanes = s.lanes := rfl
@[simp] theorem modComp_flows (c : Nat) (f : Comp → Comp) : (modComp c f s).flows = s.flows := rfl
@[simp] theorem modComp_mem (c : Nat) (f : Comp → Comp) : (modComp c f s).mem = s.mem := rfl
@[simp] theorem modComp_dma (c : Nat) (f : Comp → Comp) : (modComp c f s).dma = s.dma := rfl
@[simp] theorem modComp_watch (c : Nat) (f : Comp → Comp) : (modComp c f s).watch = s.watch := rfl
@[simp] theorem modComp_counters (c : Nat) (f : Comp → Comp) : (modComp c f s).counters = s.counters := rfl
@[simp] theorem modComp_irq (c : Nat) (f : Comp → Comp) : (modComp c f s).irq = s.irq := rfl
@[simp] theorem modComp_irqEn (c : Nat) (f : Comp → Comp) : (modComp c f s).irqEn = s.irqEn := rfl
@[simp] theorem modComp_alertEn (c : Nat) (f : Comp → Comp) : (modComp c f s).alertEn = s.alertEn := rfl
@[simp] theorem modComp_msix (c : Nat) (f : Comp → Comp) : (modComp c f s).msix = s.msix := rfl
@[simp] theorem modComp_msixMasked (c : Nat) (f : Comp → Comp) : (modComp c f s).msixMasked = s.msixMasked := rfl
@[simp] theorem modComp_msixPending (c : Nat) (f : Comp → Comp) : (modComp c f s).msixPending = s.msixPending := rfl
@[simp] theorem modComp_tick (c : Nat) (f : Comp → Comp) : (modComp c f s).tick = s.tick := rfl
@[simp] theorem modComp_free (c : Nat) (f : Comp → Comp) : (modComp c f s).free = s.free := rfl
@[simp] theorem modComp_out (c : Nat) (f : Comp → Comp) : (modComp c f s).out = s.out := rfl
@[simp] theorem modComp_pending (c : Nat) (f : Comp → Comp) : (modComp c f s).pending = s.pending := rfl
@[simp] theorem modImage_supply (i : Nat) (f : LImage → LImage) : (modImage i f s).supply = s.supply := rfl
@[simp] theorem modImage_pins (i : Nat) (f : LImage → LImage) : (modImage i f s).pins = s.pins := rfl
@[simp] theorem modImage_dev (i : Nat) (f : LImage → LImage) : (modImage i f s).dev = s.dev := rfl
@[simp] theorem modImage_keep (i : Nat) (f : LImage → LImage) : (modImage i f s).keep = s.keep := rfl
@[simp] theorem modImage_cmd (i : Nat) (f : LImage → LImage) : (modImage i f s).cmd = s.cmd := rfl
@[simp] theorem modImage_bel (i : Nat) (f : LImage → LImage) : (modImage i f s).bel = s.bel := rfl
@[simp] theorem modImage_ctxs (i : Nat) (f : LImage → LImage) : (modImage i f s).ctxs = s.ctxs := rfl
@[simp] theorem modImage_groups (i : Nat) (f : LImage → LImage) : (modImage i f s).groups = s.groups := rfl
@[simp] theorem modImage_camp (i : Nat) (f : LImage → LImage) : (modImage i f s).camp = s.camp := rfl
@[simp] theorem modImage_lanes (i : Nat) (f : LImage → LImage) : (modImage i f s).lanes = s.lanes := rfl
@[simp] theorem modImage_flows (i : Nat) (f : LImage → LImage) : (modImage i f s).flows = s.flows := rfl
@[simp] theorem modImage_mem (i : Nat) (f : LImage → LImage) : (modImage i f s).mem = s.mem := rfl
@[simp] theorem modImage_dma (i : Nat) (f : LImage → LImage) : (modImage i f s).dma = s.dma := rfl
@[simp] theorem modImage_watch (i : Nat) (f : LImage → LImage) : (modImage i f s).watch = s.watch := rfl
@[simp] theorem modImage_counters (i : Nat) (f : LImage → LImage) : (modImage i f s).counters = s.counters := rfl
@[simp] theorem modImage_irq (i : Nat) (f : LImage → LImage) : (modImage i f s).irq = s.irq := rfl
@[simp] theorem modImage_irqEn (i : Nat) (f : LImage → LImage) : (modImage i f s).irqEn = s.irqEn := rfl
@[simp] theorem modImage_alertEn (i : Nat) (f : LImage → LImage) : (modImage i f s).alertEn = s.alertEn := rfl
@[simp] theorem modImage_msix (i : Nat) (f : LImage → LImage) : (modImage i f s).msix = s.msix := rfl
@[simp] theorem modImage_msixMasked (i : Nat) (f : LImage → LImage) : (modImage i f s).msixMasked = s.msixMasked := rfl
@[simp] theorem modImage_msixPending (i : Nat) (f : LImage → LImage) : (modImage i f s).msixPending = s.msixPending := rfl
@[simp] theorem modImage_tick (i : Nat) (f : LImage → LImage) : (modImage i f s).tick = s.tick := rfl
@[simp] theorem modImage_free (i : Nat) (f : LImage → LImage) : (modImage i f s).free = s.free := rfl
@[simp] theorem modImage_out (i : Nat) (f : LImage → LImage) : (modImage i f s).out = s.out := rfl
@[simp] theorem modImage_pending (i : Nat) (f : LImage → LImage) : (modImage i f s).pending = s.pending := rfl
@[simp] theorem setDma_supply (c : Nat) (x : DmaChan) : (setDma c x s).supply = s.supply := rfl
@[simp] theorem setDma_pins (c : Nat) (x : DmaChan) : (setDma c x s).pins = s.pins := rfl
@[simp] theorem setDma_dev (c : Nat) (x : DmaChan) : (setDma c x s).dev = s.dev := rfl
@[simp] theorem setDma_keep (c : Nat) (x : DmaChan) : (setDma c x s).keep = s.keep := rfl
@[simp] theorem setDma_cmd (c : Nat) (x : DmaChan) : (setDma c x s).cmd = s.cmd := rfl
@[simp] theorem setDma_bel (c : Nat) (x : DmaChan) : (setDma c x s).bel = s.bel := rfl
@[simp] theorem setDma_ctxs (c : Nat) (x : DmaChan) : (setDma c x s).ctxs = s.ctxs := rfl
@[simp] theorem setDma_groups (c : Nat) (x : DmaChan) : (setDma c x s).groups = s.groups := rfl
@[simp] theorem setDma_camp (c : Nat) (x : DmaChan) : (setDma c x s).camp = s.camp := rfl
@[simp] theorem setDma_cup (c : Nat) (x : DmaChan) : (setDma c x s).cup = s.cup := rfl
@[simp] theorem setDma_lanes (c : Nat) (x : DmaChan) : (setDma c x s).lanes = s.lanes := rfl
@[simp] theorem setDma_flows (c : Nat) (x : DmaChan) : (setDma c x s).flows = s.flows := rfl
@[simp] theorem setDma_mem (c : Nat) (x : DmaChan) : (setDma c x s).mem = s.mem := rfl
@[simp] theorem setDma_watch (c : Nat) (x : DmaChan) : (setDma c x s).watch = s.watch := rfl
@[simp] theorem setDma_counters (c : Nat) (x : DmaChan) : (setDma c x s).counters = s.counters := rfl
@[simp] theorem setDma_irq (c : Nat) (x : DmaChan) : (setDma c x s).irq = s.irq := rfl
@[simp] theorem setDma_irqEn (c : Nat) (x : DmaChan) : (setDma c x s).irqEn = s.irqEn := rfl
@[simp] theorem setDma_alertEn (c : Nat) (x : DmaChan) : (setDma c x s).alertEn = s.alertEn := rfl
@[simp] theorem setDma_msix (c : Nat) (x : DmaChan) : (setDma c x s).msix = s.msix := rfl
@[simp] theorem setDma_msixMasked (c : Nat) (x : DmaChan) : (setDma c x s).msixMasked = s.msixMasked := rfl
@[simp] theorem setDma_msixPending (c : Nat) (x : DmaChan) : (setDma c x s).msixPending = s.msixPending := rfl
@[simp] theorem setDma_tick (c : Nat) (x : DmaChan) : (setDma c x s).tick = s.tick := rfl
@[simp] theorem setDma_free (c : Nat) (x : DmaChan) : (setDma c x s).free = s.free := rfl
@[simp] theorem setDma_out (c : Nat) (x : DmaChan) : (setDma c x s).out = s.out := rfl
@[simp] theorem setDma_pending (c : Nat) (x : DmaChan) : (setDma c x s).pending = s.pending := rfl
@[simp] theorem keepReply_supply (c : Cmd) (r : Reply) : (keepReply c r s).supply = s.supply := rfl
@[simp] theorem keepReply_pins (c : Cmd) (r : Reply) : (keepReply c r s).pins = s.pins := rfl
@[simp] theorem keepReply_dev (c : Cmd) (r : Reply) : (keepReply c r s).dev = s.dev := rfl
@[simp] theorem keepReply_keep (c : Cmd) (r : Reply) : (keepReply c r s).keep = s.keep := rfl
@[simp] theorem keepReply_bel (c : Cmd) (r : Reply) : (keepReply c r s).bel = s.bel := rfl
@[simp] theorem keepReply_ctxs (c : Cmd) (r : Reply) : (keepReply c r s).ctxs = s.ctxs := rfl
@[simp] theorem keepReply_groups (c : Cmd) (r : Reply) : (keepReply c r s).groups = s.groups := rfl
@[simp] theorem keepReply_camp (c : Cmd) (r : Reply) : (keepReply c r s).camp = s.camp := rfl
@[simp] theorem keepReply_cup (c : Cmd) (r : Reply) : (keepReply c r s).cup = s.cup := rfl
@[simp] theorem keepReply_lanes (c : Cmd) (r : Reply) : (keepReply c r s).lanes = s.lanes := rfl
@[simp] theorem keepReply_flows (c : Cmd) (r : Reply) : (keepReply c r s).flows = s.flows := rfl
@[simp] theorem keepReply_mem (c : Cmd) (r : Reply) : (keepReply c r s).mem = s.mem := rfl
@[simp] theorem keepReply_dma (c : Cmd) (r : Reply) : (keepReply c r s).dma = s.dma := rfl
@[simp] theorem keepReply_watch (c : Cmd) (r : Reply) : (keepReply c r s).watch = s.watch := rfl
@[simp] theorem keepReply_counters (c : Cmd) (r : Reply) : (keepReply c r s).counters = s.counters := rfl
@[simp] theorem keepReply_irq (c : Cmd) (r : Reply) : (keepReply c r s).irq = s.irq := rfl
@[simp] theorem keepReply_irqEn (c : Cmd) (r : Reply) : (keepReply c r s).irqEn = s.irqEn := rfl
@[simp] theorem keepReply_alertEn (c : Cmd) (r : Reply) : (keepReply c r s).alertEn = s.alertEn := rfl
@[simp] theorem keepReply_msix (c : Cmd) (r : Reply) : (keepReply c r s).msix = s.msix := rfl
@[simp] theorem keepReply_msixMasked (c : Cmd) (r : Reply) : (keepReply c r s).msixMasked = s.msixMasked := rfl
@[simp] theorem keepReply_msixPending (c : Cmd) (r : Reply) : (keepReply c r s).msixPending = s.msixPending := rfl
@[simp] theorem keepReply_tick (c : Cmd) (r : Reply) : (keepReply c r s).tick = s.tick := rfl
@[simp] theorem keepReply_free (c : Cmd) (r : Reply) : (keepReply c r s).free = s.free := rfl
@[simp] theorem keepReply_out (c : Cmd) (r : Reply) : (keepReply c r s).out = s.out := rfl
@[simp] theorem keepReply_pending (c : Cmd) (r : Reply) : (keepReply c r s).pending = s.pending := rfl
@[simp] theorem keepRecord_supply (k : Kept) : (keepRecord k s).supply = s.supply := rfl
@[simp] theorem keepRecord_pins (k : Kept) : (keepRecord k s).pins = s.pins := rfl
@[simp] theorem keepRecord_dev (k : Kept) : (keepRecord k s).dev = s.dev := rfl
@[simp] theorem keepRecord_keep (k : Kept) : (keepRecord k s).keep = s.keep := rfl
@[simp] theorem keepRecord_bel (k : Kept) : (keepRecord k s).bel = s.bel := rfl
@[simp] theorem keepRecord_ctxs (k : Kept) : (keepRecord k s).ctxs = s.ctxs := rfl
@[simp] theorem keepRecord_groups (k : Kept) : (keepRecord k s).groups = s.groups := rfl
@[simp] theorem keepRecord_camp (k : Kept) : (keepRecord k s).camp = s.camp := rfl
@[simp] theorem keepRecord_cup (k : Kept) : (keepRecord k s).cup = s.cup := rfl
@[simp] theorem keepRecord_lanes (k : Kept) : (keepRecord k s).lanes = s.lanes := rfl
@[simp] theorem keepRecord_flows (k : Kept) : (keepRecord k s).flows = s.flows := rfl
@[simp] theorem keepRecord_mem (k : Kept) : (keepRecord k s).mem = s.mem := rfl
@[simp] theorem keepRecord_dma (k : Kept) : (keepRecord k s).dma = s.dma := rfl
@[simp] theorem keepRecord_watch (k : Kept) : (keepRecord k s).watch = s.watch := rfl
@[simp] theorem keepRecord_counters (k : Kept) : (keepRecord k s).counters = s.counters := rfl
@[simp] theorem keepRecord_irq (k : Kept) : (keepRecord k s).irq = s.irq := rfl
@[simp] theorem keepRecord_irqEn (k : Kept) : (keepRecord k s).irqEn = s.irqEn := rfl
@[simp] theorem keepRecord_alertEn (k : Kept) : (keepRecord k s).alertEn = s.alertEn := rfl
@[simp] theorem keepRecord_msix (k : Kept) : (keepRecord k s).msix = s.msix := rfl
@[simp] theorem keepRecord_msixMasked (k : Kept) : (keepRecord k s).msixMasked = s.msixMasked := rfl
@[simp] theorem keepRecord_msixPending (k : Kept) : (keepRecord k s).msixPending = s.msixPending := rfl
@[simp] theorem keepRecord_tick (k : Kept) : (keepRecord k s).tick = s.tick := rfl
@[simp] theorem keepRecord_free (k : Kept) : (keepRecord k s).free = s.free := rfl
@[simp] theorem keepRecord_out (k : Kept) : (keepRecord k s).out = s.out := rfl
@[simp] theorem keepRecord_pending (k : Kept) : (keepRecord k s).pending = s.pending := rfl
@[simp] theorem logPut_supply (e : LogEntry) : (logPut e s).supply = s.supply := rfl
@[simp] theorem logPut_pins (e : LogEntry) : (logPut e s).pins = s.pins := rfl
@[simp] theorem logPut_dev (e : LogEntry) : (logPut e s).dev = s.dev := rfl
@[simp] theorem logPut_keep (e : LogEntry) : (logPut e s).keep = s.keep := rfl
@[simp] theorem logPut_bel (e : LogEntry) : (logPut e s).bel = s.bel := rfl
@[simp] theorem logPut_ctxs (e : LogEntry) : (logPut e s).ctxs = s.ctxs := rfl
@[simp] theorem logPut_groups (e : LogEntry) : (logPut e s).groups = s.groups := rfl
@[simp] theorem logPut_camp (e : LogEntry) : (logPut e s).camp = s.camp := rfl
@[simp] theorem logPut_cup (e : LogEntry) : (logPut e s).cup = s.cup := rfl
@[simp] theorem logPut_lanes (e : LogEntry) : (logPut e s).lanes = s.lanes := rfl
@[simp] theorem logPut_flows (e : LogEntry) : (logPut e s).flows = s.flows := rfl
@[simp] theorem logPut_mem (e : LogEntry) : (logPut e s).mem = s.mem := rfl
@[simp] theorem logPut_dma (e : LogEntry) : (logPut e s).dma = s.dma := rfl
@[simp] theorem logPut_watch (e : LogEntry) : (logPut e s).watch = s.watch := rfl
@[simp] theorem logPut_counters (e : LogEntry) : (logPut e s).counters = s.counters := rfl
@[simp] theorem logPut_irq (e : LogEntry) : (logPut e s).irq = s.irq := rfl
@[simp] theorem logPut_irqEn (e : LogEntry) : (logPut e s).irqEn = s.irqEn := rfl
@[simp] theorem logPut_alertEn (e : LogEntry) : (logPut e s).alertEn = s.alertEn := rfl
@[simp] theorem logPut_msix (e : LogEntry) : (logPut e s).msix = s.msix := rfl
@[simp] theorem logPut_msixMasked (e : LogEntry) : (logPut e s).msixMasked = s.msixMasked := rfl
@[simp] theorem logPut_msixPending (e : LogEntry) : (logPut e s).msixPending = s.msixPending := rfl
@[simp] theorem logPut_tick (e : LogEntry) : (logPut e s).tick = s.tick := rfl
@[simp] theorem logPut_free (e : LogEntry) : (logPut e s).free = s.free := rfl
@[simp] theorem logPut_out (e : LogEntry) : (logPut e s).out = s.out := rfl
@[simp] theorem logPut_pending (e : LogEntry) : (logPut e s).pending = s.pending := rfl
@[simp] theorem modRing_supply (r : Nat) (f : Ring → Ring) : (modRing r f s).supply = s.supply := rfl
@[simp] theorem modRing_pins (r : Nat) (f : Ring → Ring) : (modRing r f s).pins = s.pins := rfl
@[simp] theorem modRing_dev (r : Nat) (f : Ring → Ring) : (modRing r f s).dev = s.dev := rfl
@[simp] theorem modRing_keep (r : Nat) (f : Ring → Ring) : (modRing r f s).keep = s.keep := rfl
@[simp] theorem modRing_bel (r : Nat) (f : Ring → Ring) : (modRing r f s).bel = s.bel := rfl
@[simp] theorem modRing_ctxs (r : Nat) (f : Ring → Ring) : (modRing r f s).ctxs = s.ctxs := rfl
@[simp] theorem modRing_groups (r : Nat) (f : Ring → Ring) : (modRing r f s).groups = s.groups := rfl
@[simp] theorem modRing_camp (r : Nat) (f : Ring → Ring) : (modRing r f s).camp = s.camp := rfl
@[simp] theorem modRing_cup (r : Nat) (f : Ring → Ring) : (modRing r f s).cup = s.cup := rfl
@[simp] theorem modRing_lanes (r : Nat) (f : Ring → Ring) : (modRing r f s).lanes = s.lanes := rfl
@[simp] theorem modRing_flows (r : Nat) (f : Ring → Ring) : (modRing r f s).flows = s.flows := rfl
@[simp] theorem modRing_mem (r : Nat) (f : Ring → Ring) : (modRing r f s).mem = s.mem := rfl
@[simp] theorem modRing_dma (r : Nat) (f : Ring → Ring) : (modRing r f s).dma = s.dma := rfl
@[simp] theorem modRing_watch (r : Nat) (f : Ring → Ring) : (modRing r f s).watch = s.watch := rfl
@[simp] theorem modRing_counters (r : Nat) (f : Ring → Ring) : (modRing r f s).counters = s.counters := rfl
@[simp] theorem modRing_irq (r : Nat) (f : Ring → Ring) : (modRing r f s).irq = s.irq := rfl
@[simp] theorem modRing_irqEn (r : Nat) (f : Ring → Ring) : (modRing r f s).irqEn = s.irqEn := rfl
@[simp] theorem modRing_alertEn (r : Nat) (f : Ring → Ring) : (modRing r f s).alertEn = s.alertEn := rfl
@[simp] theorem modRing_msix (r : Nat) (f : Ring → Ring) : (modRing r f s).msix = s.msix := rfl
@[simp] theorem modRing_msixMasked (r : Nat) (f : Ring → Ring) : (modRing r f s).msixMasked = s.msixMasked := rfl
@[simp] theorem modRing_msixPending (r : Nat) (f : Ring → Ring) : (modRing r f s).msixPending = s.msixPending := rfl
@[simp] theorem modRing_tick (r : Nat) (f : Ring → Ring) : (modRing r f s).tick = s.tick := rfl
@[simp] theorem modRing_free (r : Nat) (f : Ring → Ring) : (modRing r f s).free = s.free := rfl
@[simp] theorem modRing_out (r : Nat) (f : Ring → Ring) : (modRing r f s).out = s.out := rfl
@[simp] theorem modRing_pending (r : Nat) (f : Ring → Ring) : (modRing r f s).pending = s.pending := rfl
@[simp] theorem modEvq_supply (f : Evq → Evq) : (modEvq f s).supply = s.supply := rfl
@[simp] theorem modEvq_pins (f : Evq → Evq) : (modEvq f s).pins = s.pins := rfl
@[simp] theorem modEvq_dev (f : Evq → Evq) : (modEvq f s).dev = s.dev := rfl
@[simp] theorem modEvq_keep (f : Evq → Evq) : (modEvq f s).keep = s.keep := rfl
@[simp] theorem modEvq_bel (f : Evq → Evq) : (modEvq f s).bel = s.bel := rfl
@[simp] theorem modEvq_ctxs (f : Evq → Evq) : (modEvq f s).ctxs = s.ctxs := rfl
@[simp] theorem modEvq_groups (f : Evq → Evq) : (modEvq f s).groups = s.groups := rfl
@[simp] theorem modEvq_camp (f : Evq → Evq) : (modEvq f s).camp = s.camp := rfl
@[simp] theorem modEvq_cup (f : Evq → Evq) : (modEvq f s).cup = s.cup := rfl
@[simp] theorem modEvq_lanes (f : Evq → Evq) : (modEvq f s).lanes = s.lanes := rfl
@[simp] theorem modEvq_flows (f : Evq → Evq) : (modEvq f s).flows = s.flows := rfl
@[simp] theorem modEvq_mem (f : Evq → Evq) : (modEvq f s).mem = s.mem := rfl
@[simp] theorem modEvq_dma (f : Evq → Evq) : (modEvq f s).dma = s.dma := rfl
@[simp] theorem modEvq_watch (f : Evq → Evq) : (modEvq f s).watch = s.watch := rfl
@[simp] theorem modEvq_counters (f : Evq → Evq) : (modEvq f s).counters = s.counters := rfl
@[simp] theorem modEvq_irq (f : Evq → Evq) : (modEvq f s).irq = s.irq := rfl
@[simp] theorem modEvq_irqEn (f : Evq → Evq) : (modEvq f s).irqEn = s.irqEn := rfl
@[simp] theorem modEvq_alertEn (f : Evq → Evq) : (modEvq f s).alertEn = s.alertEn := rfl
@[simp] theorem modEvq_msix (f : Evq → Evq) : (modEvq f s).msix = s.msix := rfl
@[simp] theorem modEvq_msixMasked (f : Evq → Evq) : (modEvq f s).msixMasked = s.msixMasked := rfl
@[simp] theorem modEvq_msixPending (f : Evq → Evq) : (modEvq f s).msixPending = s.msixPending := rfl
@[simp] theorem modEvq_tick (f : Evq → Evq) : (modEvq f s).tick = s.tick := rfl
@[simp] theorem modEvq_free (f : Evq → Evq) : (modEvq f s).free = s.free := rfl
@[simp] theorem modEvq_out (f : Evq → Evq) : (modEvq f s).out = s.out := rfl
@[simp] theorem modEvq_pending (f : Evq → Evq) : (modEvq f s).pending = s.pending := rfl
@[simp] theorem setSub_supply (i : Nat) (u : Sub) : (setSub i u s).supply = s.supply := rfl
@[simp] theorem setSub_pins (i : Nat) (u : Sub) : (setSub i u s).pins = s.pins := rfl
@[simp] theorem setSub_dev (i : Nat) (u : Sub) : (setSub i u s).dev = s.dev := rfl
@[simp] theorem setSub_keep (i : Nat) (u : Sub) : (setSub i u s).keep = s.keep := rfl
@[simp] theorem setSub_bel (i : Nat) (u : Sub) : (setSub i u s).bel = s.bel := rfl
@[simp] theorem setSub_ctxs (i : Nat) (u : Sub) : (setSub i u s).ctxs = s.ctxs := rfl
@[simp] theorem setSub_groups (i : Nat) (u : Sub) : (setSub i u s).groups = s.groups := rfl
@[simp] theorem setSub_camp (i : Nat) (u : Sub) : (setSub i u s).camp = s.camp := rfl
@[simp] theorem setSub_cup (i : Nat) (u : Sub) : (setSub i u s).cup = s.cup := rfl
@[simp] theorem setSub_lanes (i : Nat) (u : Sub) : (setSub i u s).lanes = s.lanes := rfl
@[simp] theorem setSub_flows (i : Nat) (u : Sub) : (setSub i u s).flows = s.flows := rfl
@[simp] theorem setSub_mem (i : Nat) (u : Sub) : (setSub i u s).mem = s.mem := rfl
@[simp] theorem setSub_dma (i : Nat) (u : Sub) : (setSub i u s).dma = s.dma := rfl
@[simp] theorem setSub_watch (i : Nat) (u : Sub) : (setSub i u s).watch = s.watch := rfl
@[simp] theorem setSub_counters (i : Nat) (u : Sub) : (setSub i u s).counters = s.counters := rfl
@[simp] theorem setSub_irq (i : Nat) (u : Sub) : (setSub i u s).irq = s.irq := rfl
@[simp] theorem setSub_irqEn (i : Nat) (u : Sub) : (setSub i u s).irqEn = s.irqEn := rfl
@[simp] theorem setSub_alertEn (i : Nat) (u : Sub) : (setSub i u s).alertEn = s.alertEn := rfl
@[simp] theorem setSub_msix (i : Nat) (u : Sub) : (setSub i u s).msix = s.msix := rfl
@[simp] theorem setSub_msixMasked (i : Nat) (u : Sub) : (setSub i u s).msixMasked = s.msixMasked := rfl
@[simp] theorem setSub_msixPending (i : Nat) (u : Sub) : (setSub i u s).msixPending = s.msixPending := rfl
@[simp] theorem setSub_tick (i : Nat) (u : Sub) : (setSub i u s).tick = s.tick := rfl
@[simp] theorem setSub_free (i : Nat) (u : Sub) : (setSub i u s).free = s.free := rfl
@[simp] theorem setSub_out (i : Nat) (u : Sub) : (setSub i u s).out = s.out := rfl
@[simp] theorem setSub_pending (i : Nat) (u : Sub) : (setSub i u s).pending = s.pending := rfl
@[simp] theorem modIflow_supply (i : Nat) (f : IFlow → IFlow) : (modIflow i f s).supply = s.supply := rfl
@[simp] theorem modIflow_pins (i : Nat) (f : IFlow → IFlow) : (modIflow i f s).pins = s.pins := rfl
@[simp] theorem modIflow_dev (i : Nat) (f : IFlow → IFlow) : (modIflow i f s).dev = s.dev := rfl
@[simp] theorem modIflow_keep (i : Nat) (f : IFlow → IFlow) : (modIflow i f s).keep = s.keep := rfl
@[simp] theorem modIflow_cmd (i : Nat) (f : IFlow → IFlow) : (modIflow i f s).cmd = s.cmd := rfl
@[simp] theorem modIflow_bel (i : Nat) (f : IFlow → IFlow) : (modIflow i f s).bel = s.bel := rfl
@[simp] theorem modIflow_ctxs (i : Nat) (f : IFlow → IFlow) : (modIflow i f s).ctxs = s.ctxs := rfl
@[simp] theorem modIflow_groups (i : Nat) (f : IFlow → IFlow) : (modIflow i f s).groups = s.groups := rfl
@[simp] theorem modIflow_camp (i : Nat) (f : IFlow → IFlow) : (modIflow i f s).camp = s.camp := rfl
@[simp] theorem modIflow_cup (i : Nat) (f : IFlow → IFlow) : (modIflow i f s).cup = s.cup := rfl
@[simp] theorem modIflow_lanes (i : Nat) (f : IFlow → IFlow) : (modIflow i f s).lanes = s.lanes := rfl
@[simp] theorem modIflow_mem (i : Nat) (f : IFlow → IFlow) : (modIflow i f s).mem = s.mem := rfl
@[simp] theorem modIflow_dma (i : Nat) (f : IFlow → IFlow) : (modIflow i f s).dma = s.dma := rfl
@[simp] theorem modIflow_watch (i : Nat) (f : IFlow → IFlow) : (modIflow i f s).watch = s.watch := rfl
@[simp] theorem modIflow_counters (i : Nat) (f : IFlow → IFlow) : (modIflow i f s).counters = s.counters := rfl
@[simp] theorem modIflow_irq (i : Nat) (f : IFlow → IFlow) : (modIflow i f s).irq = s.irq := rfl
@[simp] theorem modIflow_irqEn (i : Nat) (f : IFlow → IFlow) : (modIflow i f s).irqEn = s.irqEn := rfl
@[simp] theorem modIflow_alertEn (i : Nat) (f : IFlow → IFlow) : (modIflow i f s).alertEn = s.alertEn := rfl
@[simp] theorem modIflow_msix (i : Nat) (f : IFlow → IFlow) : (modIflow i f s).msix = s.msix := rfl
@[simp] theorem modIflow_msixMasked (i : Nat) (f : IFlow → IFlow) : (modIflow i f s).msixMasked = s.msixMasked := rfl
@[simp] theorem modIflow_msixPending (i : Nat) (f : IFlow → IFlow) : (modIflow i f s).msixPending = s.msixPending := rfl
@[simp] theorem modIflow_tick (i : Nat) (f : IFlow → IFlow) : (modIflow i f s).tick = s.tick := rfl
@[simp] theorem modIflow_free (i : Nat) (f : IFlow → IFlow) : (modIflow i f s).free = s.free := rfl
@[simp] theorem modIflow_out (i : Nat) (f : IFlow → IFlow) : (modIflow i f s).out = s.out := rfl
@[simp] theorem modIflow_pending (i : Nat) (f : IFlow → IFlow) : (modIflow i f s).pending = s.pending := rfl
@[simp] theorem setEflow_supply (i : Nat) (x : Option EFlow) : (setEflow i x s).supply = s.supply := rfl
@[simp] theorem setEflow_pins (i : Nat) (x : Option EFlow) : (setEflow i x s).pins = s.pins := rfl
@[simp] theorem setEflow_dev (i : Nat) (x : Option EFlow) : (setEflow i x s).dev = s.dev := rfl
@[simp] theorem setEflow_keep (i : Nat) (x : Option EFlow) : (setEflow i x s).keep = s.keep := rfl
@[simp] theorem setEflow_cmd (i : Nat) (x : Option EFlow) : (setEflow i x s).cmd = s.cmd := rfl
@[simp] theorem setEflow_bel (i : Nat) (x : Option EFlow) : (setEflow i x s).bel = s.bel := rfl
@[simp] theorem setEflow_ctxs (i : Nat) (x : Option EFlow) : (setEflow i x s).ctxs = s.ctxs := rfl
@[simp] theorem setEflow_groups (i : Nat) (x : Option EFlow) : (setEflow i x s).groups = s.groups := rfl
@[simp] theorem setEflow_camp (i : Nat) (x : Option EFlow) : (setEflow i x s).camp = s.camp := rfl
@[simp] theorem setEflow_cup (i : Nat) (x : Option EFlow) : (setEflow i x s).cup = s.cup := rfl
@[simp] theorem setEflow_lanes (i : Nat) (x : Option EFlow) : (setEflow i x s).lanes = s.lanes := rfl
@[simp] theorem setEflow_mem (i : Nat) (x : Option EFlow) : (setEflow i x s).mem = s.mem := rfl
@[simp] theorem setEflow_dma (i : Nat) (x : Option EFlow) : (setEflow i x s).dma = s.dma := rfl
@[simp] theorem setEflow_watch (i : Nat) (x : Option EFlow) : (setEflow i x s).watch = s.watch := rfl
@[simp] theorem setEflow_counters (i : Nat) (x : Option EFlow) : (setEflow i x s).counters = s.counters := rfl
@[simp] theorem setEflow_irq (i : Nat) (x : Option EFlow) : (setEflow i x s).irq = s.irq := rfl
@[simp] theorem setEflow_irqEn (i : Nat) (x : Option EFlow) : (setEflow i x s).irqEn = s.irqEn := rfl
@[simp] theorem setEflow_alertEn (i : Nat) (x : Option EFlow) : (setEflow i x s).alertEn = s.alertEn := rfl
@[simp] theorem setEflow_msix (i : Nat) (x : Option EFlow) : (setEflow i x s).msix = s.msix := rfl
@[simp] theorem setEflow_msixMasked (i : Nat) (x : Option EFlow) : (setEflow i x s).msixMasked = s.msixMasked := rfl
@[simp] theorem setEflow_msixPending (i : Nat) (x : Option EFlow) : (setEflow i x s).msixPending = s.msixPending := rfl
@[simp] theorem setEflow_tick (i : Nat) (x : Option EFlow) : (setEflow i x s).tick = s.tick := rfl
@[simp] theorem setEflow_free (i : Nat) (x : Option EFlow) : (setEflow i x s).free = s.free := rfl
@[simp] theorem setEflow_out (i : Nat) (x : Option EFlow) : (setEflow i x s).out = s.out := rfl
@[simp] theorem setEflow_pending (i : Nat) (x : Option EFlow) : (setEflow i x s).pending = s.pending := rfl
@[simp] theorem setDrr_supply (p k : Nat) (q : Drr) : (setDrr p k q s).supply = s.supply := rfl
@[simp] theorem setDrr_pins (p k : Nat) (q : Drr) : (setDrr p k q s).pins = s.pins := rfl
@[simp] theorem setDrr_dev (p k : Nat) (q : Drr) : (setDrr p k q s).dev = s.dev := rfl
@[simp] theorem setDrr_keep (p k : Nat) (q : Drr) : (setDrr p k q s).keep = s.keep := rfl
@[simp] theorem setDrr_cmd (p k : Nat) (q : Drr) : (setDrr p k q s).cmd = s.cmd := rfl
@[simp] theorem setDrr_bel (p k : Nat) (q : Drr) : (setDrr p k q s).bel = s.bel := rfl
@[simp] theorem setDrr_ctxs (p k : Nat) (q : Drr) : (setDrr p k q s).ctxs = s.ctxs := rfl
@[simp] theorem setDrr_groups (p k : Nat) (q : Drr) : (setDrr p k q s).groups = s.groups := rfl
@[simp] theorem setDrr_camp (p k : Nat) (q : Drr) : (setDrr p k q s).camp = s.camp := rfl
@[simp] theorem setDrr_cup (p k : Nat) (q : Drr) : (setDrr p k q s).cup = s.cup := rfl
@[simp] theorem setDrr_lanes (p k : Nat) (q : Drr) : (setDrr p k q s).lanes = s.lanes := rfl
@[simp] theorem setDrr_mem (p k : Nat) (q : Drr) : (setDrr p k q s).mem = s.mem := rfl
@[simp] theorem setDrr_dma (p k : Nat) (q : Drr) : (setDrr p k q s).dma = s.dma := rfl
@[simp] theorem setDrr_watch (p k : Nat) (q : Drr) : (setDrr p k q s).watch = s.watch := rfl
@[simp] theorem setDrr_counters (p k : Nat) (q : Drr) : (setDrr p k q s).counters = s.counters := rfl
@[simp] theorem setDrr_irq (p k : Nat) (q : Drr) : (setDrr p k q s).irq = s.irq := rfl
@[simp] theorem setDrr_irqEn (p k : Nat) (q : Drr) : (setDrr p k q s).irqEn = s.irqEn := rfl
@[simp] theorem setDrr_alertEn (p k : Nat) (q : Drr) : (setDrr p k q s).alertEn = s.alertEn := rfl
@[simp] theorem setDrr_msix (p k : Nat) (q : Drr) : (setDrr p k q s).msix = s.msix := rfl
@[simp] theorem setDrr_msixMasked (p k : Nat) (q : Drr) : (setDrr p k q s).msixMasked = s.msixMasked := rfl
@[simp] theorem setDrr_msixPending (p k : Nat) (q : Drr) : (setDrr p k q s).msixPending = s.msixPending := rfl
@[simp] theorem setDrr_tick (p k : Nat) (q : Drr) : (setDrr p k q s).tick = s.tick := rfl
@[simp] theorem setDrr_free (p k : Nat) (q : Drr) : (setDrr p k q s).free = s.free := rfl
@[simp] theorem setDrr_out (p k : Nat) (q : Drr) : (setDrr p k q s).out = s.out := rfl
@[simp] theorem setDrr_pending (p k : Nat) (q : Drr) : (setDrr p k q s).pending = s.pending := rfl
@[simp] theorem modLane_supply (n : Nat) (f : Lane → Lane) : (modLane n f s).supply = s.supply := rfl
@[simp] theorem modLane_pins (n : Nat) (f : Lane → Lane) : (modLane n f s).pins = s.pins := rfl
@[simp] theorem modLane_dev (n : Nat) (f : Lane → Lane) : (modLane n f s).dev = s.dev := rfl
@[simp] theorem modLane_keep (n : Nat) (f : Lane → Lane) : (modLane n f s).keep = s.keep := rfl
@[simp] theorem modLane_cmd (n : Nat) (f : Lane → Lane) : (modLane n f s).cmd = s.cmd := rfl
@[simp] theorem modLane_bel (n : Nat) (f : Lane → Lane) : (modLane n f s).bel = s.bel := rfl
@[simp] theorem modLane_ctxs (n : Nat) (f : Lane → Lane) : (modLane n f s).ctxs = s.ctxs := rfl
@[simp] theorem modLane_groups (n : Nat) (f : Lane → Lane) : (modLane n f s).groups = s.groups := rfl
@[simp] theorem modLane_camp (n : Nat) (f : Lane → Lane) : (modLane n f s).camp = s.camp := rfl
@[simp] theorem modLane_cup (n : Nat) (f : Lane → Lane) : (modLane n f s).cup = s.cup := rfl
@[simp] theorem modLane_flows (n : Nat) (f : Lane → Lane) : (modLane n f s).flows = s.flows := rfl
@[simp] theorem modLane_mem (n : Nat) (f : Lane → Lane) : (modLane n f s).mem = s.mem := rfl
@[simp] theorem modLane_dma (n : Nat) (f : Lane → Lane) : (modLane n f s).dma = s.dma := rfl
@[simp] theorem modLane_watch (n : Nat) (f : Lane → Lane) : (modLane n f s).watch = s.watch := rfl
@[simp] theorem modLane_counters (n : Nat) (f : Lane → Lane) : (modLane n f s).counters = s.counters := rfl
@[simp] theorem modLane_irq (n : Nat) (f : Lane → Lane) : (modLane n f s).irq = s.irq := rfl
@[simp] theorem modLane_irqEn (n : Nat) (f : Lane → Lane) : (modLane n f s).irqEn = s.irqEn := rfl
@[simp] theorem modLane_alertEn (n : Nat) (f : Lane → Lane) : (modLane n f s).alertEn = s.alertEn := rfl
@[simp] theorem modLane_msix (n : Nat) (f : Lane → Lane) : (modLane n f s).msix = s.msix := rfl
@[simp] theorem modLane_msixMasked (n : Nat) (f : Lane → Lane) : (modLane n f s).msixMasked = s.msixMasked := rfl
@[simp] theorem modLane_msixPending (n : Nat) (f : Lane → Lane) : (modLane n f s).msixPending = s.msixPending := rfl
@[simp] theorem modLane_tick (n : Nat) (f : Lane → Lane) : (modLane n f s).tick = s.tick := rfl
@[simp] theorem modLane_free (n : Nat) (f : Lane → Lane) : (modLane n f s).free = s.free := rfl
@[simp] theorem modLane_out (n : Nat) (f : Lane → Lane) : (modLane n f s).out = s.out := rfl
@[simp] theorem modLane_pending (n : Nat) (f : Lane → Lane) : (modLane n f s).pending = s.pending := rfl
@[simp] theorem setPort_supply (k : Nat) (p : Port) : (setPort k p s).supply = s.supply := rfl
@[simp] theorem setPort_pins (k : Nat) (p : Port) : (setPort k p s).pins = s.pins := rfl
@[simp] theorem setPort_dev (k : Nat) (p : Port) : (setPort k p s).dev = s.dev := rfl
@[simp] theorem setPort_keep (k : Nat) (p : Port) : (setPort k p s).keep = s.keep := rfl
@[simp] theorem setPort_cmd (k : Nat) (p : Port) : (setPort k p s).cmd = s.cmd := rfl
@[simp] theorem setPort_bel (k : Nat) (p : Port) : (setPort k p s).bel = s.bel := rfl
@[simp] theorem setPort_ctxs (k : Nat) (p : Port) : (setPort k p s).ctxs = s.ctxs := rfl
@[simp] theorem setPort_groups (k : Nat) (p : Port) : (setPort k p s).groups = s.groups := rfl
@[simp] theorem setPort_camp (k : Nat) (p : Port) : (setPort k p s).camp = s.camp := rfl
@[simp] theorem setPort_cup (k : Nat) (p : Port) : (setPort k p s).cup = s.cup := rfl
@[simp] theorem setPort_flows (k : Nat) (p : Port) : (setPort k p s).flows = s.flows := rfl
@[simp] theorem setPort_mem (k : Nat) (p : Port) : (setPort k p s).mem = s.mem := rfl
@[simp] theorem setPort_dma (k : Nat) (p : Port) : (setPort k p s).dma = s.dma := rfl
@[simp] theorem setPort_watch (k : Nat) (p : Port) : (setPort k p s).watch = s.watch := rfl
@[simp] theorem setPort_counters (k : Nat) (p : Port) : (setPort k p s).counters = s.counters := rfl
@[simp] theorem setPort_irq (k : Nat) (p : Port) : (setPort k p s).irq = s.irq := rfl
@[simp] theorem setPort_irqEn (k : Nat) (p : Port) : (setPort k p s).irqEn = s.irqEn := rfl
@[simp] theorem setPort_alertEn (k : Nat) (p : Port) : (setPort k p s).alertEn = s.alertEn := rfl
@[simp] theorem setPort_msix (k : Nat) (p : Port) : (setPort k p s).msix = s.msix := rfl
@[simp] theorem setPort_msixMasked (k : Nat) (p : Port) : (setPort k p s).msixMasked = s.msixMasked := rfl
@[simp] theorem setPort_msixPending (k : Nat) (p : Port) : (setPort k p s).msixPending = s.msixPending := rfl
@[simp] theorem setPort_tick (k : Nat) (p : Port) : (setPort k p s).tick = s.tick := rfl
@[simp] theorem setPort_free (k : Nat) (p : Port) : (setPort k p s).free = s.free := rfl
@[simp] theorem setPort_out (k : Nat) (p : Port) : (setPort k p s).out = s.out := rfl
@[simp] theorem setPort_pending (k : Nat) (p : Port) : (setPort k p s).pending = s.pending := rfl
@[simp] theorem memStore_supply (a : Nat) (l : List Byte) : (memStore a l s).supply = s.supply := rfl
@[simp] theorem memStore_pins (a : Nat) (l : List Byte) : (memStore a l s).pins = s.pins := rfl
@[simp] theorem memStore_dev (a : Nat) (l : List Byte) : (memStore a l s).dev = s.dev := rfl
@[simp] theorem memStore_keep (a : Nat) (l : List Byte) : (memStore a l s).keep = s.keep := rfl
@[simp] theorem memStore_cmd (a : Nat) (l : List Byte) : (memStore a l s).cmd = s.cmd := rfl
@[simp] theorem memStore_bel (a : Nat) (l : List Byte) : (memStore a l s).bel = s.bel := rfl
@[simp] theorem memStore_ctxs (a : Nat) (l : List Byte) : (memStore a l s).ctxs = s.ctxs := rfl
@[simp] theorem memStore_groups (a : Nat) (l : List Byte) : (memStore a l s).groups = s.groups := rfl
@[simp] theorem memStore_camp (a : Nat) (l : List Byte) : (memStore a l s).camp = s.camp := rfl
@[simp] theorem memStore_cup (a : Nat) (l : List Byte) : (memStore a l s).cup = s.cup := rfl
@[simp] theorem memStore_lanes (a : Nat) (l : List Byte) : (memStore a l s).lanes = s.lanes := rfl
@[simp] theorem memStore_flows (a : Nat) (l : List Byte) : (memStore a l s).flows = s.flows := rfl
@[simp] theorem memStore_dma (a : Nat) (l : List Byte) : (memStore a l s).dma = s.dma := rfl
@[simp] theorem memStore_watch (a : Nat) (l : List Byte) : (memStore a l s).watch = s.watch := rfl
@[simp] theorem memStore_counters (a : Nat) (l : List Byte) : (memStore a l s).counters = s.counters := rfl
@[simp] theorem memStore_irq (a : Nat) (l : List Byte) : (memStore a l s).irq = s.irq := rfl
@[simp] theorem memStore_irqEn (a : Nat) (l : List Byte) : (memStore a l s).irqEn = s.irqEn := rfl
@[simp] theorem memStore_alertEn (a : Nat) (l : List Byte) : (memStore a l s).alertEn = s.alertEn := rfl
@[simp] theorem memStore_msix (a : Nat) (l : List Byte) : (memStore a l s).msix = s.msix := rfl
@[simp] theorem memStore_msixMasked (a : Nat) (l : List Byte) : (memStore a l s).msixMasked = s.msixMasked := rfl
@[simp] theorem memStore_msixPending (a : Nat) (l : List Byte) : (memStore a l s).msixPending = s.msixPending := rfl
@[simp] theorem memStore_tick (a : Nat) (l : List Byte) : (memStore a l s).tick = s.tick := rfl
@[simp] theorem memStore_free (a : Nat) (l : List Byte) : (memStore a l s).free = s.free := rfl
@[simp] theorem memStore_out (a : Nat) (l : List Byte) : (memStore a l s).out = s.out := rfl
@[simp] theorem memStore_pending (a : Nat) (l : List Byte) : (memStore a l s).pending = s.pending := rfl
@[simp] theorem memWrite_supply (a : Nat) (l : List Byte) : (memWrite a l s).supply = s.supply := rfl
@[simp] theorem memWrite_pins (a : Nat) (l : List Byte) : (memWrite a l s).pins = s.pins := rfl
@[simp] theorem memWrite_dev (a : Nat) (l : List Byte) : (memWrite a l s).dev = s.dev := rfl
@[simp] theorem memWrite_keep (a : Nat) (l : List Byte) : (memWrite a l s).keep = s.keep := rfl
@[simp] theorem memWrite_cmd (a : Nat) (l : List Byte) : (memWrite a l s).cmd = s.cmd := rfl
@[simp] theorem memWrite_bel (a : Nat) (l : List Byte) : (memWrite a l s).bel = s.bel := rfl
@[simp] theorem memWrite_ctxs (a : Nat) (l : List Byte) : (memWrite a l s).ctxs = s.ctxs := rfl
@[simp] theorem memWrite_groups (a : Nat) (l : List Byte) : (memWrite a l s).groups = s.groups := rfl
@[simp] theorem memWrite_camp (a : Nat) (l : List Byte) : (memWrite a l s).camp = s.camp := rfl
@[simp] theorem memWrite_cup (a : Nat) (l : List Byte) : (memWrite a l s).cup = s.cup := rfl
@[simp] theorem memWrite_lanes (a : Nat) (l : List Byte) : (memWrite a l s).lanes = s.lanes := rfl
@[simp] theorem memWrite_flows (a : Nat) (l : List Byte) : (memWrite a l s).flows = s.flows := rfl
@[simp] theorem memWrite_dma (a : Nat) (l : List Byte) : (memWrite a l s).dma = s.dma := rfl
@[simp] theorem memWrite_watch (a : Nat) (l : List Byte) : (memWrite a l s).watch = s.watch := rfl
@[simp] theorem memWrite_counters (a : Nat) (l : List Byte) : (memWrite a l s).counters = s.counters := rfl
@[simp] theorem memWrite_irq (a : Nat) (l : List Byte) : (memWrite a l s).irq = s.irq := rfl
@[simp] theorem memWrite_irqEn (a : Nat) (l : List Byte) : (memWrite a l s).irqEn = s.irqEn := rfl
@[simp] theorem memWrite_alertEn (a : Nat) (l : List Byte) : (memWrite a l s).alertEn = s.alertEn := rfl
@[simp] theorem memWrite_msix (a : Nat) (l : List Byte) : (memWrite a l s).msix = s.msix := rfl
@[simp] theorem memWrite_msixMasked (a : Nat) (l : List Byte) : (memWrite a l s).msixMasked = s.msixMasked := rfl
@[simp] theorem memWrite_msixPending (a : Nat) (l : List Byte) : (memWrite a l s).msixPending = s.msixPending := rfl
@[simp] theorem memWrite_tick (a : Nat) (l : List Byte) : (memWrite a l s).tick = s.tick := rfl
@[simp] theorem memWrite_free (a : Nat) (l : List Byte) : (memWrite a l s).free = s.free := rfl
@[simp] theorem memWrite_out (a : Nat) (l : List Byte) : (memWrite a l s).out = s.out := rfl
@[simp] theorem memWrite_pending (a : Nat) (l : List Byte) : (memWrite a l s).pending = s.pending := rfl
@[simp] theorem modMem_supply (f : Mem → Mem) : (modMem f s).supply = s.supply := rfl
@[simp] theorem modMem_pins (f : Mem → Mem) : (modMem f s).pins = s.pins := rfl
@[simp] theorem modMem_dev (f : Mem → Mem) : (modMem f s).dev = s.dev := rfl
@[simp] theorem modMem_keep (f : Mem → Mem) : (modMem f s).keep = s.keep := rfl
@[simp] theorem modMem_cmd (f : Mem → Mem) : (modMem f s).cmd = s.cmd := rfl
@[simp] theorem modMem_bel (f : Mem → Mem) : (modMem f s).bel = s.bel := rfl
@[simp] theorem modMem_ctxs (f : Mem → Mem) : (modMem f s).ctxs = s.ctxs := rfl
@[simp] theorem modMem_groups (f : Mem → Mem) : (modMem f s).groups = s.groups := rfl
@[simp] theorem modMem_camp (f : Mem → Mem) : (modMem f s).camp = s.camp := rfl
@[simp] theorem modMem_cup (f : Mem → Mem) : (modMem f s).cup = s.cup := rfl
@[simp] theorem modMem_lanes (f : Mem → Mem) : (modMem f s).lanes = s.lanes := rfl
@[simp] theorem modMem_flows (f : Mem → Mem) : (modMem f s).flows = s.flows := rfl
@[simp] theorem modMem_dma (f : Mem → Mem) : (modMem f s).dma = s.dma := rfl
@[simp] theorem modMem_watch (f : Mem → Mem) : (modMem f s).watch = s.watch := rfl
@[simp] theorem modMem_counters (f : Mem → Mem) : (modMem f s).counters = s.counters := rfl
@[simp] theorem modMem_irq (f : Mem → Mem) : (modMem f s).irq = s.irq := rfl
@[simp] theorem modMem_irqEn (f : Mem → Mem) : (modMem f s).irqEn = s.irqEn := rfl
@[simp] theorem modMem_alertEn (f : Mem → Mem) : (modMem f s).alertEn = s.alertEn := rfl
@[simp] theorem modMem_msix (f : Mem → Mem) : (modMem f s).msix = s.msix := rfl
@[simp] theorem modMem_msixMasked (f : Mem → Mem) : (modMem f s).msixMasked = s.msixMasked := rfl
@[simp] theorem modMem_msixPending (f : Mem → Mem) : (modMem f s).msixPending = s.msixPending := rfl
@[simp] theorem modMem_tick (f : Mem → Mem) : (modMem f s).tick = s.tick := rfl
@[simp] theorem modMem_free (f : Mem → Mem) : (modMem f s).free = s.free := rfl
@[simp] theorem modMem_out (f : Mem → Mem) : (modMem f s).out = s.out := rfl
@[simp] theorem modMem_pending (f : Mem → Mem) : (modMem f s).pending = s.pending := rfl
@[simp] theorem modChan_supply (c : Nat) (f : Chan8 → Chan8) : (modChan c f s).supply = s.supply := rfl
@[simp] theorem modChan_pins (c : Nat) (f : Chan8 → Chan8) : (modChan c f s).pins = s.pins := rfl
@[simp] theorem modChan_dev (c : Nat) (f : Chan8 → Chan8) : (modChan c f s).dev = s.dev := rfl
@[simp] theorem modChan_keep (c : Nat) (f : Chan8 → Chan8) : (modChan c f s).keep = s.keep := rfl
@[simp] theorem modChan_cmd (c : Nat) (f : Chan8 → Chan8) : (modChan c f s).cmd = s.cmd := rfl
@[simp] theorem modChan_bel (c : Nat) (f : Chan8 → Chan8) : (modChan c f s).bel = s.bel := rfl
@[simp] theorem modChan_ctxs (c : Nat) (f : Chan8 → Chan8) : (modChan c f s).ctxs = s.ctxs := rfl
@[simp] theorem modChan_groups (c : Nat) (f : Chan8 → Chan8) : (modChan c f s).groups = s.groups := rfl
@[simp] theorem modChan_camp (c : Nat) (f : Chan8 → Chan8) : (modChan c f s).camp = s.camp := rfl
@[simp] theorem modChan_cup (c : Nat) (f : Chan8 → Chan8) : (modChan c f s).cup = s.cup := rfl
@[simp] theorem modChan_lanes (c : Nat) (f : Chan8 → Chan8) : (modChan c f s).lanes = s.lanes := rfl
@[simp] theorem modChan_flows (c : Nat) (f : Chan8 → Chan8) : (modChan c f s).flows = s.flows := rfl
@[simp] theorem modChan_dma (c : Nat) (f : Chan8 → Chan8) : (modChan c f s).dma = s.dma := rfl
@[simp] theorem modChan_watch (c : Nat) (f : Chan8 → Chan8) : (modChan c f s).watch = s.watch := rfl
@[simp] theorem modChan_counters (c : Nat) (f : Chan8 → Chan8) : (modChan c f s).counters = s.counters := rfl
@[simp] theorem modChan_irq (c : Nat) (f : Chan8 → Chan8) : (modChan c f s).irq = s.irq := rfl
@[simp] theorem modChan_irqEn (c : Nat) (f : Chan8 → Chan8) : (modChan c f s).irqEn = s.irqEn := rfl
@[simp] theorem modChan_alertEn (c : Nat) (f : Chan8 → Chan8) : (modChan c f s).alertEn = s.alertEn := rfl
@[simp] theorem modChan_msix (c : Nat) (f : Chan8 → Chan8) : (modChan c f s).msix = s.msix := rfl
@[simp] theorem modChan_msixMasked (c : Nat) (f : Chan8 → Chan8) : (modChan c f s).msixMasked = s.msixMasked := rfl
@[simp] theorem modChan_msixPending (c : Nat) (f : Chan8 → Chan8) : (modChan c f s).msixPending = s.msixPending := rfl
@[simp] theorem modChan_tick (c : Nat) (f : Chan8 → Chan8) : (modChan c f s).tick = s.tick := rfl
@[simp] theorem modChan_free (c : Nat) (f : Chan8 → Chan8) : (modChan c f s).free = s.free := rfl
@[simp] theorem modChan_out (c : Nat) (f : Chan8 → Chan8) : (modChan c f s).out = s.out := rfl
@[simp] theorem modChan_pending (c : Nat) (f : Chan8 → Chan8) : (modChan c f s).pending = s.pending := rfl
@[simp] theorem modBank_supply (r b : Nat) (f : Bank → Bank) : (modBank r b f s).supply = s.supply := rfl
@[simp] theorem modBank_pins (r b : Nat) (f : Bank → Bank) : (modBank r b f s).pins = s.pins := rfl
@[simp] theorem modBank_dev (r b : Nat) (f : Bank → Bank) : (modBank r b f s).dev = s.dev := rfl
@[simp] theorem modBank_keep (r b : Nat) (f : Bank → Bank) : (modBank r b f s).keep = s.keep := rfl
@[simp] theorem modBank_cmd (r b : Nat) (f : Bank → Bank) : (modBank r b f s).cmd = s.cmd := rfl
@[simp] theorem modBank_bel (r b : Nat) (f : Bank → Bank) : (modBank r b f s).bel = s.bel := rfl
@[simp] theorem modBank_ctxs (r b : Nat) (f : Bank → Bank) : (modBank r b f s).ctxs = s.ctxs := rfl
@[simp] theorem modBank_groups (r b : Nat) (f : Bank → Bank) : (modBank r b f s).groups = s.groups := rfl
@[simp] theorem modBank_camp (r b : Nat) (f : Bank → Bank) : (modBank r b f s).camp = s.camp := rfl
@[simp] theorem modBank_cup (r b : Nat) (f : Bank → Bank) : (modBank r b f s).cup = s.cup := rfl
@[simp] theorem modBank_lanes (r b : Nat) (f : Bank → Bank) : (modBank r b f s).lanes = s.lanes := rfl
@[simp] theorem modBank_flows (r b : Nat) (f : Bank → Bank) : (modBank r b f s).flows = s.flows := rfl
@[simp] theorem modBank_dma (r b : Nat) (f : Bank → Bank) : (modBank r b f s).dma = s.dma := rfl
@[simp] theorem modBank_watch (r b : Nat) (f : Bank → Bank) : (modBank r b f s).watch = s.watch := rfl
@[simp] theorem modBank_counters (r b : Nat) (f : Bank → Bank) : (modBank r b f s).counters = s.counters := rfl
@[simp] theorem modBank_irq (r b : Nat) (f : Bank → Bank) : (modBank r b f s).irq = s.irq := rfl
@[simp] theorem modBank_irqEn (r b : Nat) (f : Bank → Bank) : (modBank r b f s).irqEn = s.irqEn := rfl
@[simp] theorem modBank_alertEn (r b : Nat) (f : Bank → Bank) : (modBank r b f s).alertEn = s.alertEn := rfl
@[simp] theorem modBank_msix (r b : Nat) (f : Bank → Bank) : (modBank r b f s).msix = s.msix := rfl
@[simp] theorem modBank_msixMasked (r b : Nat) (f : Bank → Bank) : (modBank r b f s).msixMasked = s.msixMasked := rfl
@[simp] theorem modBank_msixPending (r b : Nat) (f : Bank → Bank) : (modBank r b f s).msixPending = s.msixPending := rfl
@[simp] theorem modBank_tick (r b : Nat) (f : Bank → Bank) : (modBank r b f s).tick = s.tick := rfl
@[simp] theorem modBank_free (r b : Nat) (f : Bank → Bank) : (modBank r b f s).free = s.free := rfl
@[simp] theorem modBank_out (r b : Nat) (f : Bank → Bank) : (modBank r b f s).out = s.out := rfl
@[simp] theorem modBank_pending (r b : Nat) (f : Bank → Bank) : (modBank r b f s).pending = s.pending := rfl
@[simp] theorem send_supply (o : Out) : (send o s).supply = s.supply := rfl
@[simp] theorem send_pins (o : Out) : (send o s).pins = s.pins := rfl
@[simp] theorem send_dev (o : Out) : (send o s).dev = s.dev := rfl
@[simp] theorem send_keep (o : Out) : (send o s).keep = s.keep := rfl
@[simp] theorem send_cmd (o : Out) : (send o s).cmd = s.cmd := rfl
@[simp] theorem send_bel (o : Out) : (send o s).bel = s.bel := rfl
@[simp] theorem send_ctxs (o : Out) : (send o s).ctxs = s.ctxs := rfl
@[simp] theorem send_groups (o : Out) : (send o s).groups = s.groups := rfl
@[simp] theorem send_camp (o : Out) : (send o s).camp = s.camp := rfl
@[simp] theorem send_cup (o : Out) : (send o s).cup = s.cup := rfl
@[simp] theorem send_lanes (o : Out) : (send o s).lanes = s.lanes := rfl
@[simp] theorem send_flows (o : Out) : (send o s).flows = s.flows := rfl
@[simp] theorem send_mem (o : Out) : (send o s).mem = s.mem := rfl
@[simp] theorem send_dma (o : Out) : (send o s).dma = s.dma := rfl
@[simp] theorem send_watch (o : Out) : (send o s).watch = s.watch := rfl
@[simp] theorem send_counters (o : Out) : (send o s).counters = s.counters := rfl
@[simp] theorem send_irq (o : Out) : (send o s).irq = s.irq := rfl
@[simp] theorem send_irqEn (o : Out) : (send o s).irqEn = s.irqEn := rfl
@[simp] theorem send_alertEn (o : Out) : (send o s).alertEn = s.alertEn := rfl
@[simp] theorem send_msix (o : Out) : (send o s).msix = s.msix := rfl
@[simp] theorem send_msixMasked (o : Out) : (send o s).msixMasked = s.msixMasked := rfl
@[simp] theorem send_msixPending (o : Out) : (send o s).msixPending = s.msixPending := rfl
@[simp] theorem send_tick (o : Out) : (send o s).tick = s.tick := rfl
@[simp] theorem send_free (o : Out) : (send o s).free = s.free := rfl
@[simp] theorem send_pending (o : Out) : (send o s).pending = s.pending := rfl
@[simp] theorem bump_supply (k n : Nat) : (bump k n s).supply = s.supply := rfl
@[simp] theorem bump_pins (k n : Nat) : (bump k n s).pins = s.pins := rfl
@[simp] theorem bump_dev (k n : Nat) : (bump k n s).dev = s.dev := rfl
@[simp] theorem bump_keep (k n : Nat) : (bump k n s).keep = s.keep := rfl
@[simp] theorem bump_cmd (k n : Nat) : (bump k n s).cmd = s.cmd := rfl
@[simp] theorem bump_bel (k n : Nat) : (bump k n s).bel = s.bel := rfl
@[simp] theorem bump_ctxs (k n : Nat) : (bump k n s).ctxs = s.ctxs := rfl
@[simp] theorem bump_groups (k n : Nat) : (bump k n s).groups = s.groups := rfl
@[simp] theorem bump_camp (k n : Nat) : (bump k n s).camp = s.camp := rfl
@[simp] theorem bump_cup (k n : Nat) : (bump k n s).cup = s.cup := rfl
@[simp] theorem bump_lanes (k n : Nat) : (bump k n s).lanes = s.lanes := rfl
@[simp] theorem bump_flows (k n : Nat) : (bump k n s).flows = s.flows := rfl
@[simp] theorem bump_mem (k n : Nat) : (bump k n s).mem = s.mem := rfl
@[simp] theorem bump_dma (k n : Nat) : (bump k n s).dma = s.dma := rfl
@[simp] theorem bump_watch (k n : Nat) : (bump k n s).watch = s.watch := rfl
@[simp] theorem bump_irq (k n : Nat) : (bump k n s).irq = s.irq := rfl
@[simp] theorem bump_irqEn (k n : Nat) : (bump k n s).irqEn = s.irqEn := rfl
@[simp] theorem bump_alertEn (k n : Nat) : (bump k n s).alertEn = s.alertEn := rfl
@[simp] theorem bump_msix (k n : Nat) : (bump k n s).msix = s.msix := rfl
@[simp] theorem bump_msixMasked (k n : Nat) : (bump k n s).msixMasked = s.msixMasked := rfl
@[simp] theorem bump_msixPending (k n : Nat) : (bump k n s).msixPending = s.msixPending := rfl
@[simp] theorem bump_tick (k n : Nat) : (bump k n s).tick = s.tick := rfl
@[simp] theorem bump_free (k n : Nat) : (bump k n s).free = s.free := rfl
@[simp] theorem bump_out (k n : Nat) : (bump k n s).out = s.out := rfl
@[simp] theorem bump_pending (k n : Nat) : (bump k n s).pending = s.pending := rfl
@[simp] theorem raise_supply (b i : Nat) : (raise b i s).supply = s.supply := rfl
@[simp] theorem raise_pins (b i : Nat) : (raise b i s).pins = s.pins := rfl
@[simp] theorem raise_dev (b i : Nat) : (raise b i s).dev = s.dev := rfl
@[simp] theorem raise_keep (b i : Nat) : (raise b i s).keep = s.keep := rfl
@[simp] theorem raise_cmd (b i : Nat) : (raise b i s).cmd = s.cmd := rfl
@[simp] theorem raise_bel (b i : Nat) : (raise b i s).bel = s.bel := rfl
@[simp] theorem raise_ctxs (b i : Nat) : (raise b i s).ctxs = s.ctxs := rfl
@[simp] theorem raise_groups (b i : Nat) : (raise b i s).groups = s.groups := rfl
@[simp] theorem raise_camp (b i : Nat) : (raise b i s).camp = s.camp := rfl
@[simp] theorem raise_cup (b i : Nat) : (raise b i s).cup = s.cup := rfl
@[simp] theorem raise_lanes (b i : Nat) : (raise b i s).lanes = s.lanes := rfl
@[simp] theorem raise_flows (b i : Nat) : (raise b i s).flows = s.flows := rfl
@[simp] theorem raise_mem (b i : Nat) : (raise b i s).mem = s.mem := rfl
@[simp] theorem raise_dma (b i : Nat) : (raise b i s).dma = s.dma := rfl
@[simp] theorem raise_watch (b i : Nat) : (raise b i s).watch = s.watch := rfl
@[simp] theorem raise_counters (b i : Nat) : (raise b i s).counters = s.counters := rfl
@[simp] theorem raise_irqEn (b i : Nat) : (raise b i s).irqEn = s.irqEn := rfl
@[simp] theorem raise_alertEn (b i : Nat) : (raise b i s).alertEn = s.alertEn := rfl
@[simp] theorem raise_msix (b i : Nat) : (raise b i s).msix = s.msix := rfl
@[simp] theorem raise_msixMasked (b i : Nat) : (raise b i s).msixMasked = s.msixMasked := rfl
@[simp] theorem raise_msixPending (b i : Nat) : (raise b i s).msixPending = s.msixPending := rfl
@[simp] theorem raise_tick (b i : Nat) : (raise b i s).tick = s.tick := rfl
@[simp] theorem raise_free (b i : Nat) : (raise b i s).free = s.free := rfl
@[simp] theorem raise_out (b i : Nat) : (raise b i s).out = s.out := rfl
@[simp] theorem raise_pending (b i : Nat) : (raise b i s).pending = s.pending := rfl
@[simp] theorem modGpio_supply (g : Nat) (f : Gpio → Gpio) : (modGpio g f s).supply = s.supply := rfl
@[simp] theorem modGpio_dev (g : Nat) (f : Gpio → Gpio) : (modGpio g f s).dev = s.dev := rfl
@[simp] theorem modGpio_keep (g : Nat) (f : Gpio → Gpio) : (modGpio g f s).keep = s.keep := rfl
@[simp] theorem modGpio_cmd (g : Nat) (f : Gpio → Gpio) : (modGpio g f s).cmd = s.cmd := rfl
@[simp] theorem modGpio_bel (g : Nat) (f : Gpio → Gpio) : (modGpio g f s).bel = s.bel := rfl
@[simp] theorem modGpio_ctxs (g : Nat) (f : Gpio → Gpio) : (modGpio g f s).ctxs = s.ctxs := rfl
@[simp] theorem modGpio_groups (g : Nat) (f : Gpio → Gpio) : (modGpio g f s).groups = s.groups := rfl
@[simp] theorem modGpio_camp (g : Nat) (f : Gpio → Gpio) : (modGpio g f s).camp = s.camp := rfl
@[simp] theorem modGpio_cup (g : Nat) (f : Gpio → Gpio) : (modGpio g f s).cup = s.cup := rfl
@[simp] theorem modGpio_lanes (g : Nat) (f : Gpio → Gpio) : (modGpio g f s).lanes = s.lanes := rfl
@[simp] theorem modGpio_flows (g : Nat) (f : Gpio → Gpio) : (modGpio g f s).flows = s.flows := rfl
@[simp] theorem modGpio_mem (g : Nat) (f : Gpio → Gpio) : (modGpio g f s).mem = s.mem := rfl
@[simp] theorem modGpio_dma (g : Nat) (f : Gpio → Gpio) : (modGpio g f s).dma = s.dma := rfl
@[simp] theorem modGpio_watch (g : Nat) (f : Gpio → Gpio) : (modGpio g f s).watch = s.watch := rfl
@[simp] theorem modGpio_counters (g : Nat) (f : Gpio → Gpio) : (modGpio g f s).counters = s.counters := rfl
@[simp] theorem modGpio_irq (g : Nat) (f : Gpio → Gpio) : (modGpio g f s).irq = s.irq := rfl
@[simp] theorem modGpio_irqEn (g : Nat) (f : Gpio → Gpio) : (modGpio g f s).irqEn = s.irqEn := rfl
@[simp] theorem modGpio_alertEn (g : Nat) (f : Gpio → Gpio) : (modGpio g f s).alertEn = s.alertEn := rfl
@[simp] theorem modGpio_msix (g : Nat) (f : Gpio → Gpio) : (modGpio g f s).msix = s.msix := rfl
@[simp] theorem modGpio_msixMasked (g : Nat) (f : Gpio → Gpio) : (modGpio g f s).msixMasked = s.msixMasked := rfl
@[simp] theorem modGpio_msixPending (g : Nat) (f : Gpio → Gpio) : (modGpio g f s).msixPending = s.msixPending := rfl
@[simp] theorem modGpio_tick (g : Nat) (f : Gpio → Gpio) : (modGpio g f s).tick = s.tick := rfl
@[simp] theorem modGpio_free (g : Nat) (f : Gpio → Gpio) : (modGpio g f s).free = s.free := rfl
@[simp] theorem modGpio_out (g : Nat) (f : Gpio → Gpio) : (modGpio g f s).out = s.out := rfl
@[simp] theorem modGpio_pending (g : Nat) (f : Gpio → Gpio) : (modGpio g f s).pending = s.pending := rfl
@[simp] theorem setUnit_supply (i : Nat) (u : EvUnit) : (setUnit i u s).supply = s.supply := rfl
@[simp] theorem setUnit_pins (i : Nat) (u : EvUnit) : (setUnit i u s).pins = s.pins := rfl
@[simp] theorem setUnit_dev (i : Nat) (u : EvUnit) : (setUnit i u s).dev = s.dev := rfl
@[simp] theorem setUnit_keep (i : Nat) (u : EvUnit) : (setUnit i u s).keep = s.keep := rfl
@[simp] theorem setUnit_cmd (i : Nat) (u : EvUnit) : (setUnit i u s).cmd = s.cmd := rfl
@[simp] theorem setUnit_ctxs (i : Nat) (u : EvUnit) : (setUnit i u s).ctxs = s.ctxs := rfl
@[simp] theorem setUnit_groups (i : Nat) (u : EvUnit) : (setUnit i u s).groups = s.groups := rfl
@[simp] theorem setUnit_camp (i : Nat) (u : EvUnit) : (setUnit i u s).camp = s.camp := rfl
@[simp] theorem setUnit_cup (i : Nat) (u : EvUnit) : (setUnit i u s).cup = s.cup := rfl
@[simp] theorem setUnit_lanes (i : Nat) (u : EvUnit) : (setUnit i u s).lanes = s.lanes := rfl
@[simp] theorem setUnit_flows (i : Nat) (u : EvUnit) : (setUnit i u s).flows = s.flows := rfl
@[simp] theorem setUnit_mem (i : Nat) (u : EvUnit) : (setUnit i u s).mem = s.mem := rfl
@[simp] theorem setUnit_dma (i : Nat) (u : EvUnit) : (setUnit i u s).dma = s.dma := rfl
@[simp] theorem setUnit_watch (i : Nat) (u : EvUnit) : (setUnit i u s).watch = s.watch := rfl
@[simp] theorem setUnit_counters (i : Nat) (u : EvUnit) : (setUnit i u s).counters = s.counters := rfl
@[simp] theorem setUnit_irq (i : Nat) (u : EvUnit) : (setUnit i u s).irq = s.irq := rfl
@[simp] theorem setUnit_irqEn (i : Nat) (u : EvUnit) : (setUnit i u s).irqEn = s.irqEn := rfl
@[simp] theorem setUnit_alertEn (i : Nat) (u : EvUnit) : (setUnit i u s).alertEn = s.alertEn := rfl
@[simp] theorem setUnit_msix (i : Nat) (u : EvUnit) : (setUnit i u s).msix = s.msix := rfl
@[simp] theorem setUnit_msixMasked (i : Nat) (u : EvUnit) : (setUnit i u s).msixMasked = s.msixMasked := rfl
@[simp] theorem setUnit_msixPending (i : Nat) (u : EvUnit) : (setUnit i u s).msixPending = s.msixPending := rfl
@[simp] theorem setUnit_tick (i : Nat) (u : EvUnit) : (setUnit i u s).tick = s.tick := rfl
@[simp] theorem setUnit_free (i : Nat) (u : EvUnit) : (setUnit i u s).free = s.free := rfl
@[simp] theorem setUnit_out (i : Nat) (u : EvUnit) : (setUnit i u s).out = s.out := rfl
@[simp] theorem setUnit_pending (i : Nat) (u : EvUnit) : (setUnit i u s).pending = s.pending := rfl
@[simp] theorem modSensor_supply (n : Nat) (f : Sensor → Sensor) : (modSensor n f s).supply = s.supply := rfl
@[simp] theorem modSensor_pins (n : Nat) (f : Sensor → Sensor) : (modSensor n f s).pins = s.pins := rfl
@[simp] theorem modSensor_dev (n : Nat) (f : Sensor → Sensor) : (modSensor n f s).dev = s.dev := rfl
@[simp] theorem modSensor_keep (n : Nat) (f : Sensor → Sensor) : (modSensor n f s).keep = s.keep := rfl
@[simp] theorem modSensor_cmd (n : Nat) (f : Sensor → Sensor) : (modSensor n f s).cmd = s.cmd := rfl
@[simp] theorem modSensor_bel (n : Nat) (f : Sensor → Sensor) : (modSensor n f s).bel = s.bel := rfl
@[simp] theorem modSensor_ctxs (n : Nat) (f : Sensor → Sensor) : (modSensor n f s).ctxs = s.ctxs := rfl
@[simp] theorem modSensor_groups (n : Nat) (f : Sensor → Sensor) : (modSensor n f s).groups = s.groups := rfl
@[simp] theorem modSensor_camp (n : Nat) (f : Sensor → Sensor) : (modSensor n f s).camp = s.camp := rfl
@[simp] theorem modSensor_cup (n : Nat) (f : Sensor → Sensor) : (modSensor n f s).cup = s.cup := rfl
@[simp] theorem modSensor_lanes (n : Nat) (f : Sensor → Sensor) : (modSensor n f s).lanes = s.lanes := rfl
@[simp] theorem modSensor_flows (n : Nat) (f : Sensor → Sensor) : (modSensor n f s).flows = s.flows := rfl
@[simp] theorem modSensor_mem (n : Nat) (f : Sensor → Sensor) : (modSensor n f s).mem = s.mem := rfl
@[simp] theorem modSensor_dma (n : Nat) (f : Sensor → Sensor) : (modSensor n f s).dma = s.dma := rfl
@[simp] theorem modSensor_counters (n : Nat) (f : Sensor → Sensor) : (modSensor n f s).counters = s.counters := rfl
@[simp] theorem modSensor_irq (n : Nat) (f : Sensor → Sensor) : (modSensor n f s).irq = s.irq := rfl
@[simp] theorem modSensor_irqEn (n : Nat) (f : Sensor → Sensor) : (modSensor n f s).irqEn = s.irqEn := rfl
@[simp] theorem modSensor_alertEn (n : Nat) (f : Sensor → Sensor) : (modSensor n f s).alertEn = s.alertEn := rfl
@[simp] theorem modSensor_msix (n : Nat) (f : Sensor → Sensor) : (modSensor n f s).msix = s.msix := rfl
@[simp] theorem modSensor_msixMasked (n : Nat) (f : Sensor → Sensor) : (modSensor n f s).msixMasked = s.msixMasked := rfl
@[simp] theorem modSensor_msixPending (n : Nat) (f : Sensor → Sensor) : (modSensor n f s).msixPending = s.msixPending := rfl
@[simp] theorem modSensor_tick (n : Nat) (f : Sensor → Sensor) : (modSensor n f s).tick = s.tick := rfl
@[simp] theorem modSensor_free (n : Nat) (f : Sensor → Sensor) : (modSensor n f s).free = s.free := rfl
@[simp] theorem modSensor_out (n : Nat) (f : Sensor → Sensor) : (modSensor n f s).out = s.out := rfl
@[simp] theorem modSensor_pending (n : Nat) (f : Sensor → Sensor) : (modSensor n f s).pending = s.pending := rfl

@[simp] theorem modSub_supply (r : Nat) (f : Subch → Subch) : (modSub r f s).supply = s.supply := rfl
@[simp] theorem modSub_pins (r : Nat) (f : Subch → Subch) : (modSub r f s).pins = s.pins := rfl
@[simp] theorem modSub_dev (r : Nat) (f : Subch → Subch) : (modSub r f s).dev = s.dev := rfl
@[simp] theorem modSub_keep (r : Nat) (f : Subch → Subch) : (modSub r f s).keep = s.keep := rfl
@[simp] theorem modSub_cmd (r : Nat) (f : Subch → Subch) : (modSub r f s).cmd = s.cmd := rfl
@[simp] theorem modSub_bel (r : Nat) (f : Subch → Subch) : (modSub r f s).bel = s.bel := rfl
@[simp] theorem modSub_ctxs (r : Nat) (f : Subch → Subch) : (modSub r f s).ctxs = s.ctxs := rfl
@[simp] theorem modSub_groups (r : Nat) (f : Subch → Subch) : (modSub r f s).groups = s.groups := rfl
@[simp] theorem modSub_camp (r : Nat) (f : Subch → Subch) : (modSub r f s).camp = s.camp := rfl
@[simp] theorem modSub_cup (r : Nat) (f : Subch → Subch) : (modSub r f s).cup = s.cup := rfl
@[simp] theorem modSub_lanes (r : Nat) (f : Subch → Subch) : (modSub r f s).lanes = s.lanes := rfl
@[simp] theorem modSub_flows (r : Nat) (f : Subch → Subch) : (modSub r f s).flows = s.flows := rfl
@[simp] theorem modSub_dma (r : Nat) (f : Subch → Subch) : (modSub r f s).dma = s.dma := rfl
@[simp] theorem modSub_watch (r : Nat) (f : Subch → Subch) : (modSub r f s).watch = s.watch := rfl
@[simp] theorem modSub_counters (r : Nat) (f : Subch → Subch) : (modSub r f s).counters = s.counters := rfl
@[simp] theorem modSub_irq (r : Nat) (f : Subch → Subch) : (modSub r f s).irq = s.irq := rfl
@[simp] theorem modSub_irqEn (r : Nat) (f : Subch → Subch) : (modSub r f s).irqEn = s.irqEn := rfl
@[simp] theorem modSub_alertEn (r : Nat) (f : Subch → Subch) : (modSub r f s).alertEn = s.alertEn := rfl
@[simp] theorem modSub_msix (r : Nat) (f : Subch → Subch) : (modSub r f s).msix = s.msix := rfl
@[simp] theorem modSub_msixMasked (r : Nat) (f : Subch → Subch) : (modSub r f s).msixMasked = s.msixMasked := rfl
@[simp] theorem modSub_msixPending (r : Nat) (f : Subch → Subch) : (modSub r f s).msixPending = s.msixPending := rfl
@[simp] theorem modSub_tick (r : Nat) (f : Subch → Subch) : (modSub r f s).tick = s.tick := rfl
@[simp] theorem modSub_free (r : Nat) (f : Subch → Subch) : (modSub r f s).free = s.free := rfl
@[simp] theorem modSub_out (r : Nat) (f : Subch → Subch) : (modSub r f s).out = s.out := rfl
@[simp] theorem modSub_pending (r : Nat) (f : Subch → Subch) : (modSub r f s).pending = s.pending := rfl
@[simp] theorem setPolicer_supply (p : Nat) (x : Police) : (setPolicer p x s).supply = s.supply := rfl
@[simp] theorem setPolicer_pins (p : Nat) (x : Police) : (setPolicer p x s).pins = s.pins := rfl
@[simp] theorem setPolicer_dev (p : Nat) (x : Police) : (setPolicer p x s).dev = s.dev := rfl
@[simp] theorem setPolicer_keep (p : Nat) (x : Police) : (setPolicer p x s).keep = s.keep := rfl
@[simp] theorem setPolicer_cmd (p : Nat) (x : Police) : (setPolicer p x s).cmd = s.cmd := rfl
@[simp] theorem setPolicer_bel (p : Nat) (x : Police) : (setPolicer p x s).bel = s.bel := rfl
@[simp] theorem setPolicer_ctxs (p : Nat) (x : Police) : (setPolicer p x s).ctxs = s.ctxs := rfl
@[simp] theorem setPolicer_groups (p : Nat) (x : Police) : (setPolicer p x s).groups = s.groups := rfl
@[simp] theorem setPolicer_camp (p : Nat) (x : Police) : (setPolicer p x s).camp = s.camp := rfl
@[simp] theorem setPolicer_cup (p : Nat) (x : Police) : (setPolicer p x s).cup = s.cup := rfl
@[simp] theorem setPolicer_lanes (p : Nat) (x : Police) : (setPolicer p x s).lanes = s.lanes := rfl
@[simp] theorem setPolicer_mem (p : Nat) (x : Police) : (setPolicer p x s).mem = s.mem := rfl
@[simp] theorem setPolicer_dma (p : Nat) (x : Police) : (setPolicer p x s).dma = s.dma := rfl
@[simp] theorem setPolicer_watch (p : Nat) (x : Police) : (setPolicer p x s).watch = s.watch := rfl
@[simp] theorem setPolicer_counters (p : Nat) (x : Police) : (setPolicer p x s).counters = s.counters := rfl
@[simp] theorem setPolicer_irq (p : Nat) (x : Police) : (setPolicer p x s).irq = s.irq := rfl
@[simp] theorem setPolicer_irqEn (p : Nat) (x : Police) : (setPolicer p x s).irqEn = s.irqEn := rfl
@[simp] theorem setPolicer_alertEn (p : Nat) (x : Police) : (setPolicer p x s).alertEn = s.alertEn := rfl
@[simp] theorem setPolicer_msix (p : Nat) (x : Police) : (setPolicer p x s).msix = s.msix := rfl
@[simp] theorem setPolicer_msixMasked (p : Nat) (x : Police) : (setPolicer p x s).msixMasked = s.msixMasked := rfl
@[simp] theorem setPolicer_msixPending (p : Nat) (x : Police) : (setPolicer p x s).msixPending = s.msixPending := rfl
@[simp] theorem setPolicer_tick (p : Nat) (x : Police) : (setPolicer p x s).tick = s.tick := rfl
@[simp] theorem setPolicer_free (p : Nat) (x : Police) : (setPolicer p x s).free = s.free := rfl
@[simp] theorem setPolicer_out (p : Nat) (x : Police) : (setPolicer p x s).out = s.out := rfl
@[simp] theorem setPolicer_pending (p : Nat) (x : Police) : (setPolicer p x s).pending = s.pending := rfl
@[simp] theorem takeWire_supply (p n : Nat) : (takeWire p n s).supply = s.supply := rfl
@[simp] theorem takeWire_pins (p n : Nat) : (takeWire p n s).pins = s.pins := rfl
@[simp] theorem takeWire_dev (p n : Nat) : (takeWire p n s).dev = s.dev := rfl
@[simp] theorem takeWire_keep (p n : Nat) : (takeWire p n s).keep = s.keep := rfl
@[simp] theorem takeWire_cmd (p n : Nat) : (takeWire p n s).cmd = s.cmd := rfl
@[simp] theorem takeWire_bel (p n : Nat) : (takeWire p n s).bel = s.bel := rfl
@[simp] theorem takeWire_ctxs (p n : Nat) : (takeWire p n s).ctxs = s.ctxs := rfl
@[simp] theorem takeWire_groups (p n : Nat) : (takeWire p n s).groups = s.groups := rfl
@[simp] theorem takeWire_camp (p n : Nat) : (takeWire p n s).camp = s.camp := rfl
@[simp] theorem takeWire_cup (p n : Nat) : (takeWire p n s).cup = s.cup := rfl
@[simp] theorem takeWire_lanes (p n : Nat) : (takeWire p n s).lanes = s.lanes := rfl
@[simp] theorem takeWire_mem (p n : Nat) : (takeWire p n s).mem = s.mem := rfl
@[simp] theorem takeWire_dma (p n : Nat) : (takeWire p n s).dma = s.dma := rfl
@[simp] theorem takeWire_watch (p n : Nat) : (takeWire p n s).watch = s.watch := rfl
@[simp] theorem takeWire_counters (p n : Nat) : (takeWire p n s).counters = s.counters := rfl
@[simp] theorem takeWire_irq (p n : Nat) : (takeWire p n s).irq = s.irq := rfl
@[simp] theorem takeWire_irqEn (p n : Nat) : (takeWire p n s).irqEn = s.irqEn := rfl
@[simp] theorem takeWire_alertEn (p n : Nat) : (takeWire p n s).alertEn = s.alertEn := rfl
@[simp] theorem takeWire_msix (p n : Nat) : (takeWire p n s).msix = s.msix := rfl
@[simp] theorem takeWire_msixMasked (p n : Nat) : (takeWire p n s).msixMasked = s.msixMasked := rfl
@[simp] theorem takeWire_msixPending (p n : Nat) : (takeWire p n s).msixPending = s.msixPending := rfl
@[simp] theorem takeWire_tick (p n : Nat) : (takeWire p n s).tick = s.tick := rfl
@[simp] theorem takeWire_free (p n : Nat) : (takeWire p n s).free = s.free := rfl
@[simp] theorem takeWire_out (p n : Nat) : (takeWire p n s).out = s.out := rfl
@[simp] theorem takeWire_pending (p n : Nat) : (takeWire p n s).pending = s.pending := rfl
@[simp] theorem modHealth_supply (t : Nat) (f : Health → Health) : (modHealth t f s).supply = s.supply := by unfold modHealth; split <;> rfl
@[simp] theorem modHealth_pins (t : Nat) (f : Health → Health) : (modHealth t f s).pins = s.pins := by unfold modHealth; split <;> rfl
@[simp] theorem modHealth_dev (t : Nat) (f : Health → Health) : (modHealth t f s).dev = s.dev := by unfold modHealth; split <;> rfl
@[simp] theorem modHealth_keep (t : Nat) (f : Health → Health) : (modHealth t f s).keep = s.keep := by unfold modHealth; split <;> rfl
@[simp] theorem modHealth_cmd (t : Nat) (f : Health → Health) : (modHealth t f s).cmd = s.cmd := by unfold modHealth; split <;> rfl
@[simp] theorem modHealth_bel (t : Nat) (f : Health → Health) : (modHealth t f s).bel = s.bel := by unfold modHealth; split <;> rfl
@[simp] theorem modHealth_ctxs (t : Nat) (f : Health → Health) : (modHealth t f s).ctxs = s.ctxs := by unfold modHealth; split <;> rfl
@[simp] theorem modHealth_groups (t : Nat) (f : Health → Health) : (modHealth t f s).groups = s.groups := by unfold modHealth; split <;> rfl
@[simp] theorem modHealth_camp (t : Nat) (f : Health → Health) : (modHealth t f s).camp = s.camp := by unfold modHealth; split <;> rfl
@[simp] theorem modHealth_cup (t : Nat) (f : Health → Health) : (modHealth t f s).cup = s.cup := by unfold modHealth; split <;> rfl
@[simp] theorem modHealth_lanes (t : Nat) (f : Health → Health) : (modHealth t f s).lanes = s.lanes := by unfold modHealth; split <;> rfl
@[simp] theorem modHealth_mem (t : Nat) (f : Health → Health) : (modHealth t f s).mem = s.mem := by unfold modHealth; split <;> rfl
@[simp] theorem modHealth_dma (t : Nat) (f : Health → Health) : (modHealth t f s).dma = s.dma := by unfold modHealth; split <;> rfl
@[simp] theorem modHealth_watch (t : Nat) (f : Health → Health) : (modHealth t f s).watch = s.watch := by unfold modHealth; split <;> rfl
@[simp] theorem modHealth_counters (t : Nat) (f : Health → Health) : (modHealth t f s).counters = s.counters := by unfold modHealth; split <;> rfl
@[simp] theorem modHealth_irq (t : Nat) (f : Health → Health) : (modHealth t f s).irq = s.irq := by unfold modHealth; split <;> rfl
@[simp] theorem modHealth_irqEn (t : Nat) (f : Health → Health) : (modHealth t f s).irqEn = s.irqEn := by unfold modHealth; split <;> rfl
@[simp] theorem modHealth_alertEn (t : Nat) (f : Health → Health) : (modHealth t f s).alertEn = s.alertEn := by unfold modHealth; split <;> rfl
@[simp] theorem modHealth_msix (t : Nat) (f : Health → Health) : (modHealth t f s).msix = s.msix := by unfold modHealth; split <;> rfl
@[simp] theorem modHealth_msixMasked (t : Nat) (f : Health → Health) : (modHealth t f s).msixMasked = s.msixMasked := by unfold modHealth; split <;> rfl
@[simp] theorem modHealth_msixPending (t : Nat) (f : Health → Health) : (modHealth t f s).msixPending = s.msixPending := by unfold modHealth; split <;> rfl
@[simp] theorem modHealth_tick (t : Nat) (f : Health → Health) : (modHealth t f s).tick = s.tick := by unfold modHealth; split <;> rfl
@[simp] theorem modHealth_free (t : Nat) (f : Health → Health) : (modHealth t f s).free = s.free := by unfold modHealth; split <;> rfl
@[simp] theorem modHealth_out (t : Nat) (f : Health → Health) : (modHealth t f s).out = s.out := by unfold modHealth; split <;> rfl
@[simp] theorem modHealth_pending (t : Nat) (f : Health → Health) : (modHealth t f s).pending = s.pending := by unfold modHealth; split <;> rfl
@[simp] theorem modCtx_ctxs (c : Nat) (f : Ctx → Ctx) : (modCtx c f s).ctxs = tmod {} s.ctxs c f := rfl
@[simp] theorem modCamp_camp (f : Camp → Camp) : (modCamp f s).camp = f s.camp := rfl
@[simp] theorem modSpire_spires (i : Nat) (f : Spire → Spire) : (modSpire i f s).camp.spires = tmod {} s.camp.spires i f := rfl
@[simp] theorem modDome_domes (d : Nat) (f : Dome → Dome) : (modDome d f s).camp.domes = tmod {} s.camp.domes d f := rfl
@[simp] theorem setChk_units (n : Nat) (u : Chk) : (setChk n u s).dma.units = tset {} s.dma.units n u := rfl
@[simp] theorem setChk_chans (n : Nat) (u : Chk) : (setChk n u s).dma.chans = s.dma.chans := rfl
@[simp] theorem setDma_chans (c : Nat) (x : DmaChan) : (setDma c x s).dma.chans = tset {} s.dma.chans c x := rfl
@[simp] theorem setDma_units (c : Nat) (x : DmaChan) : (setDma c x s).dma.units = s.dma.units := rfl
@[simp] theorem modRing_rings (r : Nat) (f : Ring → Ring) : (modRing r f s).cmd.rings = tmod {} s.cmd.rings r f := rfl
@[simp] theorem modRing_pend (r : Nat) (f : Ring → Ring) : (modRing r f s).cmd.pend = s.cmd.pend := rfl
@[simp] theorem modMem_mem (f : Mem → Mem) : (modMem f s).mem = f s.mem := rfl
@[simp] theorem memWrite_dram (a : Nat) (l : List Byte) : (memWrite a l s).mem.dram = cellsWrite s.mem.dram a l := rfl
@[simp] theorem memStore_dram (a : Nat) (l : List Byte) : (memStore a l s).mem.dram = cellsWrite s.mem.dram a l := rfl
@[simp] theorem send_out (o : Out) : (send o s).out = o :: s.out := rfl
@[simp] theorem bump_counters (k n : Nat) : (bump k n s).counters =
    tset 0 s.counters k (min (counterMax k * counterUnit k) (tget 0 s.counters k + n)) := rfl
@[simp] theorem raise_irq (b i : Nat) : (raise b i s).irq = tset 0 s.irq b (tget 0 s.irq b ||| natWord (2 ^ i)) := rfl
@[simp] theorem draw_fst : (draw s).1 = Config.freeValue s.free := rfl
@[simp] theorem draw_snd : (draw s).2 = { s with free := s.free + 1 } := rfl
@[simp] theorem modSensor_sensors (n : Nat) (f : Sensor → Sensor) : (modSensor n f s).watch.sensors = tmod {} s.watch.sensors n f := rfl
@[simp] theorem modSub_subs (r : Nat) (f : Subch → Subch) : (modSub r f s).mem.subs = tmod {} s.mem.subs r f := rfl
@[simp] theorem modSub_dram (r : Nat) (f : Subch → Subch) : (modSub r f s).mem.dram = s.mem.dram := rfl
@[simp] theorem setPolicer_police (p : Nat) (x : Police) : (setPolicer p x s).flows.police = tset none s.flows.police p (some x) := rfl
@[simp] theorem setPolicer_ingress (p : Nat) (x : Police) : (setPolicer p x s).flows.ingress = s.flows.ingress := rfl
@[simp] theorem takeWire_wire (p n : Nat) : (takeWire p n s).flows.wire = tset 0 s.flows.wire p (nowPs s + wirePs s p n) := rfl
@[simp] theorem takeWire_egress (p n : Nat) : (takeWire p n s).flows.egress = s.flows.egress := rfl

end Sys2Proof.Machine
end

