-- ==== Sys2Proof/Laws/Memory.lean ====
section
/-! SUPPORT. Module DRAM: every write keeps the canonical form, a byte reads as it was last written, and no other
byte changes. -/

namespace Sys2Proof.Machine

theorem wf_cellsWrite {m : List Host.Cell} (h : Memory.wf m = true) (l : List Byte) (a : Nat) :
    Memory.wf (cellsWrite m a l) = true := by
  induction l generalizing m a with
  | nil => exact h
  | cons b t ih => exact ih (tabWf_tset h a b) (a + 1)

theorem wf_memWrite {s : State} (h : Memory.wf s.mem.dram = true) (a : Nat) (l : List Byte) :
    Memory.wf (memWrite a l s).mem.dram = true := wf_cellsWrite h l a

theorem wf_memStore {s : State} (h : Memory.wf s.mem.dram = true) (a : Nat) (l : List Byte) :
    Memory.wf (memStore a l s).mem.dram = true := wf_cellsWrite h l a

theorem wf_reset : Memory.wf State.reset.mem.dram = true := rfl

theorem tget_cellsWrite {m : List Host.Cell} (h : Memory.wf m = true) (l : List Byte) (a k : Nat) :
    tget 0#8 (cellsWrite m a l) k = if a ≤ k ∧ k < a + l.length then l.getD (k - a) 0 else tget 0#8 m k := by
  induction l generalizing m a with
  | nil => simp [cellsWrite]
  | cons b t ih =>
    rw [cellsWrite, ih (tabWf_tset h a b)]
    by_cases e : k = a
    · subst e
      rw [if_neg (by omega), tget_tset_same h, if_pos (by simp), Nat.sub_self]
      rfl
    · rw [tget_tset_other h b e]
      by_cases g : a ≤ k ∧ k < a + (b :: t).length
      · have g2 : a + 1 ≤ k ∧ k < a + 1 + t.length := by simp only [List.length_cons] at g; omega
        have g3 : k - a = (k - (a + 1)) + 1 := by omega
        rw [if_pos g, if_pos g2, g3, List.getD_cons_succ]
      · have g2 : ¬ (a + 1 ≤ k ∧ k < a + 1 + t.length) := by simp only [List.length_cons] at g; omega
        rw [if_neg g, if_neg g2]

/-- A byte of module DRAM after a write: the byte written there, or the byte as it was. -/
theorem memByte_memStore {s : State} (h : Memory.wf s.mem.dram = true) (a : Nat) (l : List Byte) (k : Nat) :
    memByte (memStore a l s) k = if a ≤ k ∧ k < a + l.length then l.getD (k - a) 0 else memByte s k :=
  tget_cellsWrite h l a k

theorem memByte_memWrite {s : State} (h : Memory.wf s.mem.dram = true) (a : Nat) (l : List Byte) (k : Nat) :
    memByte (memWrite a l s) k = if a ≤ k ∧ k < a + l.length then l.getD (k - a) 0 else memByte s k :=
  tget_cellsWrite h l a k

/-- A counter after it is advanced: its maximum at most, and every other counter as it was (R11). -/
theorem tget_bump {s : State} (h : tabWf 0 none s.counters = true) (k n j : Nat) :
    tget 0 (bump k n s).counters j =
      if j = k then min (counterMax k * counterUnit k) (tget 0 s.counters k + n) else tget 0 s.counters j := by
  by_cases e : j = k
  · subst e; rw [if_pos rfl, bump_counters, tget_tset_same h]
  · rw [if_neg e, bump_counters, tget_tset_other h _ e]

end Sys2Proof.Machine
end

