-- ==== Sys2Proof/WellFormed.lean ====
section
/-! DEFINITION. Which commands are well formed: operands inside the numbers the spec gives their kind. The
meanings are total and do not ask for it: where an operand is outside, a meaning's own guard applies. -/

namespace Sys2Proof

/-- A packet that passed stages 1 to 7 of R63 is within the header's fields (R55, R58). -/
def Cmd.wf (c : Cmd) : Bool :=
  decide (c.params.length ≤ 16376 ∧ c.ctx < 65536 ∧ c.tb < 65536 ∧ c.frame < 2 ^ 64 ∧ c.counter < 2 ^ 64) &&
  match c.via with
  | .ring r => decide (r < 8)
  | _ => true

/-- An address is 32 or 128 bits, a port 16 (R83). -/
def Endpoint.wf (e : Endpoint) : Bool := decide (e.addr < (if e.v6 then 2 ^ 128 else 2 ^ 32) ∧ e.port < 65536)

/-- A datagram comes over the management port or in band, on a Turret (R83). -/
def Datagram.wf (d : Datagram) : Bool :=
  d.src.wf && decide ((d.via = .mgmt ∧ d.port = 32 ∨ d.via = .inband ∧ d.port < 16) ∧ d.bytes.length ≤ 65507)

/-- A descriptor is 32 bytes, and its packet at most the largest of R58 (R79). -/
def Fetch.wf (f : Fetch) : Bool := decide (f.desc.length = 32 ∧ f.bytes.length ≤ 65536)

/-- An Announce's fields are as wide as IEEE 1588 makes them (R135). -/
def Announce.wf (a : Announce) : Bool :=
  decide (a.path < 2 ∧ a.lane < 8 ∧ a.domain < 256 ∧ a.gm < 2 ^ 64 ∧ a.prio1 < 256 ∧ a.clsQual < 256 ∧ a.accuracy < 256 ∧
    a.variance < 65536 ∧ a.prio2 < 256 ∧ a.steps < 65536)

/-- A Sync measurement is taken on a network lane (R136, R139). -/
def SyncMeas.wf (m : SyncMeas) : Bool := decide (m.path < 2 ∧ m.lane < 8 ∧ m.gm < 2 ^ 64 ∧ m.carrier < 8)

/-- A frame arrives on one of the 33 ports (R346, R371). -/
def RxFrame.wf (r : RxFrame) : Bool :=
  decide (r.port < 33 ∧ r.udp < 65536 ∧ r.dscp < 64) && match r.datagram with
    | some d => d.wf
    | none => true

/-- A segment has at most 4 CTUs (R169). -/
def SegIn.wf (x : SegIn) : Bool := decide (x.ctus.length ≤ 4)

/-- A row's lines are those of a CTU row (R306). -/
def RowIn.wf (r : RowIn) : Bool := decide (r.lines.length ≤ 64 ∧ r.reported.length ≤ 4)

/-- A request is made at one of the 34 DRAM ports, within the 38 address bits (R404, R412). -/
def MemReq.wf (q : MemReq) : Bool := decide (q.port < 34 ∧ q.addr < 2 ^ 38 ∧ q.owner < 12)

/-- Operands within the numbers of their kind: 8 rings, 16 timebases, 256 event units, 16 Spires, 12 Domes, 256
contexts and compositions, 32 lanes, 33 ports, 2 Turrets, 16 ranks of 32 banks, 64 DMA channels, 16 check units,
32 sensors, 16 GPIOs, and register offsets of BAR0. -/
def Instr.wf : Instr → Bool
  | .converterStart _ => true
  | .converterRetry _ => true
  | .overVoltageLockout _ => true
  | .supplyReset _ => true
  | .converterStop _ => true
  | .telemetryFrame _ => true
  | .telemetryLost => true
  | .supplyWarnClear => true
  | .telemetryRecovered => true
  | .externalReset => true
  | .resetNRelease => true
  | .bootImageStart => true
  | .dramTrainingCommit failed sub _ => decide (failed < 256 ∧ sub < 2)
  | .dramTrainingTimeout failed sub => decide (failed < 256 ∧ sub < 2)
  | .startupStoreResume => true
  | .pcieReset _ => true
  | .pciePerstNRelease => true
  | .warmReset => true
  | .watchdogExpiry core => decide (core < 256)
  | .hardTrip => true
  | .sensorSample sensor _ _ => decide (sensor < 32)
  | .sensorFault sensor => decide (sensor < 32)
  | .sensorSelfCheck sensor _ => decide (sensor < 32)
  | .throttleTick => true
  | .ppsInEdge => true
  | .frameRefInEdge => true
  | .freq10mPresenceChange _ _ => true
  | .pathForceAssert => true
  | .pathForceDeassert => true
  | .ppsOutRise => true
  | .ppsOutFall => true
  | .gpioPulseEnd gpio => decide (gpio < 16)
  | .cmdRingDoorbell ring _ => decide (ring < 8)
  | .cmdRingEnable ring _ => decide (ring < 8)
  | .cmdRingDisable ring _ => decide (ring < 8)
  | .eventQueueEnable _ => true
  | .eventQueueDisable _ => true
  | .eventQueueHeadWrite _ => true
  | .commandUdpPacket d => d.wf
  | .reassemblyTimeout _ ident => decide (ident < 65536)
  | .commandExecute x => (match x.fetch with
    | some f => f.wf
    | none => true) && x.fault.all fun k => decide (k < 256)
  | .backgroundCommandComplete _ _ => true
  | .pendingCommandEffect tb frame => decide (tb < 16 ∧ frame < 2 ^ 64)
  | .readIdentity c => c.wf
  | .registerEventSubscriber c => c.wf
  | .setAllowListEntry c => c.wf
  | .cancelPendingCommands c => c.wf
  | .assignGpioFunction c => c.wf
  | .readStartupLog c => c.wf
  | .selectManagementLinkMode c => c.wf
  | .readGpioLevels c => c.wf
  | .warmResetCommand c => c.wf
  | .enterSafe c => c.wf
  | .interruptAndAlertMasks c => c.wf
  | .configurePtp c => c.wf
  | .ptpConfigApply => true
  | .acceptRefusedOffset c => c.wf
  | .setTime c => c.wf
  | .configureTimebase c => c.wf
  | .removeTimebase c => c.wf
  | .configureEventUnit c => c.wf
  | .releaseEventUnit c => c.wf
  | .readTimeStatus c => c.wf
  | .ptpAnnounceReceived a => a.wf
  | .ptpSyncReceived m => m.wf
  | .delayReqSend => true
  | .delayRespReceived path lane gm _ => decide (path < 2 ∧ lane < 8 ∧ gm < 2 ^ 64)
  | .announceReceiptTimeout => true
  | .syncTimeout => true
  | .frameBoundary tb => decide (tb < 16)
  | .slewComplete tb => decide (tb < 16)
  | .rasterEventFire unit => decide (unit < 256)
  | .frameBind => true
  | .taskDispatch engine => decide (engine < 28)
  | .segmentDone spire r => decide (spire < 16) && r.wf
  | .spillRefill => true
  | .bindUrgent ctx _ => decide (ctx < 256)
  | .decodeFrameSkip ctx _ => decide (ctx < 256)
  | .substitutePicture ctx _ => decide (ctx < 256)
  | .domeBind => true
  | .domeTaskDone dome _ _ => decide (dome < 12)
  | .frameClose ctx _ _ => decide (ctx < 256)
  | .stagingResume spire => decide (spire < 16)
  | .alfFitComplete ctx _ => decide (ctx < 256)
  | .spirePowerUp spire => decide (spire < 16)
  | .accessUnitMapped ctx _ => decide (ctx < 256)
  | .accessUnitComplete ctx _ _ _ => decide (ctx < 256)
  | .decodeReleaseDeadline ctx _ _ _ => decide (ctx < 256)
  | .decodeAbandon ctx _ _ => decide (ctx < 256)
  | .composedRowWritten comp r => decide (comp < 256) && r.wf
  | .sourceFrameComplete _ _ _ => true
  | .directLineArrival comp layer _ => decide (comp < 256 ∧ layer < 4)
  | .lanternTileRepair image _ => decide (image < 64)
  | .lanternScrub => true
  | .frameReceived f => f.wf
  | .videoFrameSkewTimeout flow => decide (flow < 4096)
  | .mergeGapTimeout flow => decide (flow < 4096)
  | .packetLaunch _ => true
  | .queuedPacketSend port => decide (port < 33)
  | .membershipReportRepeat => true
  | .membershipQueryResponse port q => decide (port < 33 ∧ q.older < 3)
  | .arpRefresh => true
  | .pllLock port _ => decide (port < 33)
  | .autonegComplete port _ => decide (port < 33)
  | .trainingCoeffRequest lane tap _ => decide (lane < 32 ∧ tap < 3)
  | .linkTrainingEnd port _ _ _ => decide (port < 33)
  | .linkLock lane _ => decide (lane < 32)
  | .deskew port _ => decide (port < 33)
  | .portRetry port => decide (port < 33)
  | .signalReturn lane => decide (lane < 32)
  | .laneLoss lane _ => decide (lane < 32)
  | .laneRelockTimeout port => decide (port < 33)
  | .fecUncorrectable x => decide (x.lane < 32)
  | .refLost => true
  | .fecWindowEnd w => decide (w.turret < 2)
  | .sentinelTimeout turret _ => decide (turret < 2)
  | .healthSettled turret => decide (turret < 2)
  | .holdoffExpiry => true
  | .sdiTrsLock lane _ _ _ => decide (lane < 16)
  | .sdiTrsLoss x => decide (x.lane < 16)
  | .sdiFrameComplete lane _ _ _ => decide (lane < 16)
  | .sdiOutputFrame lane => decide (lane < 16)
  | .memoryRequest q => q.wf
  | .refreshDue rank group bank => decide (rank < 16 ∧ group < 8 ∧ bank < 4)
  | .pageIdleClose rank bank => decide (rank < 16 ∧ bank < 32)
  | .powerDownEntry rank _ => decide (rank < 16)
  | .rhWindowEnd => true
  | .trainingPassStart channel _ => decide (channel < 8)
  | .trainingPassCommit channel => decide (channel < 8)
  | .trainFail channel sub _ => decide (channel < 8 ∧ sub < 2)
  | .setpointSwitchStart => true
  | .setpointSwitchComplete => true
  | .setpointCheckComplete failed sub _ => decide (failed < 256 ∧ sub < 2)
  | .patrolScrub q => q.wf
  | .dmaTrigger channel kind => decide (channel < 64 ∧ kind < 4)
  | .dmaTimerExpiry channel => decide (channel < 64)
  | .dmaRunEnd channel _ => decide (channel < 64)
  | .drainTimeout tile => decide (tile = 2 ∨ tile = 3)
  | .dmaDomainResume domain => decide (2 ≤ domain ∧ domain ≤ 4)
  | .hostMemoryLost => true
  | .msixReenable vectors => vectors.all fun v => decide (v < 64)
  | .belfNow32Read => true
  | .tsqHiRead turret => decide (turret < 2)
  | .tbFrameCountRead tb => decide (tb < 16)
  | .counterReadClear offset => decide (offset < 2 ^ 20 ∧ offset % 4 = 0)
  | .w1cWrite offset _ _ => decide (offset < 2 ^ 20 ∧ offset % 4 = 0)
  | .chkFeed8Write unit _ => decide (unit < 16)
  | .chkFeed16Write unit _ => decide (unit < 16)
  | .chkFeed32Write unit _ => decide (unit < 16)
  | .registerWrite offset _ => decide (offset < 2 ^ 20 ∧ offset % 4 = 0)
  | .bar2Write offset _ => decide (offset < 2 ^ 32)
  | .bar2Read offset _ => decide (offset < 2 ^ 32)
  | .selectLaneReference c => c.wf
  | .configureTurretLayout c => c.wf
  | .configureMediaLane c => c.wf
  | .setTransmitTaps c => c.wf
  | .setPolarity c => c.wf
  | .prbsGeneratorChecker c => c.wf
  | .loopback c => c.wf
  | .readLaneStatus c => c.wf
  | .portIdentity c => c.wf
  | .pathHealthParameters c => c.wf
  | .interlockParameters c => c.wf
  | .privilegedPolicer c => c.wf
  | .turretOverheadColourTable c => c.wf
  | .drrQueue c => c.wf
  | .sendHostPacket c => c.wf
  | .readTurretStatus c => c.wf
  | .configureIngressFlow c => c.wf
  | .deleteIngressFlow c => c.wf
  | .configureEgressFlow c => c.wf
  | .deleteEgressFlow c => c.wf
  | .bindAudioFlow c => c.wf
  | .readFlowStatus c => c.wf
  | .readMembershipTable c => c.wf
  | .openEncodeContext c => c.wf
  | .closeContext c => c.wf
  | .modifyEncodeContext c => c.wf
  | .requestIrap c => c.wf
  | .invalidateReferences c => c.wf
  | .rateParameters c => c.wf
  | .sendCeilingAndHrd c => c.wf
  | .configureStatmuxGroup c => c.wf
  | .joinGroup c => c.wf
  | .removeFromGroup c => c.wf
  | .readGroupStatus c => c.wf
  | .readRateControlStatus c => c.wf
  | .schedulingFields c => c.wf
  | .deviceSchedulingFields c => c.wf
  | .readSchedulingStatistics c => c.wf
  | .openDecodeContext c => c.wf
  | .flushAndResynchronise c => c.wf
  | .readDecodeStatus c => c.wf
  | .readContextStatus c => c.wf
  | .configureComposition c => c.wf
  | .deleteComposition c => c.wf
  | .configureVideoLayer c => c.wf
  | .configureGraphicLayer c => c.wf
  | .defineAsset c => c.wf
  | .writeAssetChunk c => c.wf
  | .commitAsset c => c.wf
  | .freeAsset c => c.wf
  | .setMasteringMetadata c => c.wf
  | .readCompositionStatus c => c.wf
  | .defineLanternImage c => c.wf
  | .writeLanternImageChunk c => c.wf
  | .commitLanternImage c => c.wf
  | .configureLanternItem c => c.wf
  | .readLanternStatus c => c.wf
  | .memoryPolicy c => c.wf
  | .portLatencyTarget c => c.wf
  | .rowDisturbanceSettings c => c.wf
  | .setPoint c => c.wf
  | .retrainChannel c => c.wf
  | .bar2Aperture c => c.wf
  | .readMemoryStatus c => c.wf
  | .configureDmaChannel c => c.wf
  | .startChannels c => c.wf
  | .channelControl c => c.wf
  | .releaseDmaChannel c => c.wf
  | .engineSettings c => c.wf
  | .openCheckUnit c => c.wf
  | .closeCheckUnit c => c.wf
  | .releaseCheckUnit c => c.wf
  | .readDmaAndCheckStatus c => c.wf
  | .operatingProfile c => c.wf
  | .thermalLevels c => c.wf
  | .powerCaps c => c.wf
  | .sensorOverride c => c.wf
  | .readTelemetry c => c.wf
  | .readDipLog c => c.wf
  | .readRegisters c => c.wf
  | .writeRegister c => c.wf
  | .counterSnapshot c => c.wf
  | .writeFirmwareChunk c => c.wf
  | .verifyInactiveSlot c => c.wf
  | .activateInactiveSlot c => c.wf
  | .confirmTrialImage c => c.wf
  | .installKey c => c.wf
  | .setAuthenticationPolicy c => c.wf
  | .writeStartupStore c => c.wf
  | .unlockDebugAccess c => c.wf
  | .pciePerstNDeemedRelease => true
  | .pcieEndpointReady => true
  | .cdrLockTimeout port => decide (port < 33)
  | .dmaDrainPause channel => decide (channel < 64)
  | .laneRefclkPresenceChange _ => true
  | .ppsInPresentExpiry => true
  | .managementLinkStateChange _ _ => true

/-- The packet that an opcode row carries. -/
def Instr.packet : Instr → Option Cmd
  | .converterStart _ => none
  | .converterRetry _ => none
  | .overVoltageLockout _ => none
  | .supplyReset _ => none
  | .converterStop _ => none
  | .telemetryFrame _ => none
  | .telemetryLost => none
  | .supplyWarnClear => none
  | .telemetryRecovered => none
  | .externalReset => none
  | .resetNRelease => none
  | .bootImageStart => none
  | .dramTrainingCommit _ _ _ => none
  | .dramTrainingTimeout _ _ => none
  | .startupStoreResume => none
  | .pcieReset _ => none
  | .pciePerstNRelease => none
  | .warmReset => none
  | .watchdogExpiry _ => none
  | .hardTrip => none
  | .sensorSample _ _ _ => none
  | .sensorFault _ => none
  | .sensorSelfCheck _ _ => none
  | .throttleTick => none
  | .ppsInEdge => none
  | .frameRefInEdge => none
  | .freq10mPresenceChange _ _ => none
  | .pathForceAssert => none
  | .pathForceDeassert => none
  | .ppsOutRise => none
  | .ppsOutFall => none
  | .gpioPulseEnd _ => none
  | .cmdRingDoorbell _ _ => none
  | .cmdRingEnable _ _ => none
  | .cmdRingDisable _ _ => none
  | .eventQueueEnable _ => none
  | .eventQueueDisable _ => none
  | .eventQueueHeadWrite _ => none
  | .commandUdpPacket _ => none
  | .reassemblyTimeout _ _ => none
  | .commandExecute _ => none
  | .backgroundCommandComplete _ _ => none
  | .pendingCommandEffect _ _ => none
  | .readIdentity c => some c
  | .registerEventSubscriber c => some c
  | .setAllowListEntry c => some c
  | .cancelPendingCommands c => some c
  | .assignGpioFunction c => some c
  | .readStartupLog c => some c
  | .selectManagementLinkMode c => some c
  | .readGpioLevels c => some c
  | .warmResetCommand c => some c
  | .enterSafe c => some c
  | .interruptAndAlertMasks c => some c
  | .configurePtp c => some c
  | .ptpConfigApply => none
  | .acceptRefusedOffset c => some c
  | .setTime c => some c
  | .configureTimebase c => some c
  | .removeTimebase c => some c
  | .configureEventUnit c => some c
  | .releaseEventUnit c => some c
  | .readTimeStatus c => some c
  | .ptpAnnounceReceived _ => none
  | .ptpSyncReceived _ => none
  | .delayReqSend => none
  | .delayRespReceived _ _ _ _ => none
  | .announceReceiptTimeout => none
  | .syncTimeout => none
  | .frameBoundary _ => none
  | .slewComplete _ => none
  | .rasterEventFire _ => none
  | .frameBind => none
  | .taskDispatch _ => none
  | .segmentDone _ _ => none
  | .spillRefill => none
  | .bindUrgent _ _ => none
  | .decodeFrameSkip _ _ => none
  | .substitutePicture _ _ => none
  | .domeBind => none
  | .domeTaskDone _ _ _ => none
  | .frameClose _ _ _ => none
  | .stagingResume _ => none
  | .alfFitComplete _ _ => none
  | .spirePowerUp _ => none
  | .accessUnitMapped _ _ => none
  | .accessUnitComplete _ _ _ _ => none
  | .decodeReleaseDeadline _ _ _ _ => none
  | .decodeAbandon _ _ _ => none
  | .composedRowWritten _ _ => none
  | .sourceFrameComplete _ _ _ => none
  | .directLineArrival _ _ _ => none
  | .lanternTileRepair _ _ => none
  | .lanternScrub => none
  | .frameReceived _ => none
  | .videoFrameSkewTimeout _ => none
  | .mergeGapTimeout _ => none
  | .packetLaunch _ => none
  | .queuedPacketSend _ => none
  | .membershipReportRepeat => none
  | .membershipQueryResponse _ _ => none
  | .arpRefresh => none
  | .pllLock _ _ => none
  | .autonegComplete _ _ => none
  | .trainingCoeffRequest _ _ _ => none
  | .linkTrainingEnd _ _ _ _ => none
  | .linkLock _ _ => none
  | .deskew _ _ => none
  | .portRetry _ => none
  | .signalReturn _ => none
  | .laneLoss _ _ => none
  | .laneRelockTimeout _ => none
  | .fecUncorrectable _ => none
  | .refLost => none
  | .fecWindowEnd _ => none
  | .sentinelTimeout _ _ => none
  | .healthSettled _ => none
  | .holdoffExpiry => none
  | .sdiTrsLock _ _ _ _ => none
  | .sdiTrsLoss _ => none
  | .sdiFrameComplete _ _ _ _ => none
  | .sdiOutputFrame _ => none
  | .memoryRequest _ => none
  | .refreshDue _ _ _ => none
  | .pageIdleClose _ _ => none
  | .powerDownEntry _ _ => none
  | .rhWindowEnd => none
  | .trainingPassStart _ _ => none
  | .trainingPassCommit _ => none
  | .trainFail _ _ _ => none
  | .setpointSwitchStart => none
  | .setpointSwitchComplete => none
  | .setpointCheckComplete _ _ _ => none
  | .patrolScrub _ => none
  | .dmaTrigger _ _ => none
  | .dmaTimerExpiry _ => none
  | .dmaRunEnd _ _ => none
  | .drainTimeout _ => none
  | .dmaDomainResume _ => none
  | .hostMemoryLost => none
  | .msixReenable _ => none
  | .belfNow32Read => none
  | .tsqHiRead _ => none
  | .tbFrameCountRead _ => none
  | .counterReadClear _ => none
  | .w1cWrite _ _ _ => none
  | .chkFeed8Write _ _ => none
  | .chkFeed16Write _ _ => none
  | .chkFeed32Write _ _ => none
  | .registerWrite _ _ => none
  | .bar2Write _ _ => none
  | .bar2Read _ _ => none
  | .selectLaneReference c => some c
  | .configureTurretLayout c => some c
  | .configureMediaLane c => some c
  | .setTransmitTaps c => some c
  | .setPolarity c => some c
  | .prbsGeneratorChecker c => some c
  | .loopback c => some c
  | .readLaneStatus c => some c
  | .portIdentity c => some c
  | .pathHealthParameters c => some c
  | .interlockParameters c => some c
  | .privilegedPolicer c => some c
  | .turretOverheadColourTable c => some c
  | .drrQueue c => some c
  | .sendHostPacket c => some c
  | .readTurretStatus c => some c
  | .configureIngressFlow c => some c
  | .deleteIngressFlow c => some c
  | .configureEgressFlow c => some c
  | .deleteEgressFlow c => some c
  | .bindAudioFlow c => some c
  | .readFlowStatus c => some c
  | .readMembershipTable c => some c
  | .openEncodeContext c => some c
  | .closeContext c => some c
  | .modifyEncodeContext c => some c
  | .requestIrap c => some c
  | .invalidateReferences c => some c
  | .rateParameters c => some c
  | .sendCeilingAndHrd c => some c
  | .configureStatmuxGroup c => some c
  | .joinGroup c => some c
  | .removeFromGroup c => some c
  | .readGroupStatus c => some c
  | .readRateControlStatus c => some c
  | .schedulingFields c => some c
  | .deviceSchedulingFields c => some c
  | .readSchedulingStatistics c => some c
  | .openDecodeContext c => some c
  | .flushAndResynchronise c => some c
  | .readDecodeStatus c => some c
  | .readContextStatus c => some c
  | .configureComposition c => some c
  | .deleteComposition c => some c
  | .configureVideoLayer c => some c
  | .configureGraphicLayer c => some c
  | .defineAsset c => some c
  | .writeAssetChunk c => some c
  | .commitAsset c => some c
  | .freeAsset c => some c
  | .setMasteringMetadata c => some c
  | .readCompositionStatus c => some c
  | .defineLanternImage c => some c
  | .writeLanternImageChunk c => some c
  | .commitLanternImage c => some c
  | .configureLanternItem c => some c
  | .readLanternStatus c => some c
  | .memoryPolicy c => some c
  | .portLatencyTarget c => some c
  | .rowDisturbanceSettings c => some c
  | .setPoint c => some c
  | .retrainChannel c => some c
  | .bar2Aperture c => some c
  | .readMemoryStatus c => some c
  | .configureDmaChannel c => some c
  | .startChannels c => some c
  | .channelControl c => some c
  | .releaseDmaChannel c => some c
  | .engineSettings c => some c
  | .openCheckUnit c => some c
  | .closeCheckUnit c => some c
  | .releaseCheckUnit c => some c
  | .readDmaAndCheckStatus c => some c
  | .operatingProfile c => some c
  | .thermalLevels c => some c
  | .powerCaps c => some c
  | .sensorOverride c => some c
  | .readTelemetry c => some c
  | .readDipLog c => some c
  | .readRegisters c => some c
  | .writeRegister c => some c
  | .counterSnapshot c => some c
  | .writeFirmwareChunk c => some c
  | .verifyInactiveSlot c => some c
  | .activateInactiveSlot c => some c
  | .confirmTrialImage c => some c
  | .installKey c => some c
  | .setAuthenticationPolicy c => some c
  | .writeStartupStore c => some c
  | .unlockDebugAccess c => some c
  | .pciePerstNDeemedRelease => none
  | .pcieEndpointReady => none
  | .cdrLockTimeout _ => none
  | .dmaDrainPause _ => none
  | .laneRefclkPresenceChange _ => none
  | .ppsInPresentExpiry => none
  | .managementLinkStateChange _ _ => none

end Sys2Proof
end

