-- ==== Sys2Proof/Laws/PerInstr.lean ====
section
/-! SUPPORT. The family of statements made once for each constructor of `Instr`: an opcode row is well formed
exactly when its packet is. -/

namespace Sys2Proof.Laws.Wf

/-- A row that carries a packet is well formed when the packet is, and only then. -/
def Statement (i : Instr) : Prop := ∀ c, i.packet = some c → i.wf = c.wf

theorem converterStart (x : Start) : Statement (.converterStart x) := fun p h => by cases h
theorem converterRetry (x : Start) : Statement (.converterRetry x) := fun p h => by cases h
theorem overVoltageLockout (vin : Nat) : Statement (.overVoltageLockout vin) := fun p h => by cases h
theorem supplyReset (vin : Nat) : Statement (.supplyReset vin) := fun p h => by cases h
theorem converterStop (vin : Nat) : Statement (.converterStop vin) := fun p h => by cases h
theorem telemetryFrame (f : TelFrame) : Statement (.telemetryFrame f) := fun p h => by cases h
theorem telemetryLost : Statement .telemetryLost := fun p h => by cases h
theorem supplyWarnClear : Statement .supplyWarnClear := fun p h => by cases h
theorem telemetryRecovered : Statement .telemetryRecovered := fun p h => by cases h
theorem externalReset : Statement .externalReset := fun p h => by cases h
theorem resetNRelease : Statement .resetNRelease := fun p h => by cases h
theorem bootImageStart : Statement .bootImageStart := fun p h => by cases h
theorem dramTrainingCommit (failed : Nat) (sub : Nat) (margin : Int) : Statement (.dramTrainingCommit failed sub margin) := fun p h => by cases h
theorem dramTrainingTimeout (failed : Nat) (sub : Nat) : Statement (.dramTrainingTimeout failed sub) := fun p h => by cases h
theorem startupStoreResume : Statement .startupStoreResume := fun p h => by cases h
theorem pcieReset (cause : PcieCause) : Statement (.pcieReset cause) := fun p h => by cases h
theorem pciePerstNRelease : Statement .pciePerstNRelease := fun p h => by cases h
theorem warmReset : Statement .warmReset := fun p h => by cases h
theorem watchdogExpiry (core : Nat) : Statement (.watchdogExpiry core) := fun p h => by cases h
theorem hardTrip : Statement .hardTrip := fun p h => by cases h
theorem sensorSample (sensor : Nat) (raw : Nat) (reading : Int) : Statement (.sensorSample sensor raw reading) := fun p h => by cases h
theorem sensorFault (sensor : Nat) : Statement (.sensorFault sensor) := fun p h => by cases h
theorem sensorSelfCheck (sensor : Nat) (error : Int) : Statement (.sensorSelfCheck sensor error) := fun p h => by cases h
theorem throttleTick : Statement .throttleTick := fun p h => by cases h
theorem ppsInEdge : Statement .ppsInEdge := fun p h => by cases h
theorem frameRefInEdge : Statement .frameRefInEdge := fun p h => by cases h
theorem freq10mPresenceChange (mv : Nat) (ppb : Int) : Statement (.freq10mPresenceChange mv ppb) := fun p h => by cases h
theorem pathForceAssert : Statement .pathForceAssert := fun p h => by cases h
theorem pathForceDeassert : Statement .pathForceDeassert := fun p h => by cases h
theorem ppsOutRise : Statement .ppsOutRise := fun p h => by cases h
theorem ppsOutFall : Statement .ppsOutFall := fun p h => by cases h
theorem gpioPulseEnd (gpio : Nat) : Statement (.gpioPulseEnd gpio) := fun p h => by cases h
theorem cmdRingDoorbell (ring : Nat) (value : Word) : Statement (.cmdRingDoorbell ring value) := fun p h => by cases h
theorem cmdRingEnable (ring : Nat) (value : Word) : Statement (.cmdRingEnable ring value) := fun p h => by cases h
theorem cmdRingDisable (ring : Nat) (value : Word) : Statement (.cmdRingDisable ring value) := fun p h => by cases h
theorem eventQueueEnable (value : Word) : Statement (.eventQueueEnable value) := fun p h => by cases h
theorem eventQueueDisable (value : Word) : Statement (.eventQueueDisable value) := fun p h => by cases h
theorem eventQueueHeadWrite (value : Word) : Statement (.eventQueueHeadWrite value) := fun p h => by cases h
theorem commandUdpPacket (d : Datagram) : Statement (.commandUdpPacket d) := fun p h => by cases h
theorem reassemblyTimeout (src : Endpoint) (ident : Nat) : Statement (.reassemblyTimeout src ident) := fun p h => by cases h
theorem commandExecute (x : ExecIn) : Statement (.commandExecute x) := fun p h => by cases h
theorem backgroundCommandComplete (job : Nat) (ok : Bool) : Statement (.backgroundCommandComplete job ok) := fun p h => by cases h
theorem pendingCommandEffect (tb : Nat) (frame : Nat) : Statement (.pendingCommandEffect tb frame) := fun p h => by cases h
theorem readIdentity (c : Cmd) : Statement (.readIdentity c) := fun p h => by cases h; rfl
theorem registerEventSubscriber (c : Cmd) : Statement (.registerEventSubscriber c) := fun p h => by cases h; rfl
theorem setAllowListEntry (c : Cmd) : Statement (.setAllowListEntry c) := fun p h => by cases h; rfl
theorem cancelPendingCommands (c : Cmd) : Statement (.cancelPendingCommands c) := fun p h => by cases h; rfl
theorem assignGpioFunction (c : Cmd) : Statement (.assignGpioFunction c) := fun p h => by cases h; rfl
theorem readStartupLog (c : Cmd) : Statement (.readStartupLog c) := fun p h => by cases h; rfl
theorem selectManagementLinkMode (c : Cmd) : Statement (.selectManagementLinkMode c) := fun p h => by cases h; rfl
theorem readGpioLevels (c : Cmd) : Statement (.readGpioLevels c) := fun p h => by cases h; rfl
theorem warmResetCommand (c : Cmd) : Statement (.warmResetCommand c) := fun p h => by cases h; rfl
theorem enterSafe (c : Cmd) : Statement (.enterSafe c) := fun p h => by cases h; rfl
theorem interruptAndAlertMasks (c : Cmd) : Statement (.interruptAndAlertMasks c) := fun p h => by cases h; rfl
theorem configurePtp (c : Cmd) : Statement (.configurePtp c) := fun p h => by cases h; rfl
theorem ptpConfigApply : Statement .ptpConfigApply := fun p h => by cases h
theorem acceptRefusedOffset (c : Cmd) : Statement (.acceptRefusedOffset c) := fun p h => by cases h; rfl
theorem setTime (c : Cmd) : Statement (.setTime c) := fun p h => by cases h; rfl
theorem configureTimebase (c : Cmd) : Statement (.configureTimebase c) := fun p h => by cases h; rfl
theorem removeTimebase (c : Cmd) : Statement (.removeTimebase c) := fun p h => by cases h; rfl
theorem configureEventUnit (c : Cmd) : Statement (.configureEventUnit c) := fun p h => by cases h; rfl
theorem releaseEventUnit (c : Cmd) : Statement (.releaseEventUnit c) := fun p h => by cases h; rfl
theorem readTimeStatus (c : Cmd) : Statement (.readTimeStatus c) := fun p h => by cases h; rfl
theorem ptpAnnounceReceived (a : Announce) : Statement (.ptpAnnounceReceived a) := fun p h => by cases h
theorem ptpSyncReceived (m : SyncMeas) : Statement (.ptpSyncReceived m) := fun p h => by cases h
theorem delayReqSend : Statement .delayReqSend := fun p h => by cases h
theorem delayRespReceived (path : Nat) (lane : Nat) (gm : Nat) (late : Int) : Statement (.delayRespReceived path lane gm late) := fun p h => by cases h
theorem announceReceiptTimeout : Statement .announceReceiptTimeout := fun p h => by cases h
theorem syncTimeout : Statement .syncTimeout := fun p h => by cases h
theorem frameBoundary (tb : Nat) : Statement (.frameBoundary tb) := fun p h => by cases h
theorem slewComplete (tb : Nat) : Statement (.slewComplete tb) := fun p h => by cases h
theorem rasterEventFire (unit : Nat) : Statement (.rasterEventFire unit) := fun p h => by cases h
theorem frameBind : Statement .frameBind := fun p h => by cases h
theorem taskDispatch (engine : Nat) : Statement (.taskDispatch engine) := fun p h => by cases h
theorem segmentDone (spire : Nat) (r : SegIn) : Statement (.segmentDone spire r) := fun p h => by cases h
theorem spillRefill : Statement .spillRefill := fun p h => by cases h
theorem bindUrgent (ctx : Nat) (frame : Nat) : Statement (.bindUrgent ctx frame) := fun p h => by cases h
theorem decodeFrameSkip (ctx : Nat) (frame : Nat) : Statement (.decodeFrameSkip ctx frame) := fun p h => by cases h
theorem substitutePicture (ctx : Nat) (frame : Nat) : Statement (.substitutePicture ctx frame) := fun p h => by cases h
theorem domeBind : Statement .domeBind := fun p h => by cases h
theorem domeTaskDone (dome row seg : Nat) : Statement (.domeTaskDone dome row seg) := fun p h => by cases h
theorem frameClose (ctx : Nat) (frame : Nat) (late : Bool) : Statement (.frameClose ctx frame late) := fun p h => by cases h
theorem stagingResume (spire : Nat) : Statement (.stagingResume spire) := fun p h => by cases h
theorem alfFitComplete (ctx : Nat) (frame : Nat) : Statement (.alfFitComplete ctx frame) := fun p h => by cases h
theorem spirePowerUp (spire : Nat) : Statement (.spirePowerUp spire) := fun p h => by cases h
theorem accessUnitMapped (ctx : Nat) (u : UnitHead) : Statement (.accessUnitMapped ctx u) := fun p h => by cases h
theorem accessUnitComplete (ctx : Nat) (slot : Nat) (bottom : Bool) (e : UnitEnd) : Statement (.accessUnitComplete ctx slot bottom e) := fun p h => by cases h
theorem decodeReleaseDeadline (ctx : Nat) (slot : Nat) (bottom : Bool) (e : UnitEnd) : Statement (.decodeReleaseDeadline ctx slot bottom e) := fun p h => by cases h
theorem decodeAbandon (ctx : Nat) (slot : Nat) (bottom : Bool) : Statement (.decodeAbandon ctx slot bottom) := fun p h => by cases h
theorem composedRowWritten (comp : Nat) (r : RowIn) : Statement (.composedRowWritten comp r) := fun p h => by cases h
theorem sourceFrameComplete (source : Nat) (format : Nat) (rate : Nat) : Statement (.sourceFrameComplete source format rate) := fun p h => by cases h
theorem directLineArrival (comp : Nat) (layer : Nat) (line : Nat) : Statement (.directLineArrival comp layer line) := fun p h => by cases h
theorem lanternTileRepair (image : Nat) (tile : Nat) : Statement (.lanternTileRepair image tile) := fun p h => by cases h
theorem lanternScrub : Statement .lanternScrub := fun p h => by cases h
theorem frameReceived (f : RxFrame) : Statement (.frameReceived f) := fun p h => by cases h
theorem videoFrameSkewTimeout (flow : Nat) : Statement (.videoFrameSkewTimeout flow) := fun p h => by cases h
theorem mergeGapTimeout (flow : Nat) : Statement (.mergeGapTimeout flow) := fun p h => by cases h
theorem packetLaunch (x : Launch) : Statement (.packetLaunch x) := fun p h => by cases h
theorem queuedPacketSend (port : Nat) : Statement (.queuedPacketSend port) := fun p h => by cases h
theorem membershipReportRepeat : Statement .membershipReportRepeat := fun p h => by cases h
theorem membershipQueryResponse (port : Nat) (q : MemberQuery) : Statement (.membershipQueryResponse port q) := fun p h => by cases h
theorem arpRefresh : Statement .arpRefresh := fun p h => by cases h
theorem pllLock (port : Nat) (bad : List Nat) : Statement (.pllLock port bad) := fun p h => by cases h
theorem autonegComplete (port : Nat) (ok : Bool) : Statement (.autonegComplete port ok) := fun p h => by cases h
theorem trainingCoeffRequest (lane : Nat) (tap : Nat) (up : Bool) : Statement (.trainingCoeffRequest lane tap up) := fun p h => by cases h
theorem linkTrainingEnd (port : Nat) (bad : List Nat) (precodeTx : Bool) (precodeRx : Bool) : Statement (.linkTrainingEnd port bad precodeTx precodeRx) := fun p h => by cases h
theorem linkLock (lane : Nat) (x : LockSeen) : Statement (.linkLock lane x) := fun p h => by cases h
theorem deskew (port : Nat) (arrivals : List Nat) : Statement (.deskew port arrivals) := fun p h => by cases h
theorem portRetry (port : Nat) : Statement (.portRetry port) := fun p h => by cases h
theorem signalReturn (lane : Nat) : Statement (.signalReturn lane) := fun p h => by cases h
theorem laneLoss (lane : Nat) (kind : LaneLoss) : Statement (.laneLoss lane kind) := fun p h => by cases h
theorem laneRelockTimeout (port : Nat) : Statement (.laneRelockTimeout port) := fun p h => by cases h
theorem fecUncorrectable (x : LaneCount) : Statement (.fecUncorrectable x) := fun p h => by cases h
theorem refLost : Statement .refLost := fun p h => by cases h
theorem fecWindowEnd (w : FecWindow) : Statement (.fecWindowEnd w) := fun p h => by cases h
theorem sentinelTimeout (turret : Nat) (flow : Nat) : Statement (.sentinelTimeout turret flow) := fun p h => by cases h
theorem healthSettled (turret : Nat) : Statement (.healthSettled turret) := fun p h => by cases h
theorem holdoffExpiry : Statement .holdoffExpiry := fun p h => by cases h
theorem sdiTrsLock (lane format rate : Nat) (x : TrsSeen) : Statement (.sdiTrsLock lane format rate x) := fun p h => by cases h
theorem sdiTrsLoss (x : LaneCount) : Statement (.sdiTrsLoss x) := fun p h => by cases h
theorem sdiFrameComplete (lane skew : Nat) (lines : List SdiLine) (x : SdiAnc) : Statement (.sdiFrameComplete lane skew lines x) := fun p h => by cases h
theorem sdiOutputFrame (lane : Nat) : Statement (.sdiOutputFrame lane) := fun p h => by cases h
theorem memoryRequest (q : MemReq) : Statement (.memoryRequest q) := fun p h => by cases h
theorem refreshDue (rank group bank : Nat) : Statement (.refreshDue rank group bank) := fun p h => by cases h
theorem pageIdleClose (rank : Nat) (bank : Nat) : Statement (.pageIdleClose rank bank) := fun p h => by cases h
theorem powerDownEntry (rank : Nat) (arrival : Bool) : Statement (.powerDownEntry rank arrival) := fun p h => by cases h
theorem rhWindowEnd : Statement .rhWindowEnd := fun p h => by cases h
theorem trainingPassStart (channel : Nat) (thermal : Bool) : Statement (.trainingPassStart channel thermal) := fun p h => by cases h
theorem trainingPassCommit (channel : Nat) : Statement (.trainingPassCommit channel) := fun p h => by cases h
theorem trainFail (channel : Nat) (sub : Nat) (margin : Int) : Statement (.trainFail channel sub margin) := fun p h => by cases h
theorem setpointSwitchStart : Statement .setpointSwitchStart := fun p h => by cases h
theorem setpointSwitchComplete : Statement .setpointSwitchComplete := fun p h => by cases h
theorem setpointCheckComplete (failed : Nat) (sub : Nat) (margin : Int) : Statement (.setpointCheckComplete failed sub margin) := fun p h => by cases h
theorem patrolScrub (q : MemReq) : Statement (.patrolScrub q) := fun p h => by cases h
theorem dmaTrigger (channel : Nat) (kind : Nat) : Statement (.dmaTrigger channel kind) := fun p h => by cases h
theorem dmaTimerExpiry (channel : Nat) : Statement (.dmaTimerExpiry channel) := fun p h => by cases h
theorem dmaRunEnd (channel : Nat) (x : DmaIn) : Statement (.dmaRunEnd channel x) := fun p h => by cases h
theorem drainTimeout (tile : Nat) : Statement (.drainTimeout tile) := fun p h => by cases h
theorem dmaDomainResume (domain : Nat) : Statement (.dmaDomainResume domain) := fun p h => by cases h
theorem hostMemoryLost : Statement .hostMemoryLost := fun p h => by cases h
theorem msixReenable (vectors : List Nat) : Statement (.msixReenable vectors) := fun p h => by cases h
theorem belfNow32Read : Statement .belfNow32Read := fun p h => by cases h
theorem tsqHiRead (turret : Nat) : Statement (.tsqHiRead turret) := fun p h => by cases h
theorem tbFrameCountRead (tb : Nat) : Statement (.tbFrameCountRead tb) := fun p h => by cases h
theorem counterReadClear (offset : Nat) : Statement (.counterReadClear offset) := fun p h => by cases h
theorem w1cWrite (offset : Nat) (value : Word) (meets : Word) : Statement (.w1cWrite offset value meets) := fun p h => by cases h
theorem chkFeed8Write (unit : Nat) (value : Word) : Statement (.chkFeed8Write unit value) := fun p h => by cases h
theorem chkFeed16Write (unit : Nat) (value : Word) : Statement (.chkFeed16Write unit value) := fun p h => by cases h
theorem chkFeed32Write (unit : Nat) (value : Word) : Statement (.chkFeed32Write unit value) := fun p h => by cases h
theorem registerWrite (offset : Nat) (value : Word) : Statement (.registerWrite offset value) := fun p h => by cases h
theorem bar2Write (offset : Nat) (bytes : List Byte) : Statement (.bar2Write offset bytes) := fun p h => by cases h
theorem bar2Read (offset : Nat) (len : Nat) : Statement (.bar2Read offset len) := fun p h => by cases h
theorem selectLaneReference (c : Cmd) : Statement (.selectLaneReference c) := fun p h => by cases h; rfl
theorem configureTurretLayout (c : Cmd) : Statement (.configureTurretLayout c) := fun p h => by cases h; rfl
theorem configureMediaLane (c : Cmd) : Statement (.configureMediaLane c) := fun p h => by cases h; rfl
theorem setTransmitTaps (c : Cmd) : Statement (.setTransmitTaps c) := fun p h => by cases h; rfl
theorem setPolarity (c : Cmd) : Statement (.setPolarity c) := fun p h => by cases h; rfl
theorem prbsGeneratorChecker (c : Cmd) : Statement (.prbsGeneratorChecker c) := fun p h => by cases h; rfl
theorem loopback (c : Cmd) : Statement (.loopback c) := fun p h => by cases h; rfl
theorem readLaneStatus (c : Cmd) : Statement (.readLaneStatus c) := fun p h => by cases h; rfl
theorem portIdentity (c : Cmd) : Statement (.portIdentity c) := fun p h => by cases h; rfl
theorem pathHealthParameters (c : Cmd) : Statement (.pathHealthParameters c) := fun p h => by cases h; rfl
theorem interlockParameters (c : Cmd) : Statement (.interlockParameters c) := fun p h => by cases h; rfl
theorem privilegedPolicer (c : Cmd) : Statement (.privilegedPolicer c) := fun p h => by cases h; rfl
theorem turretOverheadColourTable (c : Cmd) : Statement (.turretOverheadColourTable c) := fun p h => by cases h; rfl
theorem drrQueue (c : Cmd) : Statement (.drrQueue c) := fun p h => by cases h; rfl
theorem sendHostPacket (c : Cmd) : Statement (.sendHostPacket c) := fun p h => by cases h; rfl
theorem readTurretStatus (c : Cmd) : Statement (.readTurretStatus c) := fun p h => by cases h; rfl
theorem configureIngressFlow (c : Cmd) : Statement (.configureIngressFlow c) := fun p h => by cases h; rfl
theorem deleteIngressFlow (c : Cmd) : Statement (.deleteIngressFlow c) := fun p h => by cases h; rfl
theorem configureEgressFlow (c : Cmd) : Statement (.configureEgressFlow c) := fun p h => by cases h; rfl
theorem deleteEgressFlow (c : Cmd) : Statement (.deleteEgressFlow c) := fun p h => by cases h; rfl
theorem bindAudioFlow (c : Cmd) : Statement (.bindAudioFlow c) := fun p h => by cases h; rfl
theorem readFlowStatus (c : Cmd) : Statement (.readFlowStatus c) := fun p h => by cases h; rfl
theorem readMembershipTable (c : Cmd) : Statement (.readMembershipTable c) := fun p h => by cases h; rfl
theorem openEncodeContext (c : Cmd) : Statement (.openEncodeContext c) := fun p h => by cases h; rfl
theorem closeContext (c : Cmd) : Statement (.closeContext c) := fun p h => by cases h; rfl
theorem modifyEncodeContext (c : Cmd) : Statement (.modifyEncodeContext c) := fun p h => by cases h; rfl
theorem requestIrap (c : Cmd) : Statement (.requestIrap c) := fun p h => by cases h; rfl
theorem invalidateReferences (c : Cmd) : Statement (.invalidateReferences c) := fun p h => by cases h; rfl
theorem rateParameters (c : Cmd) : Statement (.rateParameters c) := fun p h => by cases h; rfl
theorem sendCeilingAndHrd (c : Cmd) : Statement (.sendCeilingAndHrd c) := fun p h => by cases h; rfl
theorem configureStatmuxGroup (c : Cmd) : Statement (.configureStatmuxGroup c) := fun p h => by cases h; rfl
theorem joinGroup (c : Cmd) : Statement (.joinGroup c) := fun p h => by cases h; rfl
theorem removeFromGroup (c : Cmd) : Statement (.removeFromGroup c) := fun p h => by cases h; rfl
theorem readGroupStatus (c : Cmd) : Statement (.readGroupStatus c) := fun p h => by cases h; rfl
theorem readRateControlStatus (c : Cmd) : Statement (.readRateControlStatus c) := fun p h => by cases h; rfl
theorem schedulingFields (c : Cmd) : Statement (.schedulingFields c) := fun p h => by cases h; rfl
theorem deviceSchedulingFields (c : Cmd) : Statement (.deviceSchedulingFields c) := fun p h => by cases h; rfl
theorem readSchedulingStatistics (c : Cmd) : Statement (.readSchedulingStatistics c) := fun p h => by cases h; rfl
theorem openDecodeContext (c : Cmd) : Statement (.openDecodeContext c) := fun p h => by cases h; rfl
theorem flushAndResynchronise (c : Cmd) : Statement (.flushAndResynchronise c) := fun p h => by cases h; rfl
theorem readDecodeStatus (c : Cmd) : Statement (.readDecodeStatus c) := fun p h => by cases h; rfl
theorem readContextStatus (c : Cmd) : Statement (.readContextStatus c) := fun p h => by cases h; rfl
theorem configureComposition (c : Cmd) : Statement (.configureComposition c) := fun p h => by cases h; rfl
theorem deleteComposition (c : Cmd) : Statement (.deleteComposition c) := fun p h => by cases h; rfl
theorem configureVideoLayer (c : Cmd) : Statement (.configureVideoLayer c) := fun p h => by cases h; rfl
theorem configureGraphicLayer (c : Cmd) : Statement (.configureGraphicLayer c) := fun p h => by cases h; rfl
theorem defineAsset (c : Cmd) : Statement (.defineAsset c) := fun p h => by cases h; rfl
theorem writeAssetChunk (c : Cmd) : Statement (.writeAssetChunk c) := fun p h => by cases h; rfl
theorem commitAsset (c : Cmd) : Statement (.commitAsset c) := fun p h => by cases h; rfl
theorem freeAsset (c : Cmd) : Statement (.freeAsset c) := fun p h => by cases h; rfl
theorem setMasteringMetadata (c : Cmd) : Statement (.setMasteringMetadata c) := fun p h => by cases h; rfl
theorem readCompositionStatus (c : Cmd) : Statement (.readCompositionStatus c) := fun p h => by cases h; rfl
theorem defineLanternImage (c : Cmd) : Statement (.defineLanternImage c) := fun p h => by cases h; rfl
theorem writeLanternImageChunk (c : Cmd) : Statement (.writeLanternImageChunk c) := fun p h => by cases h; rfl
theorem commitLanternImage (c : Cmd) : Statement (.commitLanternImage c) := fun p h => by cases h; rfl
theorem configureLanternItem (c : Cmd) : Statement (.configureLanternItem c) := fun p h => by cases h; rfl
theorem readLanternStatus (c : Cmd) : Statement (.readLanternStatus c) := fun p h => by cases h; rfl
theorem memoryPolicy (c : Cmd) : Statement (.memoryPolicy c) := fun p h => by cases h; rfl
theorem portLatencyTarget (c : Cmd) : Statement (.portLatencyTarget c) := fun p h => by cases h; rfl
theorem rowDisturbanceSettings (c : Cmd) : Statement (.rowDisturbanceSettings c) := fun p h => by cases h; rfl
theorem setPoint (c : Cmd) : Statement (.setPoint c) := fun p h => by cases h; rfl
theorem retrainChannel (c : Cmd) : Statement (.retrainChannel c) := fun p h => by cases h; rfl
theorem bar2Aperture (c : Cmd) : Statement (.bar2Aperture c) := fun p h => by cases h; rfl
theorem readMemoryStatus (c : Cmd) : Statement (.readMemoryStatus c) := fun p h => by cases h; rfl
theorem configureDmaChannel (c : Cmd) : Statement (.configureDmaChannel c) := fun p h => by cases h; rfl
theorem startChannels (c : Cmd) : Statement (.startChannels c) := fun p h => by cases h; rfl
theorem channelControl (c : Cmd) : Statement (.channelControl c) := fun p h => by cases h; rfl
theorem releaseDmaChannel (c : Cmd) : Statement (.releaseDmaChannel c) := fun p h => by cases h; rfl
theorem engineSettings (c : Cmd) : Statement (.engineSettings c) := fun p h => by cases h; rfl
theorem openCheckUnit (c : Cmd) : Statement (.openCheckUnit c) := fun p h => by cases h; rfl
theorem closeCheckUnit (c : Cmd) : Statement (.closeCheckUnit c) := fun p h => by cases h; rfl
theorem releaseCheckUnit (c : Cmd) : Statement (.releaseCheckUnit c) := fun p h => by cases h; rfl
theorem readDmaAndCheckStatus (c : Cmd) : Statement (.readDmaAndCheckStatus c) := fun p h => by cases h; rfl
theorem operatingProfile (c : Cmd) : Statement (.operatingProfile c) := fun p h => by cases h; rfl
theorem thermalLevels (c : Cmd) : Statement (.thermalLevels c) := fun p h => by cases h; rfl
theorem powerCaps (c : Cmd) : Statement (.powerCaps c) := fun p h => by cases h; rfl
theorem sensorOverride (c : Cmd) : Statement (.sensorOverride c) := fun p h => by cases h; rfl
theorem readTelemetry (c : Cmd) : Statement (.readTelemetry c) := fun p h => by cases h; rfl
theorem readDipLog (c : Cmd) : Statement (.readDipLog c) := fun p h => by cases h; rfl
theorem readRegisters (c : Cmd) : Statement (.readRegisters c) := fun p h => by cases h; rfl
theorem writeRegister (c : Cmd) : Statement (.writeRegister c) := fun p h => by cases h; rfl
theorem counterSnapshot (c : Cmd) : Statement (.counterSnapshot c) := fun p h => by cases h; rfl
theorem writeFirmwareChunk (c : Cmd) : Statement (.writeFirmwareChunk c) := fun p h => by cases h; rfl
theorem verifyInactiveSlot (c : Cmd) : Statement (.verifyInactiveSlot c) := fun p h => by cases h; rfl
theorem activateInactiveSlot (c : Cmd) : Statement (.activateInactiveSlot c) := fun p h => by cases h; rfl
theorem confirmTrialImage (c : Cmd) : Statement (.confirmTrialImage c) := fun p h => by cases h; rfl
theorem installKey (c : Cmd) : Statement (.installKey c) := fun p h => by cases h; rfl
theorem setAuthenticationPolicy (c : Cmd) : Statement (.setAuthenticationPolicy c) := fun p h => by cases h; rfl
theorem writeStartupStore (c : Cmd) : Statement (.writeStartupStore c) := fun p h => by cases h; rfl
theorem unlockDebugAccess (c : Cmd) : Statement (.unlockDebugAccess c) := fun p h => by cases h; rfl
theorem pciePerstNDeemedRelease : Statement .pciePerstNDeemedRelease := fun p h => by cases h
theorem pcieEndpointReady : Statement .pcieEndpointReady := fun p h => by cases h
theorem cdrLockTimeout (port : Nat) : Statement (.cdrLockTimeout port) := fun p h => by cases h
theorem dmaDrainPause (channel : Nat) : Statement (.dmaDrainPause channel) := fun p h => by cases h
theorem laneRefclkPresenceChange (ppm : Int) : Statement (.laneRefclkPresenceChange ppm) := fun p h => by cases h
theorem ppsInPresentExpiry : Statement .ppsInPresentExpiry := fun p h => by cases h
theorem managementLinkStateChange (up : Bool) (rate : Nat) : Statement (.managementLinkStateChange up rate) := fun p h => by cases h

end Sys2Proof.Laws.Wf
end

