-- ==== Sys2Proof/Laws/Settle.lean ====
section
/-! SUPPORT. What `still` keeps, field by field: two states that leave each other agree in each of these. -/

namespace Sys2Proof.Machine

theorem Leaves.supply {s t : State} (h : Leaves s t) : t.supply = s.supply := congrArg (·.supply) h
theorem Leaves.pins {s t : State} (h : Leaves s t) : t.pins = s.pins := congrArg (·.pins) h
theorem Leaves.keep {s t : State} (h : Leaves s t) : t.keep = s.keep := congrArg (·.keep) h
theorem Leaves.bel {s t : State} (h : Leaves s t) : t.bel = s.bel := congrArg (·.bel) h
theorem Leaves.ctxs {s t : State} (h : Leaves s t) : t.ctxs = s.ctxs := congrArg (·.ctxs) h
theorem Leaves.groups {s t : State} (h : Leaves s t) : t.groups = s.groups := congrArg (·.groups) h
theorem Leaves.camp {s t : State} (h : Leaves s t) : t.camp = s.camp := congrArg (·.camp) h
theorem Leaves.cup {s t : State} (h : Leaves s t) : t.cup = s.cup := congrArg (·.cup) h
theorem Leaves.lanes {s t : State} (h : Leaves s t) : t.lanes = s.lanes := congrArg (·.lanes) h
theorem Leaves.mem {s t : State} (h : Leaves s t) : t.mem = s.mem := congrArg (·.mem) h
theorem Leaves.dma {s t : State} (h : Leaves s t) : t.dma = s.dma := congrArg (·.dma) h
theorem Leaves.watch {s t : State} (h : Leaves s t) : t.watch = s.watch := congrArg (·.watch) h
theorem Leaves.irqEn {s t : State} (h : Leaves s t) : t.irqEn = s.irqEn := congrArg (·.irqEn) h
theorem Leaves.alertEn {s t : State} (h : Leaves s t) : t.alertEn = s.alertEn := congrArg (·.alertEn) h
theorem Leaves.msix {s t : State} (h : Leaves s t) : t.msix = s.msix := congrArg (·.msix) h
theorem Leaves.msixMasked {s t : State} (h : Leaves s t) : t.msixMasked = s.msixMasked := congrArg (·.msixMasked) h
theorem Leaves.tick {s t : State} (h : Leaves s t) : t.tick = s.tick := congrArg (·.tick) h
theorem Leaves.free {s t : State} (h : Leaves s t) : t.free = s.free := congrArg (·.free) h
theorem Leaves.pending {s t : State} (h : Leaves s t) : t.pending = s.pending := congrArg (·.pending) h
theorem Leaves.dev_variant {s t : State} (h : Leaves s t) : t.dev.variant = s.dev.variant := congrArg (·.dev.variant) h
theorem Leaves.dev_lastReset {s t : State} (h : Leaves s t) : t.dev.lastReset = s.dev.lastReset := congrArg (·.dev.lastReset) h
theorem Leaves.dev_trialReverted {s t : State} (h : Leaves s t) : t.dev.trialReverted = s.dev.trialReverted := congrArg (·.dev.trialReverted) h
theorem Leaves.dev_trial {s t : State} (h : Leaves s t) : t.dev.trial = s.dev.trial := congrArg (·.dev.trial) h
theorem Leaves.dev_image {s t : State} (h : Leaves s t) : t.dev.image = s.dev.image := congrArg (·.dev.image) h
theorem Leaves.dev_inProgress {s t : State} (h : Leaves s t) : t.dev.inProgress = s.dev.inProgress := congrArg (·.dev.inProgress) h
theorem Leaves.dev_wdRecent {s t : State} (h : Leaves s t) : t.dev.wdRecent = s.dev.wdRecent := congrArg (·.dev.wdRecent) h
theorem Leaves.dev_safeBoot {s t : State} (h : Leaves s t) : t.dev.safeBoot = s.dev.safeBoot := congrArg (·.dev.safeBoot) h
theorem Leaves.dev_warmDue {s t : State} (h : Leaves s t) : t.dev.warmDue = s.dev.warmDue := congrArg (·.dev.warmDue) h
theorem Leaves.dev_warmBoot {s t : State} (h : Leaves s t) : t.dev.warmBoot = s.dev.warmBoot := congrArg (·.dev.warmBoot) h
theorem Leaves.dev_debug {s t : State} (h : Leaves s t) : t.dev.debug = s.dev.debug := congrArg (·.dev.debug) h
theorem Leaves.dev_mgmtUp {s t : State} (h : Leaves s t) : t.dev.mgmtUp = s.dev.mgmtUp := congrArg (·.dev.mgmtUp) h
theorem Leaves.cmd_rings {s t : State} (h : Leaves s t) : t.cmd.rings = s.cmd.rings := congrArg (·.cmd.rings) h
theorem Leaves.cmd_allow {s t : State} (h : Leaves s t) : t.cmd.allow = s.cmd.allow := congrArg (·.cmd.allow) h
theorem Leaves.cmd_kept {s t : State} (h : Leaves s t) : t.cmd.kept = s.cmd.kept := congrArg (·.cmd.kept) h
theorem Leaves.cmd_reasm {s t : State} (h : Leaves s t) : t.cmd.reasm = s.cmd.reasm := congrArg (·.cmd.reasm) h
theorem Leaves.cmd_jobs {s t : State} (h : Leaves s t) : t.cmd.jobs = s.cmd.jobs := congrArg (·.cmd.jobs) h
theorem Leaves.cmd_pend {s t : State} (h : Leaves s t) : t.cmd.pend = s.cmd.pend := congrArg (·.cmd.pend) h
theorem Leaves.cmd_nextId {s t : State} (h : Leaves s t) : t.cmd.nextId = s.cmd.nextId := congrArg (·.cmd.nextId) h
theorem Leaves.cmd_log {s t : State} (h : Leaves s t) : t.cmd.log = s.cmd.log := congrArg (·.cmd.log) h
theorem Leaves.cmd_paused {s t : State} (h : Leaves s t) : t.cmd.paused = s.cmd.paused := congrArg (·.cmd.paused) h
theorem Leaves.flows_idents {s t : State} (h : Leaves s t) : t.flows.idents = s.flows.idents := congrArg (·.flows.idents) h
theorem Leaves.flows_overA {s t : State} (h : Leaves s t) : t.flows.overA = s.flows.overA := congrArg (·.flows.overA) h
theorem Leaves.flows_overB {s t : State} (h : Leaves s t) : t.flows.overB = s.flows.overB := congrArg (·.flows.overB) h
theorem Leaves.flows_police {s t : State} (h : Leaves s t) : t.flows.police = s.flows.police := congrArg (·.flows.police) h
theorem Leaves.flows_ingress {s t : State} (h : Leaves s t) : t.flows.ingress = s.flows.ingress := congrArg (·.flows.ingress) h
theorem Leaves.flows_egress {s t : State} (h : Leaves s t) : t.flows.egress = s.flows.egress := congrArg (·.flows.egress) h
theorem Leaves.flows_drr {s t : State} (h : Leaves s t) : t.flows.drr = s.flows.drr := congrArg (·.flows.drr) h
theorem Leaves.flows_visit {s t : State} (h : Leaves s t) : t.flows.visit = s.flows.visit := congrArg (·.flows.visit) h
theorem Leaves.flows_tails {s t : State} (h : Leaves s t) : t.flows.tails = s.flows.tails := congrArg (·.flows.tails) h
theorem Leaves.flows_timed {s t : State} (h : Leaves s t) : t.flows.timed = s.flows.timed := congrArg (·.flows.timed) h
theorem Leaves.flows_hostWin {s t : State} (h : Leaves s t) : t.flows.hostWin = s.flows.hostWin := congrArg (·.flows.hostWin) h
theorem Leaves.flows_neigh {s t : State} (h : Leaves s t) : t.flows.neigh = s.flows.neigh := congrArg (·.flows.neigh) h
theorem Leaves.flows_lock {s t : State} (h : Leaves s t) : t.flows.lock = s.flows.lock := congrArg (·.flows.lock) h
@[simp] theorem settle_supply (s0 s : State) : (settle s0 s).supply = s.supply := Leaves.supply (still_settle s0 s)
@[simp] theorem settle_pins (s0 s : State) : (settle s0 s).pins = s.pins := Leaves.pins (still_settle s0 s)
@[simp] theorem settle_keep (s0 s : State) : (settle s0 s).keep = s.keep := Leaves.keep (still_settle s0 s)
@[simp] theorem settle_bel (s0 s : State) : (settle s0 s).bel = s.bel := Leaves.bel (still_settle s0 s)
@[simp] theorem settle_ctxs (s0 s : State) : (settle s0 s).ctxs = s.ctxs := Leaves.ctxs (still_settle s0 s)
@[simp] theorem settle_groups (s0 s : State) : (settle s0 s).groups = s.groups := Leaves.groups (still_settle s0 s)
@[simp] theorem settle_camp (s0 s : State) : (settle s0 s).camp = s.camp := Leaves.camp (still_settle s0 s)
@[simp] theorem settle_cup (s0 s : State) : (settle s0 s).cup = s.cup := Leaves.cup (still_settle s0 s)
@[simp] theorem settle_lanes (s0 s : State) : (settle s0 s).lanes = s.lanes := Leaves.lanes (still_settle s0 s)
@[simp] theorem settle_mem (s0 s : State) : (settle s0 s).mem = s.mem := Leaves.mem (still_settle s0 s)
@[simp] theorem settle_dma (s0 s : State) : (settle s0 s).dma = s.dma := Leaves.dma (still_settle s0 s)
@[simp] theorem settle_watch (s0 s : State) : (settle s0 s).watch = s.watch := Leaves.watch (still_settle s0 s)
@[simp] theorem settle_irqEn (s0 s : State) : (settle s0 s).irqEn = s.irqEn := Leaves.irqEn (still_settle s0 s)
@[simp] theorem settle_alertEn (s0 s : State) : (settle s0 s).alertEn = s.alertEn := Leaves.alertEn (still_settle s0 s)
@[simp] theorem settle_msix (s0 s : State) : (settle s0 s).msix = s.msix := Leaves.msix (still_settle s0 s)
@[simp] theorem settle_msixMasked (s0 s : State) : (settle s0 s).msixMasked = s.msixMasked := Leaves.msixMasked (still_settle s0 s)
@[simp] theorem settle_tick (s0 s : State) : (settle s0 s).tick = s.tick := Leaves.tick (still_settle s0 s)
@[simp] theorem settle_free (s0 s : State) : (settle s0 s).free = s.free := Leaves.free (still_settle s0 s)
@[simp] theorem settle_pending (s0 s : State) : (settle s0 s).pending = s.pending := Leaves.pending (still_settle s0 s)
@[simp] theorem settle_dev_variant (s0 s : State) : (settle s0 s).dev.variant = s.dev.variant := Leaves.dev_variant (still_settle s0 s)
@[simp] theorem settle_dev_lastReset (s0 s : State) : (settle s0 s).dev.lastReset = s.dev.lastReset := Leaves.dev_lastReset (still_settle s0 s)
@[simp] theorem settle_dev_trialReverted (s0 s : State) : (settle s0 s).dev.trialReverted = s.dev.trialReverted := Leaves.dev_trialReverted (still_settle s0 s)
@[simp] theorem settle_dev_trial (s0 s : State) : (settle s0 s).dev.trial = s.dev.trial := Leaves.dev_trial (still_settle s0 s)
@[simp] theorem settle_dev_image (s0 s : State) : (settle s0 s).dev.image = s.dev.image := Leaves.dev_image (still_settle s0 s)
@[simp] theorem settle_dev_inProgress (s0 s : State) : (settle s0 s).dev.inProgress = s.dev.inProgress := Leaves.dev_inProgress (still_settle s0 s)
@[simp] theorem settle_dev_wdRecent (s0 s : State) : (settle s0 s).dev.wdRecent = s.dev.wdRecent := Leaves.dev_wdRecent (still_settle s0 s)
@[simp] theorem settle_dev_safeBoot (s0 s : State) : (settle s0 s).dev.safeBoot = s.dev.safeBoot := Leaves.dev_safeBoot (still_settle s0 s)
@[simp] theorem settle_dev_warmDue (s0 s : State) : (settle s0 s).dev.warmDue = s.dev.warmDue := Leaves.dev_warmDue (still_settle s0 s)
@[simp] theorem settle_dev_warmBoot (s0 s : State) : (settle s0 s).dev.warmBoot = s.dev.warmBoot := Leaves.dev_warmBoot (still_settle s0 s)
@[simp] theorem settle_dev_debug (s0 s : State) : (settle s0 s).dev.debug = s.dev.debug := Leaves.dev_debug (still_settle s0 s)
@[simp] theorem settle_dev_mgmtUp (s0 s : State) : (settle s0 s).dev.mgmtUp = s.dev.mgmtUp := Leaves.dev_mgmtUp (still_settle s0 s)
@[simp] theorem settle_cmd_rings (s0 s : State) : (settle s0 s).cmd.rings = s.cmd.rings := Leaves.cmd_rings (still_settle s0 s)
@[simp] theorem settle_cmd_allow (s0 s : State) : (settle s0 s).cmd.allow = s.cmd.allow := Leaves.cmd_allow (still_settle s0 s)
@[simp] theorem settle_cmd_kept (s0 s : State) : (settle s0 s).cmd.kept = s.cmd.kept := Leaves.cmd_kept (still_settle s0 s)
@[simp] theorem settle_cmd_reasm (s0 s : State) : (settle s0 s).cmd.reasm = s.cmd.reasm := Leaves.cmd_reasm (still_settle s0 s)
@[simp] theorem settle_cmd_jobs (s0 s : State) : (settle s0 s).cmd.jobs = s.cmd.jobs := Leaves.cmd_jobs (still_settle s0 s)
@[simp] theorem settle_cmd_pend (s0 s : State) : (settle s0 s).cmd.pend = s.cmd.pend := Leaves.cmd_pend (still_settle s0 s)
@[simp] theorem settle_cmd_nextId (s0 s : State) : (settle s0 s).cmd.nextId = s.cmd.nextId := Leaves.cmd_nextId (still_settle s0 s)
@[simp] theorem settle_cmd_log (s0 s : State) : (settle s0 s).cmd.log = s.cmd.log := Leaves.cmd_log (still_settle s0 s)
@[simp] theorem settle_cmd_paused (s0 s : State) : (settle s0 s).cmd.paused = s.cmd.paused := Leaves.cmd_paused (still_settle s0 s)
@[simp] theorem settle_flows_idents (s0 s : State) : (settle s0 s).flows.idents = s.flows.idents := Leaves.flows_idents (still_settle s0 s)
@[simp] theorem settle_flows_overA (s0 s : State) : (settle s0 s).flows.overA = s.flows.overA := Leaves.flows_overA (still_settle s0 s)
@[simp] theorem settle_flows_overB (s0 s : State) : (settle s0 s).flows.overB = s.flows.overB := Leaves.flows_overB (still_settle s0 s)
@[simp] theorem settle_flows_police (s0 s : State) : (settle s0 s).flows.police = s.flows.police := Leaves.flows_police (still_settle s0 s)
@[simp] theorem settle_flows_ingress (s0 s : State) : (settle s0 s).flows.ingress = s.flows.ingress := Leaves.flows_ingress (still_settle s0 s)
@[simp] theorem settle_flows_egress (s0 s : State) : (settle s0 s).flows.egress = s.flows.egress := Leaves.flows_egress (still_settle s0 s)
@[simp] theorem settle_flows_drr (s0 s : State) : (settle s0 s).flows.drr = s.flows.drr := Leaves.flows_drr (still_settle s0 s)
@[simp] theorem settle_flows_visit (s0 s : State) : (settle s0 s).flows.visit = s.flows.visit := Leaves.flows_visit (still_settle s0 s)
@[simp] theorem settle_flows_tails (s0 s : State) : (settle s0 s).flows.tails = s.flows.tails := Leaves.flows_tails (still_settle s0 s)
@[simp] theorem settle_flows_timed (s0 s : State) : (settle s0 s).flows.timed = s.flows.timed := Leaves.flows_timed (still_settle s0 s)
@[simp] theorem settle_flows_hostWin (s0 s : State) : (settle s0 s).flows.hostWin = s.flows.hostWin := Leaves.flows_hostWin (still_settle s0 s)
@[simp] theorem settle_flows_neigh (s0 s : State) : (settle s0 s).flows.neigh = s.flows.neigh := Leaves.flows_neigh (still_settle s0 s)
@[simp] theorem settle_flows_lock (s0 s : State) : (settle s0 s).flows.lock = s.flows.lock := Leaves.flows_lock (still_settle s0 s)

theorem Leaves.refl (s : State) : Leaves s s := rfl

theorem Leaves.trans {s t u : State} (h : Leaves s t) (g : Leaves t u) : Leaves s u := Eq.trans g h

theorem Leaves.symm {s t : State} (h : Leaves s t) : Leaves t s := Eq.symm h

theorem leaves_settle (s0 s : State) : Leaves s (settle s0 s) := still_settle s0 s

theorem leaves_emit (code ctx source : Nat) (bytes : List Byte) (s : State) : Leaves s (emit code ctx source bytes s) :=
  still_emit code ctx source bytes s

/-- A step that ends in `ran` gives its effect's state. -/
theorem gives_ran (s0 u : State) : Gives u (ran s0 u) := ⟨settle s0 u, rfl, still_settle s0 u⟩

theorem gives_of_leaves {s0 u v : State} (h : Leaves u v) : Gives u (ran s0 v) :=
  ⟨settle s0 v, rfl, h.trans (leaves_settle s0 v)⟩

/-- A step whose effect ends in an event tells it. -/
theorem tells_ran (code ctx source : Nat) (bytes : List Byte) (s u : State) :
    Tells code ctx source bytes s u (ran s (emit code ctx source bytes u)) :=
  ⟨rfl, (leaves_emit code ctx source bytes u).trans (leaves_settle s _)⟩

/-- A step whose effect sends `x` last sends it. -/
theorem sends_ran {s u : State} (x : Out) (h : Grows s u) : Sends x s u (ran s (send x u)) := by
  have l : still (settle s (send x u)) = still u := (still_settle s (send x u)).trans (still_send x u)
  refine ⟨settle s (send x u), rfl, l, ?_⟩
  obtain ⟨a, ha⟩ := h
  obtain ⟨b, hb⟩ := grows_settle s (send x u)
  exact ⟨b, a, by rw [hb]; simp [send, ha]⟩

/-! ## Events change the subscribers, the event queue, interrupt flags, counters and the output alone -/

/-- `t` is `s` but for subscribers, the event queue, interrupt flags, counters, MSI-X and output. -/
def Reports (s t : State) : Prop :=
  t = { s with irq := t.irq, counters := t.counters, msixPending := t.msixPending, out := t.out
               cmd := { s.cmd with subs := t.cmd.subs, evq := t.cmd.evq } }

theorem Reports.refl (s : State) : Reports s s := rfl

theorem Reports.trans {s t u : State} (h : Reports s t) (g : Reports t u) : Reports s u := by
  unfold Reports at *
  rw [g, h]

theorem Reports.dev {s t : State} (h : Reports s t) : t.dev = s.dev := by rw [h]

theorem Reports.flows {s t : State} (h : Reports s t) : t.flows = s.flows := by rw [h]

theorem Reports.pins {s t : State} (h : Reports s t) : t.pins = s.pins := by rw [h]

theorem reports_foldl {β : Type} (f : State → β → State) (h : ∀ s x, Reports s (f s x)) (l : List β) (s : State) :
    Reports s (l.foldl f s) := by
  induction l generalizing s with
  | nil => exact .refl s
  | cons x t ih => exact (h s x).trans (ih _)

theorem reports_sendMsix (v : Nat) (s : State) : Reports s (sendMsix v s) := by
  unfold sendMsix
  split
  · exact .refl s
  · split
    · split <;> rfl
    · rfl

theorem reports_askSub (u : Sub) (s : State) : Reports s (askSub u s) := by
  unfold askSub
  split <;> rfl

theorem reports_offer (e : Event) (i : Nat) (u : Sub) (s : State) : Reports s (offer e i u s) := by
  unfold offer
  dsimp only
  split
  · exact .refl s
  · split
    · split
      · rfl
      · split
        · refine Reports.trans ?_ (reports_sendMsix _ _); rfl
        · rfl
    · split
      · refine Reports.trans ?_ (reports_askSub _ _); rfl
      · split <;> rfl

theorem reports_emit (code ctx source : Nat) (bytes : List Byte) (s : State) :
    Reports s (emit code ctx source bytes s) := by
  unfold emit
  refine reports_foldl _ (fun t i => ?_) _ _
  split
  · exact reports_offer _ _ _ _
  · exact .refl t

@[simp] theorem emit_dev (code ctx source : Nat) (bytes : List Byte) (s : State) :
    (emit code ctx source bytes s).dev = s.dev := (reports_emit ..).dev

@[simp] theorem emit_flows (code ctx source : Nat) (bytes : List Byte) (s : State) :
    (emit code ctx source bytes s).flows = s.flows := (reports_emit ..).flows

@[simp] theorem emit_pins (code ctx source : Nat) (bytes : List Byte) (s : State) :
    (emit code ctx source bytes s).pins = s.pins := (reports_emit ..).pins

theorem reports_sendLines (s0 s : State) : Reports s (sendLines s0 s) := by
  unfold sendLines
  refine reports_foldl _ (fun t b => ?_) _ _
  split
  · exact reports_sendMsix _ _
  · exact .refl t

/-! ## The device state through `settle` -/

/-- The device state is one that R108 and R109 do not move. -/
def restful (d : DevState) : Bool := d ∉ [DevState.standby, .run, .degraded]

@[simp] theorem interlock_dev (s : State) : (interlock s).dev = s.dev := by
  unfold interlock
  split
  · rfl
  · split
    · rfl
    · split
      · rfl
      · simp [pathEvent, bump, raise]

@[simp] theorem refreshTurret_dev (t : Nat) (s : State) : (refreshTurret t s).dev = s.dev :=
  (modHealth_dev _ t _).trans (modHealth_dev s t _)

theorem foldl_dev {β : Type} (f : State → β → State) (h : ∀ s x, (f s x).dev = s.dev) (l : List β) (s : State) :
    (l.foldl f s).dev = s.dev := by
  induction l generalizing s with
  | nil => rfl
  | cons x t ih => rw [List.foldl_cons, ih, h]

@[simp] theorem reportBad_dev (t : Nat) (s : State) : (reportBad t s).dev = s.dev := by
  simp [reportBad, pathEvent, raise]

@[simp] theorem settleTurrets_dev (s : State) : (settleTurrets s).dev = s.dev := by
  unfold settleTurrets
  dsimp only
  split
  · simp
  · rw [interlock_dev, foldl_dev _ fun s t => reportBad_dev t s, foldl_dev _ fun s t => modHealth_dev s t _]
    simp

@[simp] theorem reportOn_dev (k p : Nat) (m : Nat × Nat × Nat) (s : State) : (reportOn k p m s).dev = s.dev := by
  unfold reportOn
  dsimp only
  split
  · rfl
  · split <;> rfl

@[simp] theorem report_dev (k : Nat) (m : Nat × Nat × Nat) (s : State) : (report k m s).dev = s.dev :=
  foldl_dev _ (fun s p => reportOn_dev k p m s) _ _

@[simp] theorem settleMembers_dev (s : State) : (settleMembers s).dev = s.dev := by
  unfold settleMembers
  dsimp only
  split
  · rfl
  · exact (foldl_dev _ (fun _ _ => report_dev _ _ _) _ _).trans (foldl_dev _ (fun _ _ => report_dev _ _ _) _ _)

theorem settleOpen_rest {s : State} (h : restful s.dev.state = true) : settleOpen s = s := by
  unfold settleOpen
  cases e : s.dev.state <;> simp_all [restful]

theorem settleDegraded_rest {s : State} (h : restful s.dev.state = true) : settleDegraded s = s := by
  unfold settleDegraded
  cases e : s.dev.state <;> simp_all [restful]

@[simp] theorem settleEvents_dev (s : State) : (settleEvents s).dev = s.dev := by
  unfold settleEvents
  refine foldl_dev _ (fun t i => ?_) _ _
  unfold dropEvents
  split
  · rfl
  · dsimp only
    split <;> rfl

theorem settleTrip_dev (s : State) : ∃ b, (settleTrip s).dev = { s.dev with tripped := b } := by
  unfold settleTrip
  split
  · exact ⟨_, rfl⟩
  · exact ⟨_, rfl⟩

/-- `settle` leaves the device alone outside STANDBY, RUN and DEGRADED, but for the end of a trip (R111). -/
theorem settle_dev_rest (s0 : State) {s : State} (h : restful s.dev.state = true) :
    ∃ b, (settle s0 s).dev = { s.dev with tripped := b } := by
  unfold settle
  rw [(reports_sendLines _ _).dev]
  have e : (settleTurrets (settleMembers s)).dev = s.dev := by simp
  rw [settleOpen_rest (by rw [e]; exact h), settleDegraded_rest (by rw [e]; exact h), settleEvents_dev]
  obtain ⟨b, hb⟩ := settleTrip_dev (settleTurrets (settleMembers s))
  exact ⟨b, by rw [hb, e]⟩

@[simp] theorem stateEvent_dev (x : DevState × DevState × Nat) (s : State) : (stateEvent x s).dev = s.dev :=
  emit_dev ..

theorem changeState_state (new : DevState) (cause : Nat) (s : State) : (changeState new cause s).dev.state = new := by
  unfold changeState
  dsimp only
  split
  · assumption
  · have d : ∀ (l : List (DevState × DevState × Nat)) (u : State), (l.foldl (fun t x => stateEvent x t) u).dev = u.dev :=
      fun l u => foldl_dev _ (fun t x => by simp) l u
    cases new <;> (try split) <;> simp_all [raise]

end Sys2Proof.Machine
end

