-- ==== Sys2Proof/Tests/Slice0.lean ====
section
/-! SUPPORT. Tests: ill-formed commands that the check refuses, figures of the spec, and for each statement of
Certificates/Slice0 states and operands that meet its hypotheses. -/

set_option Elab.async false

namespace Sys2Proof.Tests

open Sys2Proof.Machine

/-- A packet that came over the management port. -/
def pkt (ctx : Nat) (params : List Word) : Cmd :=
  { via := .mgmt, src := { v6 := false, addr := 0x0A000001, port := 5000 }, path := 0, auth := false, noReply := false
    fence := false, applyAt := false, counter := 0, tag := 7, ctx := ctx, tb := 0, frame := 0, capacity := 0, replyAddr := 0
    crc := 1, params := params }

/-- A packet of a device-wide opcode. -/
def dev (params : List Word) : Cmd := pkt 0xFFFF params

/-- A module in STANDBY with valid time and nothing configured. -/
def up : State :=
  { dev := { state := .standby, inProgress := none, owed := [] }
    pins := { perstLow := false, pcieReady := true, hostUp := true }
    bel := { clock := { sec := 1000, ns := 0, frac := 0 }, ptp := { servo := .locked } }
    tick := 1000000000 }

/-- The same with timebase 0 at 1080p and 60 frames a second. -/
def tb0 : State := { up with bel := { up.bel with tbs := [(0, some { rate := 8, format := 1, last := some 59940 })] } }

def passes (op : Op) (c : Cmd) (s : State) : Bool :=
  match judge opTable op c s with
  | .pass _ _ .now => decide ((s.dev.state ≠ .off ∧ s.dev.state ≠ .boot) ∧ c.fault = none)
  | _ => false

def waits (op : Op) (c : Cmd) (s : State) : Bool :=
  match judge opTable op c s with
  | .pass _ _ (.at' _ _) => decide ((s.dev.state ≠ .off ∧ s.dev.state ≠ .boot) ∧ c.fault = none)
  | _ => false

/-- A packet that the check passes meets the hypotheses of the statements about it. -/
theorem acceptedNow {op : Op} {c : Cmd} {s : State} (h : passes op c s = true) : ∃ f cl, AcceptedNow op c f cl s := by
  unfold passes at h
  split at h
  · next f cl e => exact ⟨f, cl, (of_decide_eq_true h : _ ∧ _).1, (of_decide_eq_true h : _ ∧ _).2, e⟩
  · cases h

theorem acceptedAt {op : Op} {c : Cmd} {s : State} (h : waits op c s = true) : ∃ f cl tb n, AcceptedAt op c f cl tb n s := by
  unfold waits at h
  split at h
  · next f cl tb n e => exact ⟨f, cl, tb, n, (of_decide_eq_true h : _ ∧ _).1, (of_decide_eq_true h : _ ∧ _).2, e⟩
  · cases h

/-! ## Ill-formed commands are refused -/

def badCmd : Cmd := { pkt 0 [] with via := .ring 8 }
def badEnd : Endpoint := { v6 := false, addr := 0x100000000, port := 0 }
def badGram : Datagram := { via := .mgmt, src := badEnd, port := 32, len := 100, frag := none, whole := true, bytes := [] }
def badFetch : Fetch := { desc := [], bytes := [] }
def badAnn : Announce :=
  { path := 0, lane := 8, domain := 0, gm := 0, prio1 := 0, clsQual := 0, accuracy := 0, variance := 0, prio2 := 0, steps := 0
    sender := 0, logAnn := 0, logSync := 0, utcOffset := 0, leap61 := false, leap59 := false, utcValid := false, tlv := none }
def badSync : SyncMeas := { path := 0, lane := 8, gm := 0, late := 0, carrier := 0 }
def badRx : RxFrame :=
  { port := 33, len := 64, macOk := true, vlan := none, cls := .media, v6 := false, dst := 0, src := 0, udp := 0, dscp := 0
    seq := 0, stamp := 0, marker := false, malformed := false, answer := false }
def badReq : MemReq :=
  { port := 34, addr := 0, write := none, len := 64, deadline := none, waited := 0, corrected := false, failed := false
    owner := 0, object := 0, part := 0 }
def badSeg : SegIn := { ctus := List.replicate 5 {} }
def badRow : RowIn := { above := [], lines := [], below := [], readMiss := [], reported := [0, 0, 0, 0, 0] }
def headZero : UnitHead :=
  { stamp := 0, bottom := false, irap := true, gdrStart := false, recovery := 0, poc := 0, refs := [], keepShort := []
    keepLong := [], kept := true }
/-- A stream of HEVC Main 10 at 1080p, within every limit of R285. -/
def infoOk : StreamInfo :=
  { profile := 1, tier := 0, level := 41, chroma := 0, depth := 10, tools := false, ctu := 64, sync := true, slices := true
    width := 1920, height := 1080, reorder := 0, dpb := 4, changed := false }
def endZero : UnitEnd := { truncated := false, info := infoOk, headers := true, sets := true, firstLost := [], parseErr := [] }
def rowZero : RowIn := { above := [], lines := [], below := [], readMiss := [], reported := [] }
def dmaZero : DmaIn := { host := [], badList := none, badData := [] }

/-- Each bound of a record's check, one past it. -/
theorem test_illformed_records :
    (pkt 0 []).wf && !badCmd.wf && !(pkt 65536 []).wf && !{ pkt 0 [] with tb := 65536 }.wf && !{ pkt 0 [] with frame := 2 ^ 64 }.wf &&
    !{ pkt 0 [] with counter := 2 ^ 64 }.wf && !badEnd.wf && !{ badEnd with addr := 0, port := 65536 }.wf &&
    !{ badEnd with v6 := true, addr := 2 ^ 128 }.wf && !badGram.wf && !{ badGram with src := (pkt 0 []).src, via := .store 0 }.wf &&
    !{ badGram with src := (pkt 0 []).src, port := 0 }.wf && !{ badGram with src := (pkt 0 []).src, via := .inband, port := 16 }.wf &&
    !badFetch.wf && !badAnn.wf &&
    !{ badAnn with lane := 0, path := 2 }.wf && !{ badAnn with lane := 0, domain := 256 }.wf &&
    !{ badAnn with lane := 0, gm := 2 ^ 64 }.wf && !{ badAnn with lane := 0, prio1 := 256 }.wf &&
    !{ badAnn with lane := 0, clsQual := 256 }.wf && !{ badAnn with lane := 0, accuracy := 256 }.wf &&
    !{ badAnn with lane := 0, variance := 65536 }.wf && !{ badAnn with lane := 0, prio2 := 256 }.wf &&
    !{ badAnn with lane := 0, steps := 65536 }.wf && !badSync.wf && !{ badSync with lane := 0, path := 2 }.wf &&
    !{ badSync with lane := 0, gm := 2 ^ 64 }.wf && !{ badSync with lane := 0, carrier := 8 }.wf && !badRx.wf &&
    !{ badRx with port := 0, udp := 65536 }.wf && !{ badRx with port := 0, datagram := some badGram }.wf &&
    !{ badRx with port := 0, dscp := 64 }.wf && !badReq.wf && !{ badReq with port := 0, addr := 2 ^ 38 }.wf &&
    !{ badReq with port := 0, owner := 12 }.wf && !badSeg.wf && !badRow.wf &&
    !{ badRow with reported := [], lines := List.replicate 65 [] }.wf := by decide +kernel

theorem test_illformed_commands_0 : ([
    .dramTrainingCommit 256 0 0, .dramTrainingCommit 0 2 0, .dramTrainingTimeout 256 0, .dramTrainingTimeout 0 2,
    .watchdogExpiry 256, .sensorSample 32 0 0, .sensorFault 32, .sensorSelfCheck 32 0, .gpioPulseEnd 16,
    .cmdRingDoorbell 8 0, .cmdRingEnable 8 0, .cmdRingDisable 8 0, .commandUdpPacket badGram,
    .reassemblyTimeout (pkt 0 []).src 65536, .commandExecute ⟨some badFetch, none⟩, .commandExecute ⟨none, some 256⟩, .pendingCommandEffect 16 0,
    .pendingCommandEffect 0 (2 ^ 64), .readIdentity badCmd, .registerEventSubscriber badCmd, .setAllowListEntry badCmd,
    .cancelPendingCommands badCmd, .assignGpioFunction badCmd, .readStartupLog badCmd, .selectManagementLinkMode badCmd,
    .readGpioLevels badCmd, .warmResetCommand badCmd, .enterSafe badCmd, .interruptAndAlertMasks badCmd,
    .configurePtp badCmd, .acceptRefusedOffset badCmd, .setTime badCmd, .configureTimebase badCmd, .removeTimebase badCmd,
    .configureEventUnit badCmd, .releaseEventUnit badCmd, .readTimeStatus badCmd, .ptpAnnounceReceived badAnn,
    .ptpSyncReceived badSync, .delayRespReceived 2 0 0 0, .delayRespReceived 0 8 0 0, .delayRespReceived 0 0 (2 ^ 64) 0,
    .frameBoundary 16, .slewComplete 16, .rasterEventFire 256, .taskDispatch 28, .segmentDone 16 {}, .segmentDone 0 badSeg, .bindUrgent 256 0,
    .decodeFrameSkip 256 0, .substitutePicture 256 0, .domeTaskDone 12 0 0, .frameClose 256 0 false, .stagingResume 16,
    .alfFitComplete 256 0, .spirePowerUp 16, .accessUnitMapped 256 headZero, .accessUnitComplete 256 0 false endZero,
    .decodeReleaseDeadline 256 0 false endZero, .decodeAbandon 256 0 false, .composedRowWritten 256 rowZero, .composedRowWritten 0 badRow,
    .directLineArrival 256 0 0] : List Instr).all (fun i => !i.wf) = true := by decide +kernel

theorem test_illformed_commands_1 : ([
    .directLineArrival 0 4 0, .lanternTileRepair 64 0, .frameReceived badRx, .videoFrameSkewTimeout 4096,
    .mergeGapTimeout 4096, .queuedPacketSend 33, .membershipQueryResponse 33 ⟨0, 0⟩, .membershipQueryResponse 0 ⟨0, 3⟩, .pllLock 33 [], .autonegComplete 33 false,
    .trainingCoeffRequest 32 0 false, .trainingCoeffRequest 0 3 false, .linkTrainingEnd 33 [] false false, .linkLock 32 { headers := [], markers := 0, pcs := 0 },
    .deskew 33 [], .portRetry 33, .signalReturn 32, .laneLoss 32 .signal, .laneRelockTimeout 33, .fecUncorrectable ⟨32, 0⟩,
    .fecWindowEnd ⟨2, [], []⟩, .sentinelTimeout 2 0, .healthSettled 2, .sdiTrsLock 16 0 0 ⟨0, 0⟩, .sdiTrsLoss ⟨16, 0⟩,
    .sdiFrameComplete 16 0 [] ⟨[], []⟩, .sdiOutputFrame 16, .memoryRequest badReq, .refreshDue 16 0 0, .refreshDue 0 8 0, .refreshDue 0 0 4,
    .pageIdleClose 16 0, .pageIdleClose 0 32, .powerDownEntry 16 false, .trainingPassStart 8 false, .trainingPassCommit 8,
    .trainFail 8 0 0, .trainFail 0 2 0, .setpointCheckComplete 256 0 0, .setpointCheckComplete 0 2 0, .patrolScrub badReq,
    .dmaTrigger 64 0, .dmaTrigger 0 4, .dmaTimerExpiry 64, .dmaRunEnd 64 dmaZero, .drainTimeout 4, .dmaDomainResume 1, .msixReenable [64], .tsqHiRead 2, .tbFrameCountRead 16,
    .counterReadClear (2 ^ 20), .counterReadClear 2, .w1cWrite (2 ^ 20) 0 0, .chkFeed8Write 16 0, .chkFeed16Write 16 0, .chkFeed32Write 16 0,
    .registerWrite (2 ^ 20) 0, .bar2Write (2 ^ 32) [], .bar2Read (2 ^ 32) 0, .selectLaneReference badCmd,
    .configureTurretLayout badCmd, .configureMediaLane badCmd, .setTransmitTaps badCmd, .setPolarity badCmd,
    .prbsGeneratorChecker badCmd, .loopback badCmd] : List Instr).all (fun i => !i.wf) = true := by decide +kernel

theorem test_illformed_commands_2 : ([
    .readLaneStatus badCmd, .portIdentity badCmd, .pathHealthParameters badCmd, .interlockParameters badCmd,
    .privilegedPolicer badCmd, .turretOverheadColourTable badCmd, .drrQueue badCmd, .sendHostPacket badCmd,
    .readTurretStatus badCmd, .configureIngressFlow badCmd, .deleteIngressFlow badCmd, .configureEgressFlow badCmd,
    .deleteEgressFlow badCmd, .bindAudioFlow badCmd, .readFlowStatus badCmd, .readMembershipTable badCmd,
    .openEncodeContext badCmd, .closeContext badCmd, .modifyEncodeContext badCmd, .requestIrap badCmd,
    .invalidateReferences badCmd, .rateParameters badCmd, .sendCeilingAndHrd badCmd, .configureStatmuxGroup badCmd,
    .joinGroup badCmd, .removeFromGroup badCmd, .readGroupStatus badCmd, .readRateControlStatus badCmd,
    .schedulingFields badCmd, .deviceSchedulingFields badCmd, .readSchedulingStatistics badCmd, .openDecodeContext badCmd,
    .flushAndResynchronise badCmd, .readDecodeStatus badCmd, .readContextStatus badCmd, .configureComposition badCmd,
    .deleteComposition badCmd, .configureVideoLayer badCmd, .configureGraphicLayer badCmd, .defineAsset badCmd,
    .writeAssetChunk badCmd, .commitAsset badCmd, .freeAsset badCmd, .setMasteringMetadata badCmd,
    .readCompositionStatus badCmd, .defineLanternImage badCmd, .writeLanternImageChunk badCmd, .commitLanternImage badCmd,
    .configureLanternItem badCmd, .readLanternStatus badCmd, .memoryPolicy badCmd, .portLatencyTarget badCmd,
    .rowDisturbanceSettings badCmd, .setPoint badCmd, .retrainChannel badCmd, .bar2Aperture badCmd, .readMemoryStatus badCmd,
    .configureDmaChannel badCmd, .startChannels badCmd, .channelControl badCmd] : List Instr).all (fun i => !i.wf) = true := by decide +kernel

theorem test_illformed_commands_3 : ([
    .releaseDmaChannel badCmd, .engineSettings badCmd, .openCheckUnit badCmd, .closeCheckUnit badCmd,
    .releaseCheckUnit badCmd, .readDmaAndCheckStatus badCmd, .operatingProfile badCmd, .thermalLevels badCmd,
    .powerCaps badCmd, .sensorOverride badCmd, .readTelemetry badCmd, .readDipLog badCmd, .readRegisters badCmd,
    .writeRegister badCmd, .counterSnapshot badCmd, .writeFirmwareChunk badCmd, .verifyInactiveSlot badCmd,
    .activateInactiveSlot badCmd, .confirmTrialImage badCmd, .installKey badCmd, .setAuthenticationPolicy badCmd,
    .writeStartupStore badCmd, .unlockDebugAccess badCmd, .cdrLockTimeout 33, .dmaDrainPause 64] : List Instr).all (fun i => !i.wf) = true := by decide +kernel

/-- Compositions 0 (4:2:0) and 1 (4:2:2) on timebase 0, and none other. -/
def comp0 : State :=
  { tb0 with cup := { tb0.cup with
    comps := [(0, some { f := [0, 0, 0, 64, 512, 512, 0], space := 0 }), (1, some { f := [0, 1, 0, 64, 512, 512, 0], space := 0 })] } }

/-- Fields of 0x0501 and 0x0540 as words, and as applied. -/
def encWords : List Word := [0, 0, 1, 0, 0, 41, 0, 2, 0, 1, 0, 60, 1, 0, 8, 0]
def decWords : List Word := [0, 0, 1, 0, 0, 41, 1, 0, 0, 0, 2, 2, 10000, 0]
def nums (l : List Word) : Fields := l.map fun w => (w.toNat : Int)

/-- Fields of 0x0401 for flow `i`: protected coded RTP to 239.0.0.1. -/
def codedFlow (i : Nat) : List Word :=
  [BitVec.ofNat 32 i, 1, 1, 0, 0, 0, 0xEF000001, 0, 0, 0, 0, 0, 0, 0, 5000, 0xEF000002, 0, 0, 0, 0, 0, 0, 0, 5000, 0, 0, 0, 0,
    1000000, 10000, 1000000, 10000, 0]

/-- An open encode context of composition 0, its pool unused. -/
def encCtx : Ctx :=
  { st := .active, f := nums encWords, rate := { f := [20000, 20000, 1000], h := [400, 1, 1, -12, 51, 0] }, pool := resize 8 [] }

/-- Context 0 encodes composition 0. -/
def enc0 : State := (takeUnits 0 encCtx (modCtx 0 (fun _ => encCtx) comp0)).getD comp0

/-- Ingress flow 1 stands beside it. -/
def flow1 : State := ingressState (nums (codedFlow 1)) enc0

/-- And context 1 decodes that flow. -/
def dec1 : State := modCtx 1 (fun _ => { st := .active, decode := true, f := nums decWords, pool := resize 6 [] }) flow1

/-- Turret A and B with a port on each lane, all up; media lane 0 an SDI input. -/
def net : State :=
  { flow1 with lanes := { flow1.lanes with
      layoutA := [4, 1, 1, 1, 2, 2], layoutB := [4, 1, 1, 1, 2, 2]
      ports := (List.range 16).map fun k => (k, { phase := .up })
      lanes := [(16, { media := [1, 4, 0, 0, 1, 0], pll := true, signal := true, cdr := true, trs := true, format := 1, rate := 8 })] } }

/-- Graphic asset 0, committed, and asset 1, not; Lantern image 0, committed, of one tile, and image 1, defined. -/
def art : State :=
  { comp0 with cup := { comp0.cup with
      assets := [(0, some { kind := 0, width := 16, height := 16, frames := 1, crc := 0, addr := 0, size := 2560, committed := true }),
        (1, some { kind := 0, width := 16, height := 16, frames := 1, crc := 0, addr := 4096, size := 2560 })]
      images := [(0, some { width := 16, height := 16, crc := 0, committed := true }), (1, some { width := 16, height := 16, crc := 0 })] } }

/-! ## Campanile at work -/

/-- Frame 59940 of context 0, bound to Spire 0. -/
def fr : FrameRec :=
  { ctx := 0, frame := 59940, bottom := false, decode := false, irap := true, released := true, bound := true, cf := nums encWords,
    ch := [400, 1, 1, -12, 51, 0], pics := [{ srcRows := 17 }], k := 1, members := [0], tS := 1000016880000, launch := some 1000032366667,
    budgets := [{ row := 0, qp := 0, lambda := 0, cap := 6555, aq := true, floor := false, q := 157992 }], hdr := 0
    fBits := 1333066, tBits := 1333066, reserve := 40800 }

/-- Its first segment. -/
def seg0 : Run :=
  { ctx := 0, frame := 59940, bottom := false, row := 0, seg := 0, level := 0, ns := 11654, ctus := 4, decode := false, floor := false }
def segTask : Task := { kind := .seg, ctx := 0, frame := 59940, bottom := false, row := 0, seg := 0 }
def spire0 : Spire := { powered := true, bound := some (0, 59940, false) }

/-- Context 0 of `enc0` with `fr`, 14.88 ms into frame 59940, and Campanile as given. -/
def work (camp : Camp) : State :=
  { enc0 with
    bel := { enc0.bel with clock := { sec := 1000, ns := 14880000, frac := 0 } }
    tick := 1009300000
    ctxs := [(0, { encCtx with
      pool := { mark := .short, gen := 1, holders := 1, frame := 59940 } :: List.replicate 7 {}
      kept := [0], first := false, lastIrap := 59940, picsSince := 1, lastOpen := some 59940, irapCount := 1 })]
    camp := camp }
def campOf (r : FrameRec) (ready : List Task) (x : Spire) (d : Dome) : Camp :=
  { frames := [r], ready := ready, spires := [(0, x), (1, { powered := true })], domes := if d = {} then [] else [(0, d)] }
/-! ## Packets whose fields follow the level's maxima (R246), which stay open

The maxima are not in the spec, so these cannot be evaluated whole: condition 3 of R23 holds for any maximum. -/

/-- All that `admitAfter` checks but conditions 3 and 5. -/
def fitsBut35 (s : State) : Bool :=
  decide ((openCtxs s).length ≤ 256) && fits (lumaK s) (admitBudget s) &&
  decide (bandwidth s ≤ (if s.mem.setpoint = 0 then 400000000000 else 320000000000) * 10010) &&
  (List.range 8).all (fun g => decide ((membersOf s g).length ≤ 32)) &&
  cupolaFits s

theorem admitAfter_none {s : State} (h : fitsBut35 s = true) (hs : spireCount s = 16)
    (hm : allocated s ≤ dramBytes s - 4 * 2 ^ 30)
    (hp : ((openCtxs s).map fun x => peakOf x.2).sum ≤ 24000000) : admitAfter s = none := by
  simp only [fitsBut35, Bool.and_eq_true, decide_eq_true_eq, List.all_eq_true] at h
  obtain ⟨⟨⟨⟨h1, h2⟩, h4⟩, h6⟩, h7⟩ := h
  have h6 : ((List.range 8).any fun g => decide (32 < (membersOf s g).length)) = false := by
    rw [List.any_eq_false]
    intro g hg
    simpa using h6 g hg
  have : admission s = none := by
    unfold admission
    refine (if_neg (by omega)).trans ?_
    refine (if_neg (by simp [h2])).trans ?_
    rw [hs]
    refine (if_neg (Nat.not_lt.mpr hp)).trans ?_
    refine (if_neg (by omega)).trans ?_
    refine (if_neg (by omega)).trans ?_
    exact if_neg (by simp [h6])
  simp [admitAfter, this, h7]

/-- The boundary that R74 or R75 gives a framed packet. -/
def boundaryIs (op : Op) (c : Cmd) (s : State) (tb : Nat) (n : Int) : Bool :=
  match effectOf op c s s with
  | some (.at' a b) => decide (a = tb ∧ b = n) && (timingFails op c (.at' a b) s).isNone
  | _ => false

theorem judge_at {op : Op} {c : Cmd} {s : State} {f : Fields} {cl : List Clamp} {tb : Nat} {n : Int}
    (hl : (c.params.length < (op.specs c s).length || !op.extra c (c.params.length - (op.specs c s).length)) = false)
    (hs : stateAllows op s = true) (hq : s.cmd.pend = []) (hn : op.now c s = true) (hc : op.ctxOk c s = true)
    (he : boundaryIs op c s tb n = true)
    (hf : checkFields 1 [] [] (op.specs c s) c.params = .ok f cl) (ho : op.once c f s = none) (hp : op.post c f s = none)
    (hb : (op.busy c f s || (op.background && decide (2 ≤ s.cmd.jobs.length))) = false) :
    judge opTable op c s = .pass f cl (.at' tb n) := by
  have he : effectOf op c s s = some (.at' tb n) ∧ timingFails op c (.at' tb n) s = none := by
    unfold boundaryIs at he
    split at he
    · next a b e =>
      simp only [Bool.and_eq_true, decide_eq_true_eq, Option.isNone_iff_eq_none] at he
      obtain ⟨⟨rfl, rfl⟩, h⟩ := he
      exact ⟨e, h⟩
    · cases he
  have hj : project opTable s.cmd.pend s = s := by rw [hq]; rfl
  have hk : project opTable (counted op c s (effectInstant s (.at' tb n))) s = s := by rw [counted, hq]; rfl
  have hst : (standing op.opcode (effectInstant s (.at' tb n)) s).length = 0 := by rw [standing, hq]; rfl
  simp only [judge, hl, hs, hj, hn, hc, he.1, he.2, judgeFields, hk, hf, ho, objectCheck, hp, hst, hb]
  rfl

/-- The peak that 0x0520 leaves is at most the one it asks for, or M. -/
theorem crossPeak_le (g : Geo) (f : Fields) (v : Int) : crossPeak g f v ≤ max v (minPeak g (fnat f 2)) := by
  unfold crossPeak
  omega
/-- What 0x0520 makes of 20 Mb/s and 1 s, whatever the level allows. -/
def rateFields : Fields :=
  let p := crossPeak (ctxGeo enc0 (ctxOf enc0 0)) (ctxOf enc0 0).f 20000
  [p, min p 20000, crossCpb (ctxGeo enc0 (ctxOf enc0 0)) (ctxOf enc0 0).f p.toNat 1000]

set_option maxRecDepth 20000 in
theorem rateFields_checked : ∃ cl, checkFields 1 [] [] (opRateParameters.specs (pkt 0 [20000, 20000, 1000]) enc0) [20000, 20000, 1000] =
    .ok rateFields cl := ⟨_, rfl⟩

theorem peak_le : (crossPeak (ctxGeo enc0 (ctxOf enc0 0)) (ctxOf enc0 0).f 20000).toNat ≤ 24000000 := by
  have h := crossPeak_le (ctxGeo enc0 (ctxOf enc0 0)) (ctxOf enc0 0).f 20000
  have m : minPeak (ctxGeo enc0 (ctxOf enc0 0)) (fnat (ctxOf enc0 0).f 2) = 5136 := by decide +kernel
  rw [m] at h
  omega

set_option maxRecDepth 20000 in
theorem rate_post : opRateParameters.post (pkt 0 [20000, 20000, 1000]) rateFields enc0 = none := by
  show admitAfter (setRate (pkt 0 [20000, 20000, 1000]) rateFields enc0) = none
  refine admitAfter_none (by decide +kernel) (by decide +kernel) (by decide +kernel) ?_
  exact (show (_ : Nat) + 0 ≤ 24000000 from peak_le)

set_option maxRecDepth 20000 in
theorem test_accepts_rate : ∃ f cl tb n, AcceptedAt opRateParameters (pkt 0 [20000, 20000, 1000]) f cl tb n enc0 := by
  obtain ⟨cl, h⟩ := rateFields_checked
  exact ⟨rateFields, cl, 0, 59941, by unfold Running; decide +kernel, rfl,
    judge_at (by decide +kernel) (by decide +kernel) (by decide +kernel) (by decide +kernel) (by decide +kernel) (by decide +kernel) h rfl rate_post (by decide +kernel)⟩

/-! ### The opens -/

/-- The state that 0x0501 is accepted into. -/
def opening0 : State := acceptOpen false (pkt 0 encWords) (nums encWords) comp0

theorem defaultPeak_le : (crossPeak (geoTb comp0 0) (nums encWords) (clip 1000 800000 20000)).toNat ≤ 24000000 := by
  have h := crossPeak_le (geoTb comp0 0) (nums encWords) (clip 1000 800000 20000)
  have m : minPeak (geoTb comp0 0) (fnat (nums encWords) 2) = 5136 := by decide +kernel
  have c : clip 1000 800000 20000 = 20000 := by decide +kernel
  rw [m, c] at h
  rw [c]
  omega

set_option maxRecDepth 20000 in
theorem openEncode_post : opOpenEncodeContext.post (pkt 0 encWords) (nums encWords) comp0 = none := by
  have h : opOpenEncodeContext.post (pkt 0 encWords) (nums encWords) comp0 = admitAfter opening0 := by rfl
  rw [h]
  refine admitAfter_none (by decide +kernel) (by decide +kernel) (by decide +kernel) ?_
  exact (show (_ : Nat) + 0 ≤ 24000000 from defaultPeak_le)

set_option maxRecDepth 20000 in
theorem test_accepts_open : ∃ f cl tb n, AcceptedAt opOpenEncodeContext (pkt 0 encWords) f cl tb n comp0 :=
  ⟨nums encWords, [], 0, 59941, by unfold Running; decide +kernel, rfl,
    judge_at (by decide +kernel) (by decide +kernel) (by decide +kernel) (by decide +kernel) (by decide +kernel) (by decide +kernel) (by rfl) rfl
      openEncode_post (by decide +kernel)⟩

/-- What 0x0540 makes of `decWords` with a peak input of `p`. -/
def decFields (p : Int) : Fields := [0, 0, 1, 0, 0, 41, 1, 0, 0, 0, 2, 2, p, 0]
def decPeak : Int := min 10000 ((levelMax (decFields 0)).1 : Nat)

def policer0 : TwoRate := { tc := 0, tp := 0, tick := 0 }
def coded1 : IFlow := { f := (nums (codedFlow 1)).tail, polA := policer0, polB := policer0 }
/-- Ingress flow 1 alone. -/
def flowAlone : State := { tb0 with flows := { tb0.flows with ingress := [(1, some coded1)] } }

def opening1 (p : Int) : State := acceptOpen true (pkt 1 decWords) (decFields p) flowAlone

set_option maxRecDepth 20000 in
theorem opening1_ctxs (p : Int) : openCtxs (opening1 p) = [(1, openingCtx true (decFields p) flowAlone)] := by rfl

/-- Its geometry does not follow the peak. -/
theorem opening1_geo (p : Int) : ctxGeo (opening1 p) (openingCtx true (decFields p) flowAlone) = geoOf 1 8 := by
  unfold ctxGeo
  rfl

set_option maxRecDepth 20000 in
theorem opening1_fits (p : Int) : fitsBut35 (opening1 p) = true := by
  have h1 : lumaK (opening1 p) = lumaK (opening1 0) := by rfl
  have h2 : admitBudget (opening1 p) = admitBudget (opening1 0) := by rfl
  have hr : ∀ q, ringSources (opening1 q) = [] := fun q => by rfl
  have h3 : bandwidth (opening1 p) = bandwidth (opening1 0) := by
    unfold bandwidth
    rw [opening1_ctxs, opening1_ctxs, hr, hr]
    simp only [List.map_cons, List.map_nil]
    rw [opening1_geo, opening1_geo]
    rfl
  have h4 : ∀ q g, membersOf (opening1 q) g = [] := by
    intro q g
    unfold membersOf
    rw [opening1_ctxs]
    rfl
  have h5 : cupolaFits (opening1 p) = cupolaFits (opening1 0) := by rfl
  have h6 : (opening1 p).mem.setpoint = (opening1 0).mem.setpoint := by rfl
  have h : fitsBut35 (opening1 0) = true := by decide +kernel
  simp only [fitsBut35, opening1_ctxs, h1, h2, h3, h4, h5, h6] at h ⊢
  exact h

/-- The pictures of a decode context's footprint (R284). -/
def pixels (g : Geo) (ch y b : Nat) : Nat :=
  (if g.fields then b + 2 * (y + 1) else b + y + 2) * (fRec g.w g.ph ch + fDesc g.w g.ph ch)

theorem footprint_decode (s : State) (c : Nat) (x : Ctx) (h : x.decode = true) : footprintMib s c x =
    ceilDiv (pixels (ctxGeo s x) (fnat x.f 4) (fnat x.f 11) (fnat x.f 12) +
      ceilDiv (fnat x.f 13 * 1000 * (fnat x.f 11 + 2) * (ctxGeo s x).den) (8 * (ctxGeo s x).num) + mib) mib := by
  unfold footprintMib
  rw [if_pos h]
  rfl

theorem allocated_one {s : State} {c i : Nat} {x : Ctx} {f : IFlow} (hx : openCtxs s = [(c, x)]) (hc : s.cup.comps = [])
    (hr : ringSources s = []) (hi : s.flows.ingress = [(i, some f)]) (ha : s.cup.assets = []) :
    allocated s = footprintMib s c x * mib + audioRing s f := by
  unfold allocated
  rw [hx, hc, hr, hi, ha]
  simp

theorem opening1_footprint (p : Int) : footprintMib (opening1 p) 1 (openingCtx true (decFields p) flowAlone) =
      ceilDiv (23574240 + ceilDiv (p.toNat * 1000 * (2 + 2) * 1001) (8 * 60000) + mib) mib := by
  have hd : (geoOf 1 8).den = 1001 := by decide +kernel
  have hn : (geoOf 1 8).num = 60000 := by decide +kernel
  have hp : pixels (geoOf 1 8) 0 2 2 = 23574240 := by decide +kernel
  have hf : (openingCtx true (decFields p) flowAlone).f = decFields p := rfl
  rw [footprint_decode _ _ _ rfl, opening1_geo, hd, hn, hf, ← hp]
  simp [decFields, fnat, fld]

theorem mem_bound (a b : Nat) (hb : b ≤ 10000) (h : a = ceilDiv (23574240 + ceilDiv (b * 1000 * (2 + 2) * 1001) (8 * 60000) + mib) mib) :
    a * mib ≤ 2 ^ 37 := by
  subst h
  unfold ceilDiv mib
  omega

theorem opening1_allocated (p : Int) (h : p ≤ 10000) : allocated (opening1 p) ≤ 2 ^ 37 := by
  rw [allocated_one (opening1_ctxs p) rfl (by rfl) (i := 1) (f := coded1) (by rfl) rfl,
    show audioRing (opening1 p) coded1 = 0 from if_neg (by decide +kernel), Nat.add_zero]
  exact mem_bound _ _ (by omega) (opening1_footprint p)

set_option maxRecDepth 20000 in
theorem openDecode_post (p : Int) (h0 : p ≤ 10000) : opOpenDecodeContext.post (pkt 1 decWords) (decFields p) flowAlone = none := by
  have h : opOpenDecodeContext.post (pkt 1 decWords) (decFields p) flowAlone = admitAfter (opening1 p) := by rfl
  have d : dramBytes (opening1 p) = dramBytes (opening1 0) := by rfl
  have e : 2 ^ 37 ≤ dramBytes (opening1 0) - 4 * 2 ^ 30 := by decide +kernel
  rw [h]
  refine admitAfter_none (opening1_fits p) (by rfl) ?_ ?_
  · rw [d]
    exact (opening1_allocated p h0).trans e
  · rw [opening1_ctxs]
    simp [peakOf, openingCtx, decFields, fnat, fld]
    omega

set_option maxRecDepth 20000 in
theorem decFields_checked : ∃ cl, checkFields 1 [] [] (opOpenDecodeContext.specs (pkt 1 decWords) flowAlone) decWords =
    .ok (decFields decPeak) cl := ⟨_, rfl⟩

set_option maxRecDepth 20000 in
theorem test_accepts_open_decode : ∃ f cl tb n, AcceptedAt opOpenDecodeContext (pkt 1 decWords) f cl tb n flowAlone := by
  obtain ⟨cl, h⟩ := decFields_checked
  exact ⟨decFields decPeak, cl, 0, 59941, by unfold Running; decide +kernel, rfl,
    judge_at (by decide +kernel) (by decide +kernel) (by decide +kernel) (by decide +kernel) (by decide +kernel) (by decide +kernel) h rfl
      (openDecode_post _ (by unfold decPeak; omega)) (by decide +kernel)⟩

/-! ## Packets that the check passes -/

def zeros (n : Nat) : List Word := List.replicate n 0

/-- A pending assignment of GPIO 3, accepted for a boundary to come. -/
def pendGpio : Pend :=
  { id := 0, opcode := 0x0105, cmd := dev [3, 1, 1, 0, 0], f := [3, 1, 1, 0, 0], tb := 0, frame := 59999
    at' := boundaryAt tb0 0 59999, relied := [] }
def pended : State := { tb0 with cmd := { tb0.cmd with pend := [pendGpio], nextId := 1 } }

def eflowWords : List Word :=
  [0, 1, 1, 1, 0, 0, 0, 0xEF000003, 0, 0, 0, 5000, 0, 0, 0, 0, 5000, 5000, 96, 34, 64, 1400, 0, 0, 0, 0]
def audioWords : List Word :=
  [3, 1, 3, 1, 0, 0, 0xEF000005, 0, 0, 0, 0, 0, 0, 0, 5004] ++ zeros 9 ++ [2, 48000, 0, 0, 1000000, 10000, 1000000, 10000, 0]
def eflow0 : State := egressState (nums eflowWords) net
def audio3 : State := ingressState (nums audioWords) net

/-- Group 0 on timebase 0, without and with context 0. -/
def group0 : State := { enc0 with groups := [(0, some { f := [0, 100000, 100, 0] })] }
def member0 : State := modCtx 0 (fun x => { x with member := some { group := 0, weight := 1, min := 10000, max := 20000 } }) group0

/-- DMA channel 0 in a state, and check unit 0 open for the host. -/
def chan (st : ChanState) : State :=
  { up with dma := { up.dma with
      chans := [(0, { holder := .host, f := [1, 0, 10000, 0, 0, 0, 2, 1, 0, 0, 2, 0, 1, 0xFF, 0, 0, 0xFF], state := st })]
      units := [(0, { holder := .host, opened := true, poly := 1, crc := 0xFFFFFFFF })] } }

theorem test_accepts_system :
    passes opReadIdentity (dev []) up ∧
    passes opRegisterEventSubscriber (dev ([0, 2, 0, 0x0A000009, 0, 0, 0, 6000, 0, 0, 0] ++ zeros 8)) up ∧
    passes opSetAllowListEntry (dev [15, 1, 0, 0x0A000000, 0, 0, 0, 32]) up ∧
    passes opCancelPendingCommands (dev [7, 8]) pended ∧ passes opAssignGpioFunction (dev [15, 2, 1, 100, 0]) up ∧
    passes opReadStartupLog (dev [0]) up ∧ passes opSelectManagementLinkMode (dev [1]) up ∧ passes opReadGpioLevels (dev []) up ∧
    passes opWarmResetCommand (dev []) up ∧ passes opEnterSafe (dev []) up ∧
    passes opInterruptAndAlertMasks (dev [14, 0xFF, 0xFF]) up := by decide +kernel

theorem test_accepts_keep :
    passes opWriteFirmwareChunk (dev [0, 4, 0x12345678]) up ∧
    passes opWriteFirmwareChunk { dev [33554428, 4, 1] with via := .store 0 } up ∧ passes opVerifyInactiveSlot (dev []) up ∧
    passes opVerifyInactiveSlot { dev [] with via := .store 0 } up ∧
    passes opActivateInactiveSlot (dev []) { up with keep := { up.keep with slotB := { verified := true } } } ∧
    passes opConfirmTrialImage (dev []) { up with dev := { up.dev with trial := true } } ∧
    passes opInstallKey (dev [2, 1, 2, 3, 4]) up ∧ passes opSetAuthenticationPolicy (dev [0]) up ∧
    passes opSetAuthenticationPolicy (dev [7]) { up with keep := { up.keep with general := { key := some [1], counter := 0 } } } ∧
    passes opWriteStartupStore (dev []) up ∧ passes opUnlockDebugAccess (dev []) up := by decide +kernel

theorem test_accepts_time :
    passes opConfigurePtp (dev [0, 127, 0, 0, 3, 1000000, 0, 0, 0, 0]) up ∧
    passes opAcceptRefusedOffset (dev [5000, 0]) { up with bel := { up.bel with ptp := { servo := .holdover, refusal := some { bound := 1000, row12 := false, gm := 1, offs := List.replicate 8 5000, reported := some 5000 } } } } ∧
    passes opSetTime (dev [5, 0, 0]) { up with bel := { up.bel with ptp := { servo := .unset } } } ∧ passes opSetTime (dev [5, 0, 0]) up ∧
    passes opConfigureTimebase (dev [1, 8, 1]) up ∧ passes opConfigureTimebase (dev [0, 8, 1]) tb0 ∧
    passes opRemoveTimebase (dev [0]) tb0 ∧ passes opConfigureEventUnit (dev [255, 0, 0, 0, 0, 1, 0, 0, 0, 7, 12]) tb0 ∧
    passes opReleaseEventUnit (dev [5]) { tb0 with bel := { tb0.bel with units := [(5, { holder := .host })] } } ∧
    passes opReadTimeStatus (dev []) up := by decide +kernel

theorem test_accepts_lanes :
    passes opSelectLaneReference (dev [1]) up ∧ passes opConfigureTurretLayout (dev [0, 4, 1, 1, 1, 2, 2, 0]) up ∧
    passes opConfigureTurretLayout (dev [0, 0, 1, 1, 1, 2, 2, 0]) up ∧ passes opConfigureMediaLane (dev [0, 1, 4, 0, 0, 1, 0, 0].dropLast) up ∧
    passes opConfigureMediaLane (dev [0, 0, 4, 0, 0, 1, 0]) up ∧ passes opSetTransmitTaps (dev [31, 0xFFFFFFF4, 56, 0xFFFFFFEC, 810]) up ∧
    passes opSetPolarity (dev [3, 1, 0]) up ∧ passes opPrbsGeneratorChecker (dev [3, 1, 2, 0]) up ∧ passes opLoopback (dev [3, 1, 0]) up ∧
    passes opReadLaneStatus (dev [31]) up := by decide +kernel

theorem test_accepts_turret :
    passes opPortIdentity (dev [0, 0x200, 5, 0x0A000001, 24, 0, 0, 0, 0, 0, 64, 0, 0, 0, 0, 0, 0]) net ∧
    passes opPathHealthParameters (dev [1, 10, 1000, 1, 0xFFFF, 0xFFFF, 0xFFFF, 0xFFFF, 0xFFFF, 0xFFFF, 0xFFFF]) up ∧
    passes opInterlockParameters (dev [0, 600, 0]) up ∧ passes opPrivilegedPolicer (dev [15, 64, 1600]) up ∧
    passes opTurretOverheadColourTable (dev [0, 63, 0, 0, 0, 0]) up ∧ passes opDrrQueue (dev [0, 1023, 64, 1]) net ∧
    passes opSendHostPacket (dev ([0, 0, 16, 0, 0, 0, 9, 60] ++ zeros 15))
      { net with flows := { net.flows with drr := [(16, { enable := true })] } } ∧
    passes opSendHostPacket (dev ([1, 0, 16, 1, 100, 0, 9, 60] ++ zeros 15)) net ∧
    passes opReadTurretStatus (dev []) up ∧ passes opReadMembershipTable (dev [1]) up ∧ passes opReadFlowStatus (dev [1, 0]) net ∧
    passes opReadFlowStatus (dev [0, 1]) eflow0 := by decide +kernel

theorem test_accepts_contexts :
    passes opReadGroupStatus (dev [0]) group0 ∧ passes opReadRateControlStatus (pkt 0 []) enc0 ∧
    passes opReadSchedulingStatistics (pkt 0 []) enc0 ∧ passes opReadDecodeStatus (pkt 1 []) dec1 ∧
    passes opReadDecodeStatus (pkt 5 []) up ∧ passes opReadContextStatus (pkt 0 []) enc0 ∧ passes opReadContextStatus (pkt 255 []) up := by
  decide +kernel

theorem test_accepts_cupola :
    passes opDefineAsset (dev [1023, 0, 16, 16, 1, 0]) art ∧ passes opWriteAssetChunk (dev [1, 2556, 4, 7]) art ∧
    passes opCommitAsset (dev [1]) art ∧ passes opFreeAsset (dev [1]) art ∧ passes opReadCompositionStatus (pkt 0 []) art ∧
    passes opReadCompositionStatus (pkt 9 []) art ∧ passes opDefineLanternImage (dev [63, 16, 16, 0]) art ∧
    passes opWriteLanternImageChunk (dev [1, 1276, 4, 7]) art ∧ passes opCommitLanternImage (dev [1]) art ∧
    passes opReadLanternStatus (dev []) art := by decide +kernel

theorem test_accepts_memory :
    passes opMemoryPolicy (dev [0, 0, 168, 1]) up ∧ passes opPortLatencyTarget (dev [33, 100]) up ∧
    passes opRowDisturbanceSettings (dev [500, 100]) up ∧ passes opSetPoint (dev [2]) up ∧
    passes opSetPoint (dev [0]) { up with mem := { up.mem with ladderHold := true } } ∧
    passes opSetPoint (dev [2]) { up with mem := { up.mem with engine := .gather } } ∧ passes opRetrainChannel (dev [7]) up ∧
    passes opRetrainChannel { dev [0] with via := .store 0 } up ∧ passes opBar2Aperture (dev [252]) up ∧
    passes opReadMemoryStatus (dev []) up := by decide +kernel

theorem test_accepts_dma :
    passes opConfigureDmaChannel (dev [63, 1, 0, 10000, 0, 0, 0, 2, 1, 0, 0, 0, 0, 1, 0xFF, 0, 0, 0xFF]) up ∧
    passes opStartChannels (dev [1, 0]) (chan .waiting) ∧ passes opChannelControl (dev [0, 0]) (chan .running) ∧
    passes opChannelControl (dev [0, 1]) (chan .paused) ∧ passes opChannelControl (dev [0, 2]) (chan .waiting) ∧
    passes opReleaseDmaChannel (dev [0]) (chan .idle) ∧ passes opEngineSettings (dev [10]) up ∧ passes opOpenCheckUnit (dev [15, 4]) up ∧
    passes opCloseCheckUnit (dev [0, 1, 0]) (chan .idle) ∧ passes opReleaseCheckUnit (dev [0]) (chan .idle) ∧
    passes opReadDmaAndCheckStatus (dev []) up := by decide +kernel

theorem test_accepts_watch :
    passes opOperatingProfile (dev [2]) up ∧ passes opThermalLevels (dev [110, 95]) up ∧ passes opPowerCaps (dev [285, 285]) up ∧
    passes opSensorOverride (dev [31, 1]) up ∧ passes opReadTelemetry (dev []) up ∧ passes opReadDipLog (dev [63]) up ∧
    passes opReadRegisters (dev [0, 1]) up ∧ passes opReadRegisters (dev [0xFFFFFC, 256]) up ∧ passes opWriteRegister (dev [0x20004, 0]) up ∧
    passes opCounterSnapshot (dev [14]) up := by decide +kernel

/-- `p` takes effect: its boundary has come, it is the first there, and the checks it passed still pass. -/
def dueAt (op : Op) (p : Pend) (s : State) : Bool :=
  ((tbOf s p.tb).any fun t => decide ((p.frame : Int) ≤ countNow s t)) &&
  decide (s.cmd.pend.find? (fun q => q.tb = p.tb ∧ q.frame = p.frame) = some p ∧ p.opcode = op.opcode) && !closeFirst p s && !afterClose p s &&
  op.ctxOk p.cmd s && (op.post p.cmd p.f s).isNone && stateAllows op s

/-- A command pending for the current frame of timebase 0, on the state that its acceptance leaves. -/
def pendNow (op : Op) (c : Cmd) (f : Fields) (s : State) : Pend :=
  { id := 0, opcode := op.opcode, cmd := c, f := f, tb := 0, frame := 59940, at' := boundaryAt s 0 59940, relied := [] }
def pendState (op : Op) (c : Cmd) (f : Fields) (s : State) : State :=
  { op.accept c f s with cmd := { (op.accept c f s).cmd with pend := [pendNow op c f s] } }

/-- A framed packet waits for the next boundary, and the checks it passed still pass at a boundary that has come. -/
def dueNow (op : Op) (c : Cmd) (s : State) : Bool :=
  waits op c s && dueAt op (pendNow op c (nums c.params) s) (pendState op c (nums c.params) s)

theorem takesEffect {op : Op} {p : Pend} {s : State} (h : dueAt op p s = true) : TakesEffect op p.tb p.frame p s := by
  simp only [dueAt, Bool.and_eq_true, Bool.not_eq_true', decide_eq_true_eq, Option.isNone_iff_eq_none] at h
  obtain ⟨⟨⟨⟨⟨⟨h1, h2, h3⟩, h4⟩, h5⟩, h6⟩, h7⟩, h8⟩ := h
  refine ⟨?_, h2, h3, h4, h5, h6, h7, h8⟩
  cases ht : tbOf s p.tb with
  | none => rw [ht] at h1; cases h1
  | some t => rw [ht] at h1; exact ⟨t, rfl, by rwa [Option.any_some, decide_eq_true_eq] at h1⟩

/-- What `dueNow` shows meets the hypotheses of both clauses of a framed opcode. -/
theorem framedMet {op : Op} {c : Cmd} {s : State} (h : dueNow op c s = true) :
    (∃ f cl tb n, AcceptedAt op c f cl tb n s) ∧ ∃ tb frame p t, TakesEffect op tb frame p t := by
  simp only [dueNow, Bool.and_eq_true] at h
  exact ⟨acceptedAt h.1, _, _, _, _, takesEffect h.2⟩

theorem test_framed_contexts :
    dueNow opCloseContext (pkt 0 []) enc0 ∧
    dueNow opModifyEncodeContext (pkt 0 encWords) enc0 ∧ dueNow opRequestIrap (pkt 0 []) enc0 ∧
    dueNow opInvalidateReferences (pkt 0 [1, 0]) enc0 ∧ dueNow opSchedulingFields (pkt 0 [15, 2000]) enc0 ∧
    dueNow opDeviceSchedulingFields (dev [500, 16]) tb0 ∧ dueNow opSendCeilingAndHrd (pkt 0 [200, 0, 0, 10, 40, 0]) enc0 ∧ dueNow opFlushAndResynchronise (pkt 1 []) dec1 := by decide +kernel

theorem test_framed_groups :
    dueNow opConfigureStatmuxGroup (dev [7, 0, 100000, 100, 0]) enc0 ∧ dueNow opConfigureStatmuxGroup (dev [0, 0, 0, 100, 0]) group0 ∧
    dueNow opJoinGroup (pkt 0 [0, 1, 10000, 20000]) group0 ∧ dueNow opRemoveFromGroup (pkt 0 []) member0 := by decide +kernel

theorem test_framed_cupola :
    dueNow opConfigureComposition (pkt 2 [0, 1, 0, 64, 512, 512, 0]) comp0 ∧ dueNow opDeleteComposition (pkt 1 []) comp0 ∧
    dueNow opConfigureVideoLayer (pkt 0 [3, 1, 0x1000, 0, 0, 0, 1920, 1080, 0, 0, 1920, 1080, 1023, 0, 0, 0, 0, 0, 0]) net ∧
    dueNow opConfigureGraphicLayer (pkt 0 [3, 1, 0, 0, 0, 1023, 0, 1, 0]) art ∧ dueNow opSetMasteringMetadata (pkt 0 (zeros 12)) comp0 ∧
    dueNow opConfigureLanternItem (pkt 0 [3, 1, 0, 16, 16, 0, 0, 0, 1023, 1]) art := by decide +kernel

theorem test_framed_flows :
    dueNow opConfigureIngressFlow (dev (((codedFlow 2).set 14 5002).set 23 5002)) net ∧ dueNow opDeleteIngressFlow (dev [1]) net ∧
    dueNow opConfigureEgressFlow (dev eflowWords) net ∧ dueNow opDeleteEgressFlow (dev [0]) eflow0 ∧
    dueNow opBindAudioFlow (dev [3, 0, 0, 0]) audio3 ∧ dueNow opBindAudioFlow (dev [3, 0xFFFF, 0, 0]) audio3 ∧
    dueNow opAssignGpioFunction (dev [3, 1, 1, 0, 0]) tb0 ∧ dueNow opOperatingProfile (dev [1]) tb0 := by decide +kernel

/-- The opens and the rate parameters at their boundary, with the fields they ask for. -/
theorem test_framed_levels :
    dueAt opOpenEncodeContext (pendNow opOpenEncodeContext (pkt 0 encWords) (nums encWords) comp0)
      { comp0 with
        ctxs := [(0, { encCtx with st := .opening })]
        cmd := { comp0.cmd with pend := [pendNow opOpenEncodeContext (pkt 0 encWords) (nums encWords) comp0] } } ∧
    dueAt opOpenDecodeContext (pendNow opOpenDecodeContext (pkt 1 decWords) (nums decWords) flowAlone)
      (pendState opOpenDecodeContext (pkt 1 decWords) (nums decWords) flowAlone) ∧
    dueAt opRateParameters (pendNow opRateParameters (pkt 0 [20000, 20000, 1000]) [20000, 20000, 1000] enc0)
      (pendState opRateParameters (pkt 0 [20000, 20000, 1000]) [20000, 20000, 1000] enc0) := by decide +kernel

/-- The same module with no timebase: framed packets take effect at once. -/
def bare (s : State) : State := { s with bel := { s.bel with tbs := [] } }

theorem test_accepts_bare :
    passes opCloseContext (pkt 0 []) (bare enc0) ∧ passes opRequestIrap (pkt 0 []) (bare enc0) ∧
    passes opInvalidateReferences (pkt 0 [1, 0]) (bare enc0) ∧ passes opSchedulingFields (pkt 0 [15, 2000]) (bare enc0) ∧
    passes opDeviceSchedulingFields (dev [500, 16]) (bare tb0) ∧
    passes opSendCeilingAndHrd (pkt 0 [200, 0, 0, 10, 40, 0]) (bare enc0) ∧ passes opFlushAndResynchronise (pkt 1 []) (bare dec1) ∧
    passes opJoinGroup (pkt 0 [0, 1, 10000, 20000]) (bare group0) ∧ passes opRemoveFromGroup (pkt 0 []) (bare member0) ∧
    passes opDeleteComposition (pkt 1 []) (bare comp0) ∧
    passes opConfigureVideoLayer (pkt 0 [3, 1, 0x1000, 0, 0, 0, 1920, 1080, 0, 0, 1920, 1080, 1023, 0, 0, 0, 0, 0, 0]) (bare net) ∧
    passes opConfigureGraphicLayer (pkt 0 [3, 1, 0, 0, 0, 1023, 0, 1, 0]) (bare art) ∧
    passes opSetMasteringMetadata (pkt 0 (zeros 12)) (bare comp0) ∧
    passes opConfigureLanternItem (pkt 0 [3, 1, 0, 16, 16, 0, 0, 0, 1023, 1]) (bare art) ∧
    passes opConfigureIngressFlow (dev (((codedFlow 2).set 14 5002).set 23 5002)) (bare net) ∧
    passes opDeleteIngressFlow (dev [1]) (bare net) ∧ passes opConfigureEgressFlow (dev eflowWords) (bare net) ∧
    passes opDeleteEgressFlow (dev [0]) (bare eflow0) ∧ passes opBindAudioFlow (dev [3, 0, 0, 0]) (bare audio3) ∧
    passes opAssignGpioFunction (dev [3, 1, 1, 0, 0]) (bare tb0) ∧ passes opOperatingProfile (dev [1]) (bare tb0) := by decide +kernel

/-! ## Hypotheses that states and operands meet -/
set_option synthInstance.maxHeartbeats 400000

/-- What the check makes of an accepted packet's fields. -/
def fieldsOf (op : Op) (c : Cmd) (s : State) : Fields :=
  match judge opTable op c s with
  | .pass f _ _ => f
  | _ => []

def clampsOf (op : Op) (c : Cmd) (s : State) : List Clamp :=
  match judge opTable op c s with
  | .pass _ cl _ => cl
  | _ => []

/-- Every keyed table of a state is canonical. -/
def tablesHold (s : State) : Bool := @decide (tablesOk s) (by unfold tablesOk; exact inferInstance)

def running (s : State) : Bool := @decide (Running s) (by unfold Running; exact inferInstance)

/-- The state of an outcome that is a next state. -/
def next? (o : Ran) : Option State :=
  match o with
  | .next t => some t
  | _ => none

namespace ConverterStarts

def cold : State := { up with supply := { converter := false, ovLock := true, hotStop := true, pwrGood := false, aux := false } }

theorem test_met_ConverterStarts :
    (let s : State := { cold with supply := { cold.supply with retry := some (cold.tick - 625000000) } }
     let x : Start := { vin := 6599, gap := 100, lowVin := 6400, lowTemp := 1600, railsOk := false }
     decide (s.supply.pwrGood = false ∧ 3750 ≤ x.vin ∧ x.vin < 6600 ∧ x.gap ≤ 100 ∧ (s.supply.ovLock = true → x.lowVin ≤ 6400) ∧
       (s.supply.hotStop = true → x.lowTemp ≤ 1600) ∧ s.supply.retry = some (s.tick - 625000000) ∧ 625000000 ≤ s.tick)) &&
    (let s : State := { cold with supply := { cold.supply with ovLock := false } }
     let x : Start := { vin := 3750, gap := 0, lowVin := 6600, lowTemp := 1600, railsOk := true }
     decide (s.supply.pwrGood = false ∧ 3750 ≤ x.vin ∧ x.vin < 6600 ∧ x.gap ≤ 100 ∧ (s.supply.ovLock = true → x.lowVin ≤ 6400) ∧
       (s.supply.hotStop = true → x.lowTemp ≤ 1600))) &&
    (let s : State := cold
     let x : Start := { vin := 3749, gap := 0, lowVin := 0, lowTemp := 0, railsOk := true }
     decide (s.supply.pwrGood = true ∨ x.vin < 3750 ∨ 6600 ≤ x.vin ∨ 100 < x.gap)) &&
    (let s : State := cold
     let x : Start := { vin := 6600, gap := 101, lowVin := 6401, lowTemp := 1601, railsOk := true }
     decide (6600 ≤ x.vin ∧ 100 < x.gap ∧ (s.supply.ovLock = true ∧ 6400 < x.lowVin) ∧ (s.supply.hotStop = true ∧ 1600 < x.lowTemp))) &&
    decide (cold.supply.retry = none) &&
    (let s : State := { cold with supply := { cold.supply with retry := some (cold.tick - 624999999) } }
     decide (s.supply.retry = some (s.tick - 624999999) ∧ s.tick < s.tick - 624999999 + 625000000)) := by
  decide +kernel

end ConverterStarts

namespace SupplyResets

theorem test_met_SupplyResets :
    decide (dec1.supply.pwrGood = true ∧ dec1.supply.converter = true ∧ (3300 : Nat) ≤ 3300 ∧ (3000 : Nat) ≤ 3000 ∧ (6600 : Nat) ≤ 6600) &&
    (let s : State := { up with supply := { pwrGood := false, converter := true } }
     decide (s.supply.pwrGood = false ∧ s.supply.converter = true)) := by
  decide +kernel

end SupplyResets

namespace ResetPins

theorem test_met_ResetPins :
    (let s : State := { dec1 with cmd := { dec1.cmd with rings := [(3, { enable := true })], subs := [(1, some { f := [1,0,0,0,0,0,0,0] }), (2, some { f := [2,0,0,0,0,0,0,0] })] }, msix := true, dev := { dec1.dev with debug := true } }
     decide (s.supply.pwrGood = true ∧ s.pins.held = false ∧ s.dev.inProgress = none)) &&
    (let s : State := { dec1 with dev := { dec1.dev with inProgress := some .external } }
     decide (s.supply.pwrGood = true ∧ s.pins.held = false ∧ s.dev.inProgress = some .external)) &&
    (let s : State := { up with pins := { up.pins with held := true }, dev := { up.dev with state := .off } }
     decide (s.supply.pwrGood = true ∧ s.pins.held = true)) &&
    (let s : State := { up with pins := { up.pins with perstLow := true } }
     decide (s.supply.pwrGood = true ∧ s.pins.perstLow = true ∧ s.supply.goodTick + 62500000 ≤ s.tick)) &&
    (let s : State := { up with supply := { up.supply with goodTick := up.tick - 62499999 } }
     decide (s.supply.pwrGood = true ∧ s.tick < s.supply.goodTick + 62500000)) &&
    (let s : State := { dec1 with cmd := { dec1.cmd with rings := [(3, { enable := true })], subs := [(1, some { f := [1,0,0,0,0,0,0,0] }), (2, some { f := [2,0,0,0,0,0,0,0] })] }, msix := true, dev := { dec1.dev with debug := true } }
     decide (s.supply.pwrGood = true)) := by
  decide +kernel

end ResetPins

namespace TimingPins

theorem test_met_TimingPins :
    (let s : State := { tb0 with pins := { tb0.pins with ppsIn := some 1000, ppsPresent := true }, tick := 1000 + 312499999 }
     let k := 1000
     decide (s.supply.pwrGood = true ∧ s.pins.held = false ∧ s.dev.state ≠ .off ∧ s.pins.ppsIn = some k ∧ s.tick < k + 312500000)) &&
    (let s : State := { tb0 with pins := { tb0.pins with ppsIn := some 1000 }, tick := 1000 + 312500000 }
     decide (s.supply.pwrGood = true ∧ s.pins.held = false ∧ s.dev.state ≠ .off ∧ (∀ k, s.pins.ppsIn = some k → k + 312500000 ≤ s.tick))) &&
    (let s : State := { tb0 with pins := { tb0.pins with ppsIn := some 1000, ppsPresent := true }, tick := 1000 + 937500000 }
     let k := 1000
     decide (s.supply.pwrGood = true ∧ s.pins.held = false ∧ s.dev.state ≠ .off ∧ s.pins.ppsIn = some k ∧ k + 937500000 ≤ s.tick)) &&
    (let s : State := { tb0 with pins := { tb0.pins with ppsIn := some 1000, ppsPresent := true }, tick := 1000 + 312499999 }
     let t := { rate := 8, format := 1, last := some 59940 }
     decide (s.supply.pwrGood = true ∧ s.pins.held = false ∧ s.dev.state ≠ .off ∧ tbOf s 0 = some t)) &&
    (let s : State := { tb0 with bel := { tb0.bel with clock := { sec := 1000, ns := 0, frac := 0xFFFFFFFF } }, pins := { tb0.pins with ppsLast := some 999 } }
     decide (s.supply.pwrGood = true ∧ s.pins.held = false ∧ s.dev.state ≠ .off ∧ validTime s = true ∧ s.bel.stepped = false ∧
       s.bel.clock.ns.toNat * 4294967296 + s.bel.clock.frac.toNat < s.bel.incr.toNat ∧ (∀ n, s.pins.ppsLast = some n → n < s.bel.clock.sec.toNat))) &&
    (let s : State := { tb0 with bel := { tb0.bel with stepped := true } }
     decide (s.bel.stepped = true)) &&
    (let s : State := { tb0 with pins := { tb0.pins with ppsHigh := some 1000 }, tick := 1000 + 62500000 }
     let k := 1000
     decide (s.pins.ppsHigh = some k ∧ k + 62500000 ≤ s.tick)) &&
    (let s : State := { tb0 with bel := { tb0.bel with ptp := { tb0.bel.ptp with servo := .holdover, lockSegs := List.replicate 64 (625000000, 0x019999999A, true) } } }
     let mv : Nat := 400
     let ppb : Int := -5000
     let here : Bool := decide (400 ≤ mv ∧ ppb.natAbs ≤ 5000)
     let p := s.bel.ptp
     let follows : Prop := (p.servo = .holdover ∨ p.servo = .requalify) ∧ here = true ∧ fld p.f 9 = 1 ∧ freqAgreed p = true
     decide (s.supply.pwrGood = true ∧ s.pins.held = false ∧ s.dev.state ≠ .off ∧ follows)) &&
    (let s : State := { tb0 with pins := { tb0.pins with ppsIn := some 1000, ppsPresent := true }, tick := 1000 + 312499999 }
     let mv : Nat := 399
     let ppb : Int := 5000
     let here : Bool := decide (400 ≤ mv ∧ ppb.natAbs ≤ 5000)
     let p := s.bel.ptp
     let follows : Prop := (p.servo = .holdover ∨ p.servo = .requalify) ∧ here = true ∧ fld p.f 9 = 1 ∧ freqAgreed p = true
     decide (s.supply.pwrGood = true ∧ s.pins.held = false ∧ s.dev.state ≠ .off ∧ (¬ follows))) &&
    (let s : State := dec1
     decide (s.supply.pwrGood = true ∧ s.dev.state ≠ .boot ∧ s.dev.state ≠ .off)) &&
    (let s : State := { tb0 with pins := { tb0.pins with gpio := [(3, { f := [2, 1, 8, 0], pulse := some 995 })] }, tick := 1000 }
     let g : Nat := 3
     let k : Nat := 995
     decide ((tget {} s.pins.gpio g).pulse = some k ∧ 8 * (s.tick - k) ≥ 5 * fnat (tget {} s.pins.gpio g).f 3 ∧ k ≤ s.tick)) := by
  decide +kernel

end TimingPins

namespace Sensors

def sens (x : Sensor) : State := { up with watch := { up.watch with sensors := [(3, { hist := [1] }), (31, x)] } }

theorem test_met_Sensors :
    (let s : State := sens { range := 3, healthy := 800, hot := 2 }
     let n : Nat := 31
     let x := tget {} s.watch.sensors n
     decide (s.supply.pwrGood = true ∧ n < 32 ∧ tabWf {} none s.watch.sensors = true ∧ (tget {} s.watch.sensors n).fault = 0 ∧ (3 ≤ x.range ∨ 50000 ≤ x.same ∨ x.selfBad = true))) &&
    (let s : State := sens { temp := 800, healthy := 800, raw := 77, hist := List.replicate 2750 800 }
     let n : Nat := 31
     let e : Int := 48
     let x := tget {} s.watch.sensors n
     decide (s.supply.pwrGood = true ∧ n < 32 ∧ tabWf {} none s.watch.sensors = true ∧ x.fault = 0 ∧ -48 ≤ e ∧ e ≤ 48)) &&
    (let s : State := sens { temp := 800, healthy := 800, raw := 77, hist := List.replicate 2750 800 }
     let n : Nat := 31
     let e : Int := 49
     let x := tget {} s.watch.sensors n
     decide (s.supply.pwrGood = true ∧ n < 32 ∧ tabWf {} none s.watch.sensors = true ∧ x.fault = 0 ∧ (e < -48 ∨ 48 < e))) &&
    (let s : State := sens { fault := 2, passes := 9, range := 2, same := 49999 }
     let n : Nat := 31
     let e : Int := 48
     let x := tget {} s.watch.sensors n
     decide (s.supply.pwrGood = true ∧ n < 32 ∧ tabWf {} none s.watch.sensors = true ∧ x.fault ≠ 0 ∧ -48 ≤ e ∧ e ≤ 48 ∧ x.range < 3 ∧ x.same < 50000 ∧ x.passes = 9)) &&
    (let s : State := sens { fault := 2, passes := 8, range := 2, same := 49999, selfBad := true }
     let n : Nat := 31
     let e : Int := 48
     let x := tget {} s.watch.sensors n
     decide (s.supply.pwrGood = true ∧ n < 32 ∧ tabWf {} none s.watch.sensors = true ∧ x.fault ≠ 0 ∧ -48 ≤ e ∧ e ≤ 48 ∧ x.range < 3 ∧ x.same < 50000 ∧ x.passes < 9)) := by
  decide +kernel

end Sensors

namespace ThermalControl

def hot (n : Nat) : State := { enc0 with watch := { enc0.watch with sensors := (List.range n).map fun k => (k, { fault := 1 }) } }

theorem test_met_ThermalControl :
    (let s : State := { enc0 with watch := { enc0.watch with therm := [(0, 6), (1, 3)], power := 6, lastFrame := 100, pin := 3000000, sensors := [(0, { temp := 2000, hist := [2000, 1900] })] } }
     decide (tabWf 0 none s.watch.therm = true ∧ s.watch.therm.all (fun e => e.2 ≤ 6) = true ∧ s.watch.power ≤ 6)) &&
    (let s : State := hot 17
     decide (s.supply.pwrGood = true ∧ s.pins.held = false ∧ s.dev.state ≠ .off ∧ s.dev.state ≠ .safe ∧ (16 < faultedCount s ∨ ∃ n ∈ List.range 32, (sensorOf s n).fault = 0 ∧ 3 ≤ (sensorOf s n).hot))) := by
  decide +kernel

end ThermalControl

namespace Telemetry

def dipped : Dip := { sec := 3, ns := 0, tick := 0, minimum := 3600, micros := 0, outcome := 0, step := 2, state := .standby, valid := true, lost := true }

theorem test_met_Telemetry :
    (let s : State := up
     let f : TelFrame := { vin := 3700, iin := 500, temp := 1680 }
     decide (s.supply.pwrGood = true ∧ f.temp < 2000 ∧ f.vin ≤ 3700 ∧ s.watch.supplyWarn = false ∧ f.vin < 3850)) &&
    (let f : TelFrame := { vin := 3701, iin := 500, temp := 2000 }
     decide (3700 < f.vin ∧ 2000 ≤ f.temp)) &&
    (let s : State := { up with watch := { up.watch with lastFrame := 937500, }, tick := 1000000 }
     decide (s.supply.pwrGood = true ∧ s.watch.telLost = false ∧ s.watch.lastFrame + 62500 ≤ s.tick)) &&
    (let s : State := { up with watch := { up.watch with telLost := true, lowTick := 0, lastFrame := 6250000 } }
     decide (s.watch.telLost = true ∧ s.watch.lowTick + 6250000 ≤ s.watch.lastFrame)) &&
    (let s : State := { up with watch := { up.watch with supplyWarn := true, lowTick := 0, lastFrame := 6250000, dip := some dipped } }
     let d := dipped
     decide (s.watch.supplyWarn = true ∧ s.watch.telLost = false ∧ s.watch.lowTick + 6250000 ≤ s.watch.lastFrame ∧ s.watch.dip = some d)) &&
    (let s : State := { up with watch := { up.watch with telLost := true, supplyWarn := true, lowTick := 1, lastFrame := 6250000 } }
     decide (s.watch.lastFrame < s.watch.lowTick + 6250000)) := by
  decide +kernel

end Telemetry

namespace WatchtowerCommands

end WatchtowerCommands

namespace WatchtowerCommands

theorem test_met_WatchtowerCommands :
    (let s : State := up
     let c : Cmd := dev [285, 285]
     decide (passes opPowerCaps c s = true ∧ s.cmd.pend = [])) := by
  decide +kernel

end WatchtowerCommands

namespace BringUp

def boot : State := State.reset

theorem test_met_BringUp :
    (let s : State := boot
     let i := 0
     let trial := false
     let rev := false
     decide (s.dev.state = .boot ∧ s.pins.held = false ∧ bootChoice s = some (i, trial, rev))) &&
    (let s : State := { boot with keep := { boot.keep with slotA := { base := { hashOk := false } }, recovery := { sigOk := false } } }
     decide (s.dev.state = .boot ∧ s.pins.held = false ∧ bootChoice s = none)) &&
    (let s : State := boot
     decide (s.dev.state = .boot ∧ s.pins.held = false ∧ s.keep.trialSlot = none ∧ imagePasses s.keep false (slotImage s.keep s.keep.active) = true)) &&
    (let s : State := { boot with keep := { boot.keep with slotA := { base := { secver := 2 } }, minSecver := 3 } }
     decide (s.dev.state = .boot ∧ s.pins.held = false ∧ s.keep.trialSlot = none ∧ imagePasses s.keep false (slotImage s.keep s.keep.active) = false ∧ imagePasses s.keep false (slotImage s.keep (1 - s.keep.active)) = false ∧ imagePasses s.keep true s.keep.recovery = true)) &&
    (let s : State := { boot with dev := { boot.dev with state := .train } }
     decide (s.dev.state = .train ∧ s.dev.safeBoot = false ∧ s.keep.store = [] ∧ s.ctxs = [])) &&
    (let s : State := { boot with dev := { boot.dev with state := .train, safeBoot := true }, mem := { boot.mem with degraded := [2] } }
     decide (s.dev.state = .train ∧ s.dev.safeBoot = true)) &&
    (let s : State := { up with cmd := { up.cmd with paused := some 1 }, keep := { up.keep with store := [[1], [2]] } }
     decide (s.cmd.paused = some 1 ∧ validTime s = true ∧ 1 < s.keep.store.length)) := by
  decide +kernel

end BringUp

namespace ModuleResets

theorem test_met_ModuleResets :
    (let s : State := { dec1 with dev := { dec1.dev with warmDue := some 3, state := .run } }
     let last := 3
     decide (s.supply.pwrGood = true ∧ s.dev.warmDue = some last ∧ s.dev.inProgress = none)) &&
    (let s : State := { dec1 with dev := { dec1.dev with warmDue := some 3, state := .run } }
     decide (s.supply.pwrGood = true ∧ s.pins.held = false ∧ s.dev.state ≠ .off ∧ s.dev.state ≠ .boot)) &&
    (let s : State := { up with dev := { up.dev with wdRecent := [900, 700] }, tick := 375000000700 }
     let a := 900
     let b := 700
     decide (s.supply.pwrGood = true ∧ s.dev.wdRecent = [a, b])) &&
    (let s : State := up
     let c : Cmd := dev []
     decide (passes opWarmResetCommand c s = true ∧ s.cmd.pend = [])) &&
    (let s : State := { up with keep := { up.keep with slotB := { verified := true } } }
     let c : Cmd := dev []
     decide (passes opActivateInactiveSlot c s = true ∧ s.cmd.pend = [])) &&
    (let s : State := dec1
     let c : Cmd := dev []
     decide (passes opEnterSafe c s = true ∧ s.dev.state ≠ .safe)) := by
  decide +kernel

end ModuleResets

namespace HostLinks

theorem test_met_HostLinks :
    (let s : State := { up with msixPending := [3, 9, 12], irq := [(2, 4)], irqEn := [(2, 4)], pins := { up.pins with perstLow := false } }
     decide (s.supply.pwrGood = true ∧ s.pins.held = false ∧ s.dev.state ≠ .off ∧ s.dev.state ≠ .boot ∧ s.pins.perstLow = false)) &&
    (let s : State := { up with msixPending := [3, 9, 12], irq := [(2, 4)], irqEn := [(2, 4)], pins := { up.pins with perstLow := false } }
     decide (s.supply.pwrGood = true ∧ s.pins.held = false ∧ s.dev.state ≠ .off ∧ s.dev.state ≠ .boot)) &&
    (let s : State := { up with msixPending := [3, 9, 12], irq := [(2, 4)], irqEn := [(2, 4)], pins := { up.pins with perstLow := false } }
     decide (s.pins.pcieReady = true ∧ lineOf s 2 = true)) &&
    decide ({ up with pins := { up.pins with perstLow := true } }.pins.perstLow = true) := by
  decide +kernel

end HostLinks

namespace Rings

def ring (g : Ring) : State := { up with cmd := { up.cmd with rings := [(3, { enable := true }), (7, g)] } }
def bootS : State := { up with dev := { up.dev with state := .boot } }

theorem test_met_Rings :
    (let s : State := bootS
     let r : Nat := 7
     decide (r < 8 ∧ s.dev.state = .boot)) &&
    (let s : State := ring { enable := true, sizeLog2 := 12, producer := 0x2300, consumer := 0x2300 }
     let r : Nat := 7
     let v : Word := 0x12345
     let g := ringOf s r
     let p : BitVec 16 := v.setWidth 16
     decide (r < 8 ∧ s.dev.state ≠ .boot ∧ s.pins.pcieReady = true ∧ g.enable = true ∧ (p - g.consumer).toNat ≤ 2 ^ g.sizeLog2 ∧ (g.producer - g.consumer).toNat ≤ (p - g.consumer).toNat)) &&
    (let s : State := ring { enable := true, sizeLog2 := 4, producer := 0, consumer := 0 }
     let r : Nat := 7
     let v : Word := 0x11
     let g := ringOf s r
     let p : BitVec 16 := v.setWidth 16
     decide (r < 8 ∧ s.dev.state ≠ .boot ∧ s.pins.pcieReady = true ∧ g.enable = true ∧ (2 ^ g.sizeLog2 < (p - g.consumer).toNat ∨ (p - g.consumer).toNat < (g.producer - g.consumer).toNat))) &&
    (let s : State := ring { baseLo := 0x1000, cqLo := 0, producer := 3, consumer := 2 }
     let r : Nat := 7
     let v : Word := 0x8000000C
     let g := ringOf s r
     let n := v.toNat % 16
     decide (s.pins.pcieReady = true ∧ r < 8 ∧ tabWf {} none s.cmd.rings = true ∧ bit v.toNat 31 = true ∧ g.enable = false ∧ 4 ≤ n ∧ n ≤ 12 ∧ g.baseLo.toNat % 4096 = 0 ∧ g.cqLo.toNat % 4096 = 0)) &&
    (let s : State := ring { baseLo := 0x1000 }
     let r : Nat := 7
     let v : Word := 0x8000000D
     let g := ringOf s r
     let n := v.toNat % 16
     decide (s.pins.pcieReady = true ∧ r < 8 ∧ tabWf {} none s.cmd.rings = true ∧ bit v.toNat 31 = true ∧ g.enable = false ∧ (n < 4 ∨ 12 < n))) &&
    (let s : State := ring { enable := true, queue := [.desc, .udp .mgmt { v6 := false, addr := 1, port := 2 } 0 [], .desc] }
     let r : Nat := 7
     let v : Word := 4
     decide (s.pins.pcieReady = true ∧ r < 8 ∧ tabWf {} none s.cmd.rings = true ∧ bit v.toNat 31 = false)) &&
    (let s : State := up
     let r : Nat := 7
     let v : Word := 0x80000006
     let k := v.toNat % 32
     decide (s.pins.pcieReady = true ∧ r < 8 ∧ tabWf {} none s.cmd.rings = true ∧ bit v.toNat 31 = true ∧ s.cmd.evq.enable = false ∧ 6 ≤ k ∧ k ≤ 16 ∧ s.cmd.evq.baseLo.toNat % 4096 = 0)) &&
    (let s : State := { up with cmd := { up.cmd with evq := { enable := true, tail := 5, head := 3 } } }
     let r : Nat := 7
     let v : Word := 0
     decide (s.pins.pcieReady = true ∧ r < 8 ∧ tabWf {} none s.cmd.rings = true ∧ bit v.toNat 31 = false ∧ s.cmd.evq.enable = true)) &&
    (let s : State := ring { enable := true, sizeLog2 := 12, producer := 0x2300, consumer := 0x2300 }
     let r : Nat := 7
     decide (s.pins.pcieReady = true ∧ r < 8 ∧ tabWf {} none s.cmd.rings = true)) := by
  decide +kernel

end Rings

namespace Datagrams

def whoB : Endpoint := { v6 := false, addr := 0x0A000001, port := 5000 }
def packetOk : List Byte := [0x48, 0x5A] ++ List.replicate 30 0
def dg : Datagram := { via := .mgmt, src := whoB, port := 32, len := 78, frag := none, whole := true, bytes := packetOk }
def okRep : Reply := { opcode := 0x101, status := .ok, tag := 0, effect := none, fenced := false, auth := none, clamps := [], result := [] }
/-- The management link is up. -/
def linked : State := { up with dev := { up.dev with mgmtUp := true } }
def crcOf (d : Datagram) : Word := (packetCmd d.via d.src (d.port / 8) 0 0 d.bytes).crc
def keptS : State := { linked with cmd := { linked.cmd with
  kept := [{ src := whoB, tag := 0, crc := crcOf dg, tick := 0, reply := some okRep }] } }

/-- The bucket of the policer that `d` meets, as full as the row finds it, and what `d` needs. -/
def bucketOf (s : State) (d : Datagram) : Option (Nat × Nat) :=
  (policerOf d.port .command).map fun p => ((policerNow s p).bucket, countedLen s d.port d.len * byteUnits)

/-- What every clause asks: the processor runs, the port takes the datagram and is up. -/
def comes (s : State) (d : Datagram) : Bool := running s && portTakes d && portUp s d.port

def roomFor (s : State) (d : Datagram) : Bool := comes s d && (bucketOf s d).any fun (b, n) => decide (n ≤ b)

/-- The datagram at the front of a ring whose 64 places are taken. -/
def fullS : State := modRing (viaRing .mgmt) (fun g => { g with queue := List.replicate 64 (.udp .mgmt whoB 4 []) }) linked

/-- The policer of the management port with an empty bucket. -/
def dryS : State := match policerOf 32 .command with
  | some p => setPolicer p { policerNow linked p with bucket := 0 } linked
  | none => linked

/-- In-band: the recovery image runs, or no entry of the allow-list names the sender, or one does. -/
def inS : State := { net with cmd := { net.cmd with allow := [(0, some [1, 0, 0x0A000001, 0, 0, 0, 32])] } }
def inD : Datagram := { dg with via := .inband, port := 3 }

theorem test_met_Datagrams :
    comes dryS dg && ((bucketOf dryS dg).any fun (b, n) => decide (b < n)) && roomFor linked dg &&
    (let s := linked
     let c := packetCmd dg.via dg.src (dg.port / 8) 0 0 dg.bytes
     decide (dg.frag = none ∧ stage1 dg.bytes = true ∧ keptOf s dg.src c.tag c.crc = none ∧ udpWaiting dg.via (ringOf s (viaRing dg.via)) < 64)) &&
    (let s := keptS
     let c := packetCmd dg.via dg.src (dg.port / 8) 0 0 dg.bytes
     roomFor s dg && decide ((keptOf s dg.src c.tag c.crc).any (fun k => decide (k.reply = some okRep)) = true)) &&
    (let d := { dg with bytes := packetOk.dropLast }
     roomFor linked d && decide (d.frag = none ∧ stage1 d.bytes = false)) &&
    (let s := fullS
     let c := packetCmd dg.via dg.src (dg.port / 8) 0 0 dg.bytes
     roomFor s dg && decide (keptOf s dg.src c.tag c.crc = none ∧ 64 ≤ udpWaiting dg.via (ringOf s (viaRing dg.via)))) := by
  decide +kernel

theorem test_met_Datagrams_parts :
    (let s := { linked with cmd := { linked.cmd with reasm := (List.range 15).map fun k => (whoB, 8 + k) } }
     let d := { dg with frag := some 7, whole := false }
     roomFor s d && decide (d.src.v6 = false ∧ (d.src, 7) ∉ s.cmd.reasm ∧ s.cmd.reasm.length < 16)) &&
    (let s := { linked with cmd := { linked.cmd with reasm := [(whoB, 7)] } }
     let d := { dg with frag := some 7 }
     let c := packetCmd d.via d.src (d.port / 8) 0 0 d.bytes
     roomFor s d && decide ((d.src, 7) ∈ s.cmd.reasm ∧ stage1 d.bytes = true ∧ keptOf s d.src c.tag c.crc = none ∧
       udpWaiting d.via (ringOf s (viaRing d.via)) < 64)) &&
    roomFor net inD && decide (allowed net inD.src = false) &&
    roomFor { inS with dev := { inS.dev with image := 2 } } inD && roomFor inS inD && decide (inS.dev.image ≠ 2 ∧ allowed inS inD.src = true) &&
    !portTakes { inD with port := 32 } && !portUp up 32 := by
  decide +kernel

end Datagrams

namespace CommandProcessor

def whoC : Endpoint := { v6 := false, addr := 0x0A000001, port := 5000 }
def packetOk' : List Byte := [0x48, 0x5A] ++ List.replicate 30 0
def waiting (q : List QItem) : State := { up with cmd := { up.cmd with rings := [(2, { queue := [.desc] }), (7, { queue := q, enable := true, sizeLog2 := 4, consumer := 0xFFFF })] } }
/-- A descriptor at packet address 0x1000 of 32 bytes, capacity 24, reply address 0x2000. -/
def fe : Fetch := { desc := leBytes 8 0x1000 ++ leBytes 4 32 ++ leBytes 4 24 ++ leBytes 8 0x2000 ++ leBytes 8 0, bytes := packetOk' }
def jobA (op : Nat) (fault : Option Nat) : Job := { id := 4, opcode := op, cmd := { dev [] with via := .ring 2, fault := fault }, f := [] }
def jobS (j : Job) : State := { up with cmd := { up.cmd with jobs := [j], rings := [(2, { blocked := some 4, queue := [.desc] })] } }
def jobMet (j : Job) : Bool :=
  decide ((jobS j).cmd.jobs.find? (·.id = 4) = some j ∧ (opTable j.opcode).any (·.background) = true) && ringHolds j (jobS j)

theorem test_met_CommandProcessor :
    (let s : State := waiting [.udp .mgmt whoC 4 packetOk', .desc]
     decide (running s = true ∧ s.dev.warmDue = none ∧ topRing s = some 7 ∧ (ringOf s 7).queue = .udp .mgmt whoC 4 packetOk' :: [.desc])) &&
    (let s : State := { up with cmd := { up.cmd with rings := [(0, { queue := [.stored 0 packetOk'] })] } }
     decide (running s = true ∧ s.dev.warmDue = none ∧ topRing s = some 0 ∧ (ringOf s 0).queue = [.stored 0 packetOk'])) &&
    (let s : State := waiting [.desc, .desc]
     decide (running s = true ∧ s.dev.warmDue = none ∧ topRing s = some 7 ∧ (ringOf s 7).queue = .desc :: [.desc] ∧ s.pins.hostUp = true ∧
       (descFields fe.desc).2.1 = 32 ∧ stage1 (fe.bytes.take (descFields fe.desc).2.1) = true ∧
       stage1 (packetOk'.dropLast.take (descFields fe.desc).2.1) = false)) &&
    jobMet (jobA 0x0F02 none) && jobMet (jobA 0x0705 none) && jobMet (jobA 0x0F02 (some 3)) := by
  decide +kernel

end CommandProcessor

namespace PendingTakesEffect

def gp : Pend := pendNow opAssignGpioFunction (dev [3, 1, 1, 0, 0]) [3, 1, 1, 0, 0] tb0
def gpS : State := { tb0 with cmd := { tb0.cmd with pend := [gp, { gp with id := 1, relied := [0] }, { gp with id := 2 }] } }
def mv : Pend := pendNow opRequestIrap (pkt 4 []) [] tb0
def mvS : State := { tb0 with cmd := { tb0.cmd with pend := [mv, { gp with id := 1, relied := [0] }] } }
def opn : Pend := pendNow opOpenEncodeContext (pkt 0 encWords) (nums encWords) comp0
def cls : Pend := { (pendNow opCloseContext (pkt 0 []) [] comp0) with id := 1 }
/-- Context 0 has closed at this boundary, with a frame at work still, or with nothing left. -/
def rqs : Pend := { (pendNow opRequestIrap (pkt 0 []) [] enc0) with id := 2 }
def clsS (st : CtxState) : State :=
  { enc0 with ctxs := [(0, { encCtx with st := st })], cmd := { enc0.cmd with pend := [rqs], closed := [(0, rqs.at')] } }
def opnS : State := { comp0 with ctxs := [(0, { encCtx with st := .opening })], cmd := { comp0.cmd with pend := [opn, cls] } }

theorem test_met_PendingTakesEffect :
    (let s : State := gpS
     let tb : Nat := 0
     let frame : Nat := 59940
     let t : Timebase := { rate := 8, format := 1, last := some 59940 }
     let p : Pend := gp
     let op : Op := opAssignGpioFunction
     decide (tbOf s tb = some t ∧ (frame : Int) ≤ countNow s t ∧ (s.cmd.pend.find? (fun p => p.tb = tb ∧ p.frame = frame) = some p) ∧ (opTable p.opcode).isSome = true ∧ closeFirst p s = false ∧ afterClose p s = false ∧ (op.ctxOk p.cmd s = true ∧ op.post p.cmd p.f s = none ∧ stateAllows op s = true))) &&
    (let s : State := mvS
     let tb : Nat := 0
     let frame : Nat := 59940
     let t : Timebase := { rate := 8, format := 1, last := some 59940 }
     let p : Pend := mv
     let op : Op := opRequestIrap
     decide (tbOf s tb = some t ∧ (frame : Int) ≤ countNow s t ∧ (s.cmd.pend.find? (fun p => p.tb = tb ∧ p.frame = frame) = some p) ∧ (opTable p.opcode).isSome = true ∧ closeFirst p s = false ∧ afterClose p s = false ∧ (¬ (op.ctxOk p.cmd s = true ∧ op.post p.cmd p.f s = none ∧ stateAllows op s = true)))) &&
    (let s : State := opnS
     let tb : Nat := 0
     let frame : Nat := 59940
     let t : Timebase := { rate := 8, format := 1, last := some 59940 }
     let p : Pend := opn
     decide (tbOf s tb = some t ∧ (frame : Int) ≤ countNow s t ∧ (s.cmd.pend.find? (fun p => p.tb = tb ∧ p.frame = frame) = some p) ∧ (opTable p.opcode).isSome = true ∧ closeFirst p s = true)) &&
    ([CtxState.closing, .closed].all fun st =>
      let s := clsS st
      let t : Timebase := { rate := 8, format := 1, last := some 59940 }
      decide (tbOf s 0 = some t ∧ (59940 : Int) ≤ countNow s t ∧ (s.cmd.pend.find? (fun p => p.tb = 0 ∧ p.frame = 59940) = some rqs) ∧
        closeFirst rqs s = false ∧ afterClose rqs s = true ∧ (ctxOf s 0).st = st)) := by
  decide +kernel

end PendingTakesEffect

namespace SystemCommands

theorem test_met_SystemCommands :
    (let s : State := up
     let c : Cmd := dev [15, 1, 0, 0x0A000000, 0, 0, 0, 32]
     let f : Fields := fieldsOf opSetAllowListEntry c s
     decide (passes opSetAllowListEntry c s = true ∧ fld f 3 = 0)) := by
  decide +kernel

end SystemCommands

namespace KeepCommands

def storeDev (l : List Word) : Cmd := { dev l with via := .store 0 }

theorem test_met_KeepCommands :
    (let s : State := up
     passes opWriteFirmwareChunk (storeDev [33554428, 4, 0x12345678]) s && passes opVerifyInactiveSlot (dev []) s &&
       imagePasses up.keep false (slotImage { up.keep with slotB := {} } 1) && !imagePasses s.keep false (slotImage s.keep (inactiveSlot s))) &&
    (let s : State := { up with dev := { up.dev with trial := true, image := 1 }, keep := { up.keep with slotB := { base := { secver := 4 } }, trialSlot := some 1, minSecver := 3 } }
     let c : Cmd := dev []
     decide (passes opConfirmTrialImage c s = true ∧ s.cmd.pend = [])) &&
    (let s : State := { up with keep := { up.keep with general := { key := some [1], counter := 0 } } }
     let c : Cmd := dev [7]
     let f : Fields := fieldsOf opSetAuthenticationPolicy c s
     decide (passes opSetAuthenticationPolicy c s = true ∧ s.cmd.pend = [] ∧ fld f 1 ≠ 0)) := by
  decide +kernel

end KeepCommands

namespace BelfryCommands

def refusedS : State := { tb0 with bel := { tb0.bel with ptp := { servo := .holdover, refusal := some { bound := 1000, row12 := false, gm := 9, offs := List.replicate 8 5000, reported := some 5000 } } } }

theorem test_met_BelfryCommands :
    (let s : State := refusedS
     let c : Cmd := dev [6000, 0]
     let r := { bound := 1000, row12 := false, gm := 9, offs := List.replicate 8 5000, reported := some 5000 }
     let m := 5000
     decide (passes opAcceptRefusedOffset c s = true ∧ s.bel.ptp.refusal = some r ∧ refusedMean s = some m)) &&
    (let s : State := tb0
     let c : Cmd := dev [0, 8, 1]
     let f : Fields := fieldsOf opConfigureTimebase c s
     decide (passes opConfigureTimebase c s = true ∧ (∃ t, tbOf s (fnat f 1) = some t ∧ t.rate = fnat f 2 ∧ t.format = fnat f 3))) &&
    (let s : State := tb0
     let c : Cmd := dev [15, 8, 1]
     let f : Fields := fieldsOf opConfigureTimebase c s
     decide (passes opConfigureTimebase c s = true ∧ (¬ (∃ t, tbOf s (fnat f 1) = some t ∧ t.rate = fnat f 2 ∧ t.format = fnat f 3)))) &&
    (let s : State := tb0
     let c : Cmd := dev [0]
     decide (passes opRemoveTimebase c s = true ∧ tabWf none none s.bel.tbs = true)) := by
  decide +kernel

end BelfryCommands

namespace PtpMessages

def ann : Announce := { path := 0, lane := 0, domain := 127, gm := 9, prio1 := 1, clsQual := 6, accuracy := 0, variance := 0, prio2 := 0, steps := 254, sender := 9, logAnn := 3, logSync := -7, utcOffset := 37, leap61 := false, leap59 := false, utcValid := true, tlv := none }
def forn : Foreign := { a := ann, tick := 1000, prev := some 500 }
def lis (p : Ptp) : State := { net with bel := { net.bel with ptp := p }, tick := 15000001000 }
def base : Ptp := { servo := .locked, masters := [forn], best := some 9, tracked := some 9, lastSync := 14995118188 }
/-- A measurement on the PTP port whose offset is `o`, with no path delay and no asymmetry. -/
def sync (s : State) (o : Int) : SyncMeas :=
  { path := 0, lane := 0, gm := 9, late := 10 * o - rxCorrection s (ptpPort s) 0, carrier := 0 }
/-- The offsets that the row finds with it. -/
def found (s : State) (o : Int) : List Int := corrected s (sync s o) :: (if syncIntervals s = 1 then s.bel.ptp.offs else [])
def synced (s : State) : Bool := decide (ptpHears s = true ∧ s.bel.ptp.path = ptpPath s ∧ 0 = ptpPath s ∧ 0 = fnat s.bel.ptp.f 10 ∧ s.bel.ptp.best = some 9)

theorem test_met_PtpMessages :
    (let s : State := lis base
     let a : Announce := ann
     decide (ptpHears s = true ∧ s.bel.ptp.path = ptpPath s ∧ a.path = ptpPath s ∧ a.lane = fnat s.bel.ptp.f 10 ∧ a.domain = fnat s.bel.ptp.f 2)) &&
    (let s : State := lis base
     let a : Announce := { ann with domain := 126 }
     decide (ptpHears s = true ∧ s.bel.ptp.path = ptpPath s ∧ (a.path ≠ ptpPath s ∨ a.lane ≠ fnat s.bel.ptp.f 10 ∨ a.domain ≠ fnat s.bel.ptp.f 2))) &&
    (let s : State := lis base
     decide (ptpHears s = true ∧ s.bel.ptp.path = ptpPath s ∧ s.bel.ptp.best.isSome = true)) &&
    (let s : State := lis { base with asked := true, exchanges := 3 }
     let gm := 9
     decide (ptpHears s = true ∧ s.bel.ptp.path = ptpPath s ∧ s.bel.ptp.asked = true ∧ s.bel.ptp.best = some gm)) &&
    (let s : State := lis { base with servo := .acquire }
     let m := forn
     decide (s.supply.pwrGood = true ∧ s.pins.held = false ∧ s.dev.state ≠ .off ∧ s.dev.state ≠ .safe ∧ chosen s.bel.ptp = some m ∧ m.tick + fnat s.bel.ptp.f 5 * intervalTicks m.a.logAnn ≤ s.tick ∧ (let left := s.bel.ptp.masters.filter fun m => some m.a.gm ≠ s.bel.ptp.best; bestMaster { s with bel := { s.bel with ptp := { s.bel.ptp with masters := left } } } left = none))) &&
    (let s : State := lis { base with lastSync := 14921876000 }
     let m := forn
     decide (s.supply.pwrGood = true ∧ s.pins.held = false ∧ s.dev.state ≠ .off ∧ s.dev.state ≠ .safe ∧ chosen s.bel.ptp = some m ∧ s.bel.ptp.lastSync + 16 * intervalTicks m.a.logSync ≤ s.tick)) &&
    (let s : State := lis { base with stored := some [0, 1, 0, 0, 3, 10000, 5, 0, 1, 0] }
     let f := [0, 1, 0, 0, 3, 10000, 5, 0, 1, 0]
     decide (s.supply.pwrGood = true ∧ s.pins.held = false ∧ s.dev.state ≠ .off ∧ s.dev.state ≠ .safe ∧ s.bel.ptp.stored = some f)) &&
    (let s := lis { base with exchanges := 3 }
     synced s && decide (s.bel.ptp.exchanges < 4)) &&
    (let s := lis { base with servo := .acquire, offs := [999, 0, -1] }
     let l := found s 1000
     synced s && decide (l = [1000, 999, 0, -1] ∧ 4 ≤ s.bel.ptp.exchanges ∧ (l.take 4).length = 4 ∧ agree (l.take 4) = true)) &&
    (let s := lis { base with servo := .acquire, offs := [1, 2] }
     synced s && decide (4 ≤ s.bel.ptp.exchanges ∧ ((found s 1000000).take 4).length < 4)) &&
    (let s := lis { base with servo := .acquire, offs := [1, 2, 3], lastSync := 1000 }
     synced s && decide (4 ≤ s.bel.ptp.exchanges ∧ ((found s 1000000).take 4).length < 4)) &&
    (let s := lis { base with offs := [10001, -10001, 10001] }
     let p := s.bel.ptp
     let l := found s 10001
     synced s && decide (4 ≤ p.exchanges ∧ p.servo = .locked ∧ (l.take 4).length = 4 ∧
       (∀ x ∈ l.take 4, fld p.f 6 < x ∨ x < -(fld p.f 6)) ∧ 0 ≤ fld p.f 6)) &&
    (let s := lis { base with offs := [1000, -1000, 0], servo := .requalify, intervals := 15, qualifying := some 9 }
     let p := s.bel.ptp
     let l := found s 1000
     synced s && decide (4 ≤ p.exchanges ∧ p.servo = .requalify ∧ 16 ≤ p.intervals + syncIntervals s ∧ (l.take 4).length = 4 ∧
       (∀ x ∈ l.take 4, -1000 ≤ x ∧ x ≤ 1000))) := by
  decide +kernel

end PtpMessages

namespace TickCounts

theorem test_met_TickCounts :
    (let s : State := { tb0 with bel := { tb0.bel with clock := { sec := 7, ns := 999999999, frac := 0xFFFFFFFF }, tbs := [(0, some { rate := 8, format := 1, corr := 7000000000 }), (2, some { rate := 8, format := 1, corr := -3 }), (3, some { rate := 8, format := 1, corr := -6871947674 })] } }
     decide (s.pending = [] ∧ s.supply.pwrGood = true ∧ s.pins.held = false ∧ s.dev.state ≠ .off ∧ clockNs s + 256 < 281474976710656 * 1000000000 ∧ s.bel.clock.ns.toNat < 1000000000 ∧
       s.mem.subs = [] ∧ (tbOf s 0).any (fun a => !rephaseDue a && decide (s.bel.incr.toNat ≤ a.corr.natAbs)) = true)) := by
  decide +kernel

end TickCounts

namespace FrameBoundaryPassed

def tbl (m : Nat) (c : Int) : Timebase := { rate := 8, format := 1, last := some m, corr := c }
def at' (t : Timebase) (s : State) : State := { s with bel := { s.bel with tbs := [(0, some t)] } }

theorem test_met_FrameBoundaryPassed :
    (let s : State := at' (tbl 59939 0) dec1
     let tb : Nat := 0
     let m : Nat := 59939
     let t : Timebase := tbl 59939 0
     decide (tbOf s tb = some t ∧ t.last = some m ∧ (m : Int) + 1 ≤ countNow s t)) &&
    (let s : State := at' (tbl 59939 0) tb0
     let tb : Nat := 0
     let m : Nat := 59939
     let t : Timebase := tbl 59939 0
     decide (tbOf s tb = some t ∧ t.last = some m ∧ (m : Int) + 1 ≤ countNow s t ∧ s.cmd.pend = [] ∧ s.ctxs = [] ∧ s.groups = [] ∧ s.cup.comps = [])) &&
    (let s : State := tb0
     let tb : Nat := 0
     let m : Nat := 59940
     let t : Timebase := tbl 59940 0
     decide (tbOf s tb = some t ∧ t.last = some m ∧ countNow s t < (m : Int) + 1)) &&
    (let s : State := at' (tbl 59939 (2000000000 * 42949672960000)) tb0
     let tb : Nat := 0
     let m : Nat := 59939
     let t : Timebase := tbl 59939 (2000000000 * 42949672960000)
     decide (tbOf s tb = some t ∧ t.last = some m ∧ rephaseDue t = true)) &&
    (let s : State := at' (tbl 59939 0) tb0
     let tb : Nat := 0
     let m : Nat := 59939
     let t : Timebase := tbl 59939 0
     decide (tbOf s tb = some t ∧ t.last = some m ∧ rephaseDue t = false)) &&
    (let s : State := at' (tbl 59939 (0x19999999A - 1)) tb0
     let tb : Nat := 0
     let t : Timebase := tbl 59939 (0x19999999A - 1)
     decide (tbOf s tb = some t ∧ t.corr.natAbs < s.bel.incr.toNat)) := by
  decide +kernel

end FrameBoundaryPassed

namespace EventUnitFires

def unit (a k : Nat) (f : Option Int) : EvUnit := { holder := .host, f := [0, 0, 0, a, 0, 0, 0, 0, k, 7], targets := [7], fired := f }
def un (u : EvUnit) : State := { tb0 with bel := { tb0.bel with units := [(9, u)] }, pins := { tb0.pins with gpio := [(7, { f := [2, 1, 100, 0] })] }, msix := true }
def t0 : Timebase := { rate := 8, format := 1, last := some 59940 }
/-- What the statement asks of unit 9, the first that is due. -/
def dueUnit (s : State) (l : List Nat) : Bool :=
  let u := unitOf s 9
  decide (fireOrder s = 9 :: l ∧ u.holder ≠ .free ∧ tbOf s (fnat u.f 1) = some t0 ∧ unitDue s u = some 59940 ∧ u.targets = [7])

theorem test_met_EventUnitFires :
    (let s := un (unit 0 6 none)
     dueUnit s [] && decide (fnat (unitOf s 9).f 9 = 6 ∧ fnat (unitOf s 9).f 10 = 7 ∧ fld (gpioOf s 7).f 1 = 2)) &&
    (let s := un (unit 0 7 (some 59939))
     dueUnit s [] && decide (fnat (unitOf s 9).f 9 = 7 ∧ s.msix = true ∧ 7 ∉ s.msixMasked)) &&
    (let s := { un (unit 0 1 none) with dma := { chans := [(7, { holder := .host, f := [1, 1, 10000, 0, 0, 0, 2, 1, 0, 0, 2, 0, 1, 0xFF, 0, 0, 0xFF], state := .waiting })] } }
     dueUnit s [] && decide (fnat (unitOf s 9).f 9 = 1 ∧ fnat (dmaOf s 7).f 2 = 1)) &&
    dueUnit (un (unit 0 2 none)) [] && dueUnit (un (unit 0 5 none)) [] &&
    (let s := { un (unit 0 7 none) with bel := { (un (unit 0 7 none)).bel with units := [(9, unit 0 7 none), (11, unit 0 7 none)] } }
     dueUnit s [11] && decide (11 ∈ fireOrder s ∧ 10 ∉ fireOrder s)) := by
  decide +kernel

end EventUnitFires

namespace RegisterAccesses

def cnt : State := { up with pins := { up.pins with pcieReady := true }, counters := [(0x20108, 5), (0x20208, 7), (0x40008, 9)], irq := [(0, 0xFFFFFFFF), (2, 0xF)] }
def q (e : List (Nat × Nat × Nat)) : State := { cnt with bel := { cnt.bel with tsqA := { entries := e, full := true }, tsqB := { entries := e } } }

theorem test_met_RegisterAccesses :
    (let s : State := cnt
     let off := 0x20108
     decide (s.pins.pcieReady = true ∧ isCounter off = true)) &&
    (let s : State := cnt
     let off := 0x20208
     decide (s.pins.pcieReady = true ∧ isCounter off = true)) &&
    (let s : State := q [(0xFFFF, 0xFFFF, 999999999), (1, 2, 3)]
     let i := 0xFFFF
     let sec := 0xFFFF
     let ns := 999999999
     let rest := [(1, 2, 3)]
     decide (s.pins.pcieReady = true ∧ s.bel.tsqA.entries = (i, sec, ns) :: rest)) &&
    (let s : State := q [(0xFFFF, 0xFFFF, 999999999), (1, 2, 3)]
     let i := 0xFFFF
     let sec := 0xFFFF
     let ns := 999999999
     let rest := [(1, 2, 3)]
     decide (s.pins.pcieReady = true ∧ s.bel.tsqB.entries = (i, sec, ns) :: rest)) &&
    (let s : State := tb0
     let tb := 0
     let t := { rate := 8, format := 1, last := some 59940 }
     decide (s.pins.pcieReady = true ∧ tb < 16 ∧ tbOf s tb = some t)) &&
    (let s : State := cnt
     let b := 2
     decide (s.pins.pcieReady = true ∧ b < 15)) &&
    (let s : State := cnt
     let off := 0x20004
     decide (s.pins.pcieReady = true ∧ isW1c off = false ∧ off / 0x10000 ≠ 1 ∧ (off < 0xC1000 ∨ 0xC1200 ≤ off))) &&
    decide (isCounter 0x20114 = true) &&
    (let s : State := cnt
     let c : Cmd := dev [14]
     decide (passes opCounterSnapshot c s = true ∧ tabWf 0 none s.counters = true)) := by
  decide +kernel

end RegisterAccesses

namespace ContextsOpenAndClose

theorem test_met_ContextsOpenAndClose :
    (let c : Cmd := pkt 0 encWords
     let k := 1
     decide (k ≠ c.ctx)) &&
    (let s : State := work (campOf fr [segTask] { spire0 with run := some seg0 } {})
     let c : Nat := 0
     let t : Option Int := some 77
     let u := closeEffect c t s
     let r := fr
     decide ((ctxOf s c).st = .active ∧ tablesHold s = true ∧ r ∈ u.camp.frames ∧ r.ctx = c)) &&
    (let s : State := { (work { (campOf fr [segTask] { spire0 with run := some seg0 } {}) with frames := [fr, { fr with ctx := 5 }] }) with cmd := { up.cmd with pend := [{ pendNow opRequestIrap (pkt 0 []) [] enc0 with at' := 77 }, { pendNow opRequestIrap (pkt 0 []) [] enc0 with at' := 78, id := 1 }] } }
     let c : Nat := 0
     let r := { fr with ctx := 5 }
     decide ((ctxOf s c).st = .active ∧ tablesHold s = true ∧ r ∈ s.camp.frames ∧ r.ctx ≠ c)) &&
    (let s : State := { (work { (campOf fr [segTask] { spire0 with run := some seg0 } {}) with frames := [fr, { fr with ctx := 5 }] }) with cmd := { up.cmd with pend := [{ pendNow opRequestIrap (pkt 0 []) [] enc0 with at' := 77 }, { pendNow opRequestIrap (pkt 0 []) [] enc0 with at' := 78, id := 1 }] } }
     let c : Nat := 0
     let t : Option Int := some 77
     let u := closeEffect c t s
     let p := { pendNow opRequestIrap (pkt 0 []) [] enc0 with at' := 77 }
     decide ((ctxOf s c).st = .active ∧ tablesHold s = true ∧ p ∈ u.cmd.pend ∧ p.cmd.ctx = c ∧ p.opcode / 256 = 5)) := by
  decide +kernel

end ContextsOpenAndClose

namespace ContextCommands

def dec2 : State := { dec1 with camp := { frames := [fr, { fr with ctx := 1, decode := true }, { fr with ctx := 1, decode := true, bound := false, frame := 59941 }] } }

theorem test_met_ContextCommands :
    (let s : State := { enc0 with ctxs := [(0, { encCtx with kept := [1, 0], pool := [{ mark := .short, frame := 4 }, { mark := .long, frame := 7, holders := 1 }, { mark := .short, frame := 3 }, { mark := .unused, frame := 9 }] })] }
     let c : Nat := 0
     let x : Nat := 4
     let u := invalidate c x s
     let b := 2
     decide (tablesHold s = true ∧ b < (ctxOf s c).pool.length ∧ ((bufOf (ctxOf u c) b).mark = .short ∨ (bufOf (ctxOf u c) b).mark = .long))) &&
    (let s : State := { enc0 with ctxs := [(0, { encCtx with kept := [1, 0], pool := [{ mark := .short, frame := 4 }, { mark := .long, frame := 7, holders := 1 }, { mark := .short, frame := 3 }, { mark := .unused, frame := 9 }] })] }
     let c : Nat := 0
     let k := 1
     decide (tablesHold s = true ∧ k ≠ c)) &&
    (let s : State := { enc0 with ctxs := [(0, { encCtx with kept := [1, 0], pool := [{ mark := .short, frame := 4 }, { mark := .long, frame := 7, holders := 1 }, { mark := .short, frame := 3 }, { mark := .unused, frame := 9 }] })] }
     let c : Cmd := pkt 0 []
     let f : Fields := nums ((encWords.set 14 9).set 10 1)
     let i := 8
     decide (f.length = 16 ∧ (ctxOf s c.ctx).st = .active ∧ i ≠ 11 ∧ i ≠ 12)) &&
    (let s : State := { enc0 with ctxs := [(0, { encCtx with kept := [1, 0], pool := [{ mark := .short, frame := 4 }, { mark := .long, frame := 7, holders := 1 }, { mark := .short, frame := 3 }, { mark := .unused, frame := 9 }] })] }
     let c : Cmd := pkt 0 []
     let f : Fields := nums ((encWords.set 14 9).set 10 1)
     let x := ctxOf s c.ctx
     decide (f.length = 16 ∧ (ctxOf s c.ctx).st = .active ∧ rebuilds x f = true)) &&
    (let s : State := { enc0 with ctxs := [(0, { encCtx with kept := [1, 0], pool := [{ mark := .short, frame := 4 }, { mark := .long, frame := 7, holders := 1 }, { mark := .short, frame := 3 }, { mark := .unused, frame := 9 }] })] }
     let c : Cmd := pkt 0 []
     let f : Fields := nums ((encWords.set 11 30).set 10 1)
     let x := ctxOf s c.ctx
     decide (f.length = 16 ∧ (ctxOf s c.ctx).st = .active ∧ rebuilds x f = false)) &&
    (let s : State := { enc0 with ctxs := [(0, { encCtx with kept := [1, 0], pool := [{ mark := .short, frame := 4 }, { mark := .long, frame := 7, holders := 1 }, { mark := .short, frame := 3 }, { mark := .unused, frame := 9 }] })] }
     let c : Cmd := pkt 0 []
     let f : Fields := nums ((encWords.set 14 9).set 10 1)
     let k := 1
     decide (f.length = 16 ∧ (ctxOf s c.ctx).st = .active ∧ k ≠ c.ctx)) &&
    (let s : State := dec2
     let c : Nat := 1
     let u := flush c s
     let r := { fr with ctx := 1, decode := true, unshown := true }
     decide (tablesHold s = true ∧ r ∈ u.camp.frames ∧ r.ctx = c)) &&
    (let s : State := dec2
     let c : Nat := 1
     let k := 0
     decide (tablesHold s = true ∧ k ≠ c)) &&
    (let tg : Nat := 1000
     let l : List (Nat × Nat × Nat) := [(1, 100, 300), (3, 200, 2000), (2, 0, 100)]
     let p := ((shares tg l).zip l).headD (0, 0, 0, 0)
     decide ((∀ x ∈ l, x.2.1 ≤ x.2.2) ∧ p ∈ (shares tg l).zip l)) := by
  decide +kernel

end ContextCommands

namespace ContextReads

theorem test_met_ContextReads :
    (let s : State := { enc0 with groups := [(0, some { f := [0, 100000, 100, 0], xg := 1, fg := 2, tg := 3, late := 4 })] }
     let c : Cmd := dev [0]
     let f : Fields := fieldsOf opReadGroupStatus c s
     let g := { f := [0, 100000, 100, 0], xg := 1, fg := 2, tg := 3, late := 4 }
     decide (passes opReadGroupStatus c s = true ∧ groupD s (fnat f 1) = some g)) &&
    (let s : State := dec1
     let c : Cmd := pkt 255 []
     let x := ctxOf s c.ctx
     decide (passes opReadDecodeStatus c s = true ∧ x.st = .closed)) &&
    (let s : State := dec1
     let c : Cmd := pkt 1 []
     let x := ctxOf s c.ctx
     decide (passes opReadDecodeStatus c s = true ∧ x.st ≠ .closed)) &&
    (let s : State := enc0
     let c : Cmd := pkt 255 []
     let x := ctxOf s c.ctx
     decide (passes opReadContextStatus c s = true ∧ x.st = .closed)) &&
    (let s : State := enc0
     let c : Cmd := pkt 0 []
     let x := ctxOf s c.ctx
     decide (passes opReadContextStatus c s = true ∧ x.st ≠ .closed)) := by
  decide +kernel

end ContextReads

namespace FramesBind

def unb : FrameRec := { ctx := 0, frame := 59940, bottom := false, decode := false, irap := true, released := true, cf := nums encWords, ch := [400, 1, 1, -12, 51, 0], pics := [{ srcRows := 17 }] }
def bt : Task := { kind := .bind, ctx := 0, frame := 59940, bottom := false, row := 0, seg := 0 }
def campB (r : FrameRec) (l : List Task) : State := work { frames := [r], ready := l, spires := (List.range 16).map fun k => (k, { powered := true }) }

theorem test_met_FramesBind :
    (let s : State := campB unb [bt]
     let r := unb
     let k := 1
     let e := 0
     let till := none
     decide (tablesHold s = true ∧ nextBind s (bindOrder s) none = some (r, k, e, till))) &&
    (let s : State := campB unb []
     decide (tablesHold s = true ∧ nextBind s (bindOrder s) none = none)) &&
    (let s : State := campB unb [bt]
     let r := unb
     let l := []
     decide (tablesHold s = true ∧ bindOrder s = r :: l ∧ (r.decode = true → anyUrgent s = false) ∧ hasRoom s r (frameGeo s r) = true ∧ (frameGang s r).1 ≤ (freeSpires s).length)) := by
  decide +kernel

end FramesBind

namespace EnginesStart

def domeTask : Task := { segTask with kind := .dome }
def dome0 : Dome := { bound := some (0, 59940, false), df := 1, row := some 0 }
def coding : FrameRec := { fr with done := [(0, 0)], recs := [(0, 0, 9600, 6000)], pendBins := 6000, staged := 9600, domes := [0] }
def allSegs : List (Nat × Nat) := (List.range 17).flatMap fun r => (List.range 8).map fun s => (r, s)
def vvc : State := { enc0 with ctxs := [(0, { encCtx with fits := [(59939, []), (59940, [(1, 2, [])])] })] }

theorem test_met_EnginesStart :
    (let s : State := work (campOf fr [segTask] spire0 {})
     let i := 0
     let c := 0
     let n := 59940
     let b := false
     let r := fr
     let row := 0
     let seg := 0
     let l := (unstarted s fr (frameGeo s fr) 0).drop 1
     let t := segTask
     decide (tablesHold s = true ∧ i < 16 ∧ (tget {} s.camp.spires i).bound = some (c, n, b) ∧ (tget {} s.camp.spires i).run = none ∧ (tget {} s.camp.spires i).waiting = none ∧ frameOf s c n b = some r ∧ unstarted s r (frameGeo s r) (tget {} s.camp.spires i).member = (row, seg) :: l ∧ readySeg s r [.seg, .dseg] (row, seg) = some t)) &&
    (let s : State := work (campOf { fr with done := allSegs } [] spire0 {})
     let i := 0
     let c := 0
     let n := 59940
     let b := false
     let r := { fr with done := allSegs }
     decide (tablesHold s = true ∧ i < 16 ∧ (tget {} s.camp.spires i).bound = some (c, n, b) ∧ (tget {} s.camp.spires i).run = none ∧ (tget {} s.camp.spires i).waiting = none ∧ frameOf s c n b = some r ∧ unstarted s r (frameGeo s r) (tget {} s.camp.spires i).member = [])) &&
    (let s : State := work (campOf coding [domeTask] spire0 dome0)
     let d := 0
     let c := 0
     let n := 59940
     let b := false
     let r := coding
     let row := 0
     let t := domeTask
     decide (tablesHold s = true ∧ (tget {} s.camp.domes d).bound = some (c, n, b) ∧ (tget {} s.camp.domes d).run = none ∧ (tget {} s.camp.domes d).row = some row ∧ frameOf s c n b = some r ∧ readySeg s r [.dome, .dparse] (row, (r.coded.filter (·.1 = row)).length) = some t)) &&
    (let s : State := work (campOf { coding with domes := [] } [domeTask] spire0 {})
     let r := { coding with domes := [] }
     decide (tablesHold s = true ∧ (domeOrder s).find? (wantsDomes s) = some r ∧ domesFor r.k ≤ (freeDomes s).length)) &&
    (let s : State := vvc
     decide (tablesHold s = true ∧ (ctxOf s 0).fits.find? (fun p => p.1 = 59940) = some (59940, [(1, 2, [])]))) &&
    (let s : State := up
     let i := 15
     decide (tablesHold s = true ∧ i < profileSpires s s.watch.profile ∧ s.dev.state ≠ .off ∧ s.dev.state ≠ .boot ∧ s.dev.state ≠ .safe)) := by
  decide +kernel

end EnginesStart

namespace SegmentsEnd

def ctu0 : CtuRec :=
  { row := 0, col := 0, qp := 30, level := 0, floor := false, intra := false, recoded := false, bins := 500, bits := 4000, dist := 0
    actNum := 0, actDen := 1, mvs := [], edge := [], sao := 0, alf := false, tokens := [], before := [], after := [] }
def dome0 : Dome := { bound := some (0, 59940, false), df := 1, row := some 0, run := some (0, 0) }
def coding : FrameRec := { fr with done := [(0, 0)], recs := [(0, 0, 9600, 6000)], pendBins := 6000, staged := 9600, domes := [0] }
def full : FrameRec := { fr with staged := 4194304 }
def stuffed (x : Spire) : State := work { (campOf full [] x {}) with frames := [full, { fr with ctx := 3, staged := 100000000 }] }
def busy (u : Run) (w : Option SegWait) : Spire := { spire0 with run := some u, waiting := w }
/-- Spire 0 runs `u` of frame `r`. -/
def runsOn (s : State) (u : Run) (r : FrameRec) : Bool :=
  tablesHold s && decide ((tget {} s.camp.spires 0).run = some u ∧ frameOf s u.ctx u.frame u.bottom = some r)

theorem test_met_SegmentsEnd :
    (let u := seg0
     let s := work (campOf fr [] (busy u none) {})
     runsOn s u fr && decide ((tget {} s.camp.spires 0).waiting = none)) &&
    (let u := { seg0 with decode := true }
     let s := work (campOf fr [] (busy u none) {})
     runsOn s u fr && decide ((tget {} s.camp.spires 0).waiting = none ∧ u.decode = true)) &&
    (let u := { seg0 with level := 5 }
     let s := work (campOf fr [] (busy u none) {})
     runsOn s u fr && decide ((tget {} s.camp.spires 0).waiting = none ∧ u.decode = false ∧ u.level = 5)) &&
    (let u := { seg0 with floor := true }
     let s := work (campOf fr [] (busy u none) {})
     runsOn s u fr && decide ((tget {} s.camp.spires 0).waiting = none ∧ u.decode = false ∧ u.floor = true)) &&
    (let w := { left := [], memwait := 0 }
     let s := work (campOf fr [] (busy seg0 (some w)) {})
     runsOn s seg0 fr && decide ((tget {} s.camp.spires 0).waiting = some w ∧ w.left = [])) &&
    (let w := { left := [ctu0], memwait := 0 }
     let s := work (campOf fr [] (busy seg0 (some w)) {})
     runsOn s seg0 fr && decide ((tget {} s.camp.spires 0).waiting = some w ∧ w.left = [ctu0] ∧ mustWait s seg0 ctu0 = false)) &&
    (let w := { left := [ctu0, ctu0], memwait := 0 }
     let s := stuffed (busy seg0 (some w))
     runsOn s seg0 full && decide ((tget {} s.camp.spires 0).waiting = some w ∧ w.left = ctu0 :: [ctu0] ∧ mustWait s seg0 ctu0 = true)) &&
    (let s : State := work (campOf coding [] spire0 dome0)
     decide (tablesHold s = true ∧ (tget {} s.camp.domes 0).bound = some (0, 59940, false) ∧
       (tget {} s.camp.domes 0).run = some (0, 0) ∧ frameOf s 0 59940 false = some coding ∧ coding.decode = false)) := by
  decide +kernel

end SegmentsEnd

namespace FramesLeave

def closeTask : Task := { segTask with kind := .close }
def done' : FrameRec := { fr with domes := [0, 3], done := [(0, 0)], coded := [(0, 0)], bits := 500000 }
def dcamp (ns : Nat) : State := { dec1 with camp := { frames := [{ fr with ctx := 1, decode := true, bound := false, frame := 59940, released := false, cf := [] }] }, bel := { dec1.bel with clock := clockOf ns 0 } }

def egress0 : Fields := [1, 1, 0, 0, 0, 0, 0xEF000001]
def sends : State :=
  let s := work (campOf done' [closeTask] { powered := true } { bound := some (0, 59940, false) })
  { s with flows := { s.flows with egress := [(3, some { f := egress0 })] } }
def late (ns : Nat) : State :=
  let s := work { frames := [{ fr with bound := false }], spires := [(0, { powered := true })] }
  { s with bel := { s.bel with clock := clockOf ns 0 } }

theorem test_met_FramesLeave :
    (let s := sends
     let r := done'
     let e : EFlow := { f := egress0 }
     decide (tablesHold s = true ∧ (s.camp.ready.find? (fun t => t.kind = .close && t.ctx = 0 && t.frame = 59940) = some closeTask) ∧
       taskFrame s closeTask = some r ∧ r.decode = false ∧ r.pics ≠ [] ∧ r.launch = some 1000032366667 ∧
       tget none s.flows.egress 3 = some e ∧ fnat e.f 1 = 1 ∧ fnat e.f 2 = 1 ∧ fnat e.f 5 = 0)) &&
    (let s := dcamp 1000066733333
     let r := s.camp.frames.headD fr
     let s := { s with camp := { s.camp with ready := [{ closeTask with ctx := 1 }] } }
     decide (tablesHold s = true ∧ (s.camp.ready.find? (fun t => t.kind = .close && t.ctx = 1 && t.frame = 59940) = some { closeTask with ctx := 1 }) ∧
       taskFrame s { closeTask with ctx := 1 } = some r ∧ r.decode = true ∧ (∀ u ∈ (ctxOf s 1).units, u.task = true))) &&
    (let s := late 1000066733333
     decide (tablesHold s = true) && s.camp.frames.any fun q =>
       decide (q.ctx = 0 ∧ q.frame = 59940 ∧ q.decode = false ∧ q.bound = false ∧ q.urgent = false ∧ latestBind s q ≤ frameNow s q ∧
         launchOf s q - guardNs q ≤ frameNow s q)) &&
    (let s : State := dcamp 1000066733333
     let c : Nat := 1
     let n : Nat := 59940
     let r := s.camp.frames.headD fr
     decide (tablesHold s = true ∧ r ∈ s.camp.frames ∧ r.ctx = c ∧ r.frame = n ∧ r.decode = true ∧ r.bound = false ∧
       latestBind s r ≤ frameNow s r ∧ (ctxOf s c).st = .active ∧ (∀ u ∈ (ctxOf s c).units, u.task = true))) := by
  decide +kernel

end FramesLeave

namespace UnitsAreDecoded

def uh : UnitHead := headZero
def ue : UnitEnd := { endZero with info := { infoOk with dpb := 2 } }
def decX (x : Ctx) (s : State) : State := modCtx 1 (fun _ => x) s
def dx : Ctx := { st := .active, decode := true, f := nums (decWords.set 9 1), pool := resize 6 [] }
def ur : FrameRec := { ctx := 1, frame := 59942, bottom := false, decode := true, irap := true, bound := false, cf := nums decWords }
def ub : FrameRec := { ctx := 1, frame := 59940, bottom := false, decode := true, irap := true, bound := true, released := true, pics := [{ buf := 0 }], tS := 1000016880000, cf := nums decWords }
def dsp : Task := { kind := .dparse, ctx := 1, frame := 59940, bottom := false, row := 0, seg := 0 }

theorem test_met_UnitsAreDecoded :
    (let s : State := decX dx dec1
     let c : Nat := 1
     let x := ctxOf s c
     let u : UnitHead := { uh with irap := false }
     decide (tablesHold s = true ∧ (ctxOf s c).decode = true ∧ (ctxOf s c).st = .active ∧ x.synced = false ∧ u.irap = false ∧ u.gdrStart = false)) &&
    (let s : State := decX { dx with f := nums (decWords.set 8 0) } dec1
     let c : Nat := 1
     let x := ctxOf s c
     let u : UnitHead := { uh with stamp := 89910000 }
     let n := (showSlot s x u).toNat
     let late := latestBind s (decodeRec x c n u) < frameNow s (decodeRec x c n u) ∨
        countNow s (tbD s x.tb) + fld x.f 11 + 8 < showSlot s x u
     decide (tablesHold s = true ∧ (ctxOf s c).decode = true ∧ (ctxOf s c).st = .active ∧ (x.synced = true ∨ u.irap = true ∨ u.gdrStart = true) ∧ late)) &&
    (let s : State := decX { dx with slots := [(59942, false)] } dec1
     let c : Nat := 1
     let x := ctxOf s c
     let u : UnitHead := uh
     let n := (showSlot s x u).toNat
     let late := latestBind s (decodeRec x c n u) < frameNow s (decodeRec x c n u) ∨
        countNow s (tbD s x.tb) + fld x.f 11 + 8 < showSlot s x u
     decide (tablesHold s = true ∧ (ctxOf s c).decode = true ∧ (ctxOf s c).st = .active ∧ (x.synced = true ∨ u.irap = true ∨ u.gdrStart = true) ∧ (¬ late) ∧ (n, u.bottom) ∈ x.slots)) &&
    (let s : State := decX dx dec1
     let c : Nat := 1
     let x := ctxOf s c
     let u : UnitHead := uh
     let n := (showSlot s x u).toNat
     let late := latestBind s (decodeRec x c n u) < frameNow s (decodeRec x c n u) ∨
        countNow s (tbD s x.tb) + fld x.f 11 + 8 < showSlot s x u
     decide (tablesHold s = true ∧ (ctxOf s c).decode = true ∧ (ctxOf s c).st = .active ∧ (x.synced = true ∨ u.irap = true ∨ u.gdrStart = true) ∧ (¬ late) ∧ (n, u.bottom) ∉ x.slots ∧ (∀ v ∈ x.units, v.ended = none))) := by
  decide +kernel

theorem test_met_UnitsAreDecoded_released :
    (let s : State := (fun t => { t with camp := { frames := [ur] } }) (decX { dx with units := [{ head := uh, slot := 59942, task := true }] } dec1)
     let c : Nat := 1
     let x := ctxOf s c
     let n := 59942
     let b := false
     let e := ue
     let u := { head := uh, slot := 59942, task := true }
     let r := ur
     let i := 0
     decide (tablesHold s = true ∧ (ctxOf s c).decode = true ∧ (ctxOf s c).st = .active ∧ unitIn x n b = some u ∧ frameOf s c n b = some r ∧ r.released = false ∧ e.truncated = false ∧ (∀ v ∈ x.units, v.task = true) ∧ (e.headers = true ∧ e.sets = true ∧ accepted (ctxGeo s x) x.f u.head.irap e.info = true) ∧ u.head.irap = true ∧ allocBuf (streamMarks s.tick u.head x) (poolSize s x) = some i)) &&
    (let s : State := (fun t => { t with camp := { frames := [ur] }, bel := { t.bel with clock := { sec := 1000, ns := 40000000, frac := 0 } } }) (decX { dx with units := [{ head := uh, slot := 59942, task := true }] } dec1)
     let c : Nat := 1
     let x := ctxOf s c
     let n := 59942
     let b := false
     let e := ue
     let u := { head := uh, slot := 59942, task := true }
     let r := ur
     let i := 0
     decide (tablesHold s = true ∧ (ctxOf s c).decode = true ∧ (ctxOf s c).st = .active ∧ unitIn x n b = some u ∧ frameOf s c n b = some r ∧ r.released = false ∧ e.truncated = false ∧ (∀ v ∈ x.units, v.task = true) ∧ (e.headers = true ∧ e.sets = true ∧ accepted (ctxGeo s x) x.f u.head.irap e.info = true) ∧ u.head.irap = true ∧ allocBuf (streamMarks s.tick u.head x) (poolSize s x) = some i ∧ latestBind s r ≤ frameNow s r)) &&
    (let s : State := (fun t => { t with camp := { frames := [ur] }, bel := { t.bel with clock := { sec := 1000, ns := 40000000, frac := 0 } } }) (decX { dx with units := [{ head := uh, slot := 59942, task := true }] } dec1)
     let x := ctxOf s 1
     let e := { ue with info := { infoOk with changed := true, reorder := 1 } }
     let u := { head := uh, slot := 59942, task := true }
     decide (tablesHold s = true ∧ x.decode = true ∧ x.st = .active ∧ unitIn x 59942 false = some u ∧ frameOf s 1 59942 false = some ur ∧
       ur.released = false ∧ e.truncated = false ∧ (∀ v ∈ x.units, v.task = true) ∧
       latestBind s ur ≤ frameNow s ur) &&
     !(e.headers && e.sets && accepted (ctxGeo s x) x.f u.head.irap e.info)) &&
    (let s : State := (fun t => { t with camp := { frames := [ub], ready := [dsp], spires := [(0, { powered := true, bound := some (1, 59940, false) })] }, bel := { t.bel with clock := { sec := 1000, ns := 40000000, frac := 0 } } }) (decX { dx with units := [{ head := uh, slot := 59940, task := true }], slots := [(59940, false)] } dec1)
     let c : Nat := 1
     let n := 59940
     let b := false
     let r := ub
     decide (tablesHold s = true ∧ (ctxOf s c).decode = true ∧ (ctxOf s c).st = .active ∧ frameOf s c n b = some r ∧ r.decode = true ∧ r.bound = true ∧ r.incomplete = false ∧ r.done.length ≠ (frameGeo s r).rows * (frameGeo s r).segs ∧ r.tS ≤ frameNow s r)) := by
  decide +kernel

end UnitsAreDecoded

namespace CompositionCommands

def x0 : Comp := { f := [0, 0, 0, 64, 512, 512, 0], space := 0 }
def afl : State := { audio3 with flows := { audio3.flows with ingress := tmod none audio3.flows.ingress 3 (fun x => x.map fun y => { y with bind := some (1, 0, 0) }) } }
def aflx : IFlow := (iflowOf afl 3).getD { f := [], polA := policer0, polB := policer0 }

theorem test_met_CompositionCommands :
    (let s : State := comp0
     let c : Nat := 2
     decide (compOf s c = none ∧ s.keep.persist = [])) &&
    (let s : State := enc0
     let c : Nat := 0
     let x := x0
     decide (compOf s c = some x)) &&
    (let s : State := enc0
     let c : Nat := 0
     let k := 1
     decide (s.keep.persist = [] ∧ k ≠ c)) &&
    (let s : State := enc0
     let c : Nat := 0
     let k := 1
     decide (tablesHold s = true ∧ k ≠ c)) &&
    (let s : State := afl
     let c : Nat := 0
     let u := unbindComp c { s with cup := { s.cup with comps := tset none s.cup.comps c none } }
     let i := 3
     let x := aflx
     let b := (1, 0, 0)
     decide (tablesHold s = true ∧ iflowOf u i = some x ∧ x.bind = some b)) &&
    (let s : State := net
     let c : Nat := 0
     let x : Comp := x0
     decide (compOf s c = some x)) &&
    (let s : State := art
     let c : Cmd := pkt 0 []
     let x : Comp := x0
     decide (compOf s c.ctx = some x)) := by
  decide +kernel

end CompositionCommands

namespace AssetCommands

def a1 : Asset := { kind := 0, width := 16, height := 16, frames := 1, crc := 0, addr := 4096, size := 8 }
def a1g : Asset := { a1 with crc := polyOf 1 (memRead art 4096 8) }
def artG : State := { art with cup := { art.cup with assets := tset none art.cup.assets 1 (some a1g) } }
def artS : State := { art with cup := { art.cup with assets := tset none art.cup.assets 1 (some a1) } }

theorem test_met_AssetCommands :
    (let s : State := artS
     let c : Cmd := dev [1, 4, 4, 7]
     let a := a1
     let f : Fields := fieldsOf opWriteAssetChunk c s
     decide (passes opWriteAssetChunk c s = true ∧ assetOf s (fnat f 1) = some a)) &&
    (let s : State := artS
     let c : Cmd := dev [1]
     decide (passes opCommitAsset c s = true)) &&
    (let s : State := artG
     let f : Fields := [1]
     let a := a1g
     let i := 0
     decide (assetOf s (fnat f 1) = some a ∧ polyOf 1 (memRead s a.addr a.size) = a.crc ∧ i ≠ fnat f 1)) &&
    (let s : State := artS
     let f : Fields := [1]
     let a := a1
     decide (assetOf s (fnat f 1) = some a ∧ polyOf 1 (memRead s a.addr a.size) ≠ a.crc)) &&
    (let s : State := artS
     let c : Cmd := pkt 9 []
     decide (passes opReadCompositionStatus c s = true ∧ compOf s c.ctx = none)) &&
    (let s : State := artS
     let c : Cmd := pkt 0 []
     let x := ({ f := [0, 0, 0, 64, 512, 512, 0], space := 0 } : Comp)
     decide (passes opReadCompositionStatus c s = true ∧ compOf s c.ctx = some x)) := by
  decide +kernel

end AssetCommands

namespace LanternCommands

def pers0 : Persist := { comp := 1, item := 2, f := [], width := 16, height := 16, bytes := [], ok := true }
def m1 : LImage := { width := 2, height := 2, crc := 0 }
def m1g : LImage := { m1 with crc := polyOf 1 (copyRead [] 0 20) }
def m1c : LImage := commitImage m1g
def badIm (a b : Bool) : LImage := { m1c with crcA := if a then m1c.crcA else [1], crcB := if b then m1c.crcB else [1] }
def lan (m : LImage) : State := { art with cup := { art.cup with images := [(1, some m)] } }

theorem test_met_LanternCommands :
    (let s : State := art
     let c : Cmd := pkt 0 []
     let f : Fields := [3, 1, 0, 16, 16, 0, 0, 0, 1023, 1]
     let x : Comp := ({ f := [0, 0, 0, 64, 512, 512, 0], space := 0 } : Comp)
     let m := ({ width := 16, height := 16, crc := 0, committed := true } : LImage)
     decide (compOf s c.ctx = some x ∧ imageOf s (fnat f 3) = some m)) &&
    (let s : State := art
     let c : Cmd := pkt 0 []
     let f : Fields := [3, 1, 0, 16, 16, 0, 0, 0, 1023, 1]
     let x : Comp := ({ f := [0, 0, 0, 64, 512, 512, 0], space := 0 } : Comp)
     let p := pers0
     decide (compOf s c.ctx = some x ∧ (¬ (p.comp = c.ctx ∧ p.item = fnat f 1)))) &&
    (let s : State := art
     let c : Cmd := dev [1]
     decide (passes opCommitLanternImage c s = true)) &&
    (let s : State := lan m1g
     let f : Fields := [1]
     let m := m1g
     let k := 0
     decide (imageOf s (fnat f 1) = some m ∧ polyOf 1 (copyRead m.a 0 (m.width * m.height * 5)) = m.crc ∧ k < m.tiles)) &&
    (let s : State := lan m1
     let f : Fields := [1]
     let m := m1
     decide (imageOf s (fnat f 1) = some m ∧ polyOf 1 (copyRead m.a 0 (m.width * m.height * 5)) ≠ m.crc)) &&
    (let s : State := lan (badIm false true)
     let i : Nat := 1
     let k : Nat := 0
     let m : LImage := badIm false true
     decide (imageOf s i = some m ∧ m.committed = true ∧ k < m.tiles ∧ tileOkA m k = false ∧ tileOkB m k = true)) &&
    (let k : Nat := 0
     let m : LImage := badIm false true
     decide (k < m.tiles ∧ m.crcA.length = m.tiles ∧ tabWf 0#8 none m.a = true ∧ tileOkB m k = true)) &&
    (let s : State := lan m1c
     let i : Nat := 1
     let m : LImage := m1c
     decide (s.cup.images = [(i, some m)] ∧ m.committed = true ∧ m.tiles = 1 ∧ tileOkA m 0 = true ∧ tileOkB m 0 = true)) &&
    (let s : State := lan (badIm false true)
     let i : Nat := 1
     let m : LImage := badIm false true
     decide (s.cup.images = [(i, some m)] ∧ m.committed = true ∧ m.tiles = 1 ∧ tileOkA m 0 = false ∧ tileOkB m 0 = true)) &&
    (let s : State := lan (badIm true false)
     let i : Nat := 1
     let m : LImage := badIm true false
     decide (s.cup.images = [(i, some m)] ∧ m.committed = true ∧ m.tiles = 1 ∧ tileOkA m 0 = true ∧ tileOkB m 0 = false)) &&
    (let s : State := lan (badIm false false)
     let i : Nat := 1
     let m : LImage := badIm false false
     decide (s.cup.images = [(i, some m)] ∧ m.committed = true ∧ m.tiles = 1 ∧ tileOkA m 0 = false ∧ tileOkB m 0 = false)) &&
    (lan m1c).cup.images.all (fun p => match p.2 with
      | some m => decide (imageOf (lan m1c) p.1 = some m) && (List.range m.tiles).all (fun k => tileOkA m k && tileOkB m k)
      | none => false) := by
  decide +kernel

end LanternCommands

namespace CompositionEvents

def vl (src mode : Int) : VLayer := { f := [1, src, mode, 0, 0, 1920, 1080, 0, 0, 1920, 1080, 1023, 0, 0, 0, 0, 0, 0] }
def xc (rows : Nat) (l : VLayer) : Comp := { f := [0, 0, 0, 64, 512, 512, 0], space := 0, layers := [(3, some l)], cur := some 59940, rows := rows }
def ss (x : Comp) (ns : Nat) : State := (fun t => { t with cup := { t.cup with comps := [(0, some x)], sources := [(0x1000, some { format := 1, rate := 8, count := 7, at' := 3 })] }, camp := { frames := [{ fr with bound := false, pics := [{ srcRows := 0 }] }] }, bel := { t.bel with clock := clockOf (1000 * 1000000000 + ns) 0 } }) net

theorem test_met_CompositionEvents :
    (let s : State := ss (xc 3 (vl 0x1000 0)) 500000
     let c : Nat := 0
     let x : Comp := xc 3 (vl 0x1000 0)
     let n : Nat := 59940
     let g := geoTb s (fnat x.f 1)
     decide (compOf s c = some x ∧ x.cur = some n ∧ x.rows < g.rows)) &&
    (let s : State := ss (xc 17 (vl 0x1000 0)) 500000
     let c : Nat := 0
     let x : Comp := xc 17 (vl 0x1000 0)
     let n : Nat := 59940
     let g := geoTb s (fnat x.f 1)
     decide (compOf s c = some x ∧ x.cur = some n ∧ g.rows ≤ x.rows)) &&
    (let s : State := ss (xc 3 (vl 0x1000 0)) 500000
     let c : Nat := 0
     let x : Comp := xc 3 (vl 0x1000 0)
     let n : Nat := 59940
     let id := 0x1000
     let f := 1
     let r := 8
     let q := ({ format := 1, rate := 8, count := 7, at' := 3 } : Source)
     decide (compOf s c = some x ∧ x.cur = some n ∧ id ∈ ringSources s ∧ sourceOpen s id = true ∧ (0x1000 ≤ id → (laneOf s (sdiLane id)).trs = true) ∧ sourceShape s id = some (f, r) ∧ tget none s.cup.sources id = some q)) &&
    (let s : State := ss (xc 3 (vl 0x1000 0)) 500000
     let c : Nat := 0
     let x : Comp := xc 3 (vl 0x1000 0)
     let n : Nat := 59940
     let id := 0x1001
     decide (compOf s c = some x ∧ x.cur = some n ∧ id ∉ ringSources s)) &&
    (let s : State := ss (xc 3 (vl 0x1000 1)) 500000
     let c : Nat := 0
     let x : Comp := xc 3 (vl 0x1000 1)
     let n : Nat := 59940
     let i := 3
     let k := 100
     let l := vl 0x1000 1
     decide (compOf s c = some x ∧ x.cur = some n ∧ tget none x.layers i = some l ∧ fnat l.f 1 = 1 ∧ layerMode l = 1 ∧ l.missed = none ∧ fnat l.f 5 ≤ k ∧ k ≤ lastLine l ∧ inWindow s (fnat x.f 1) n (firstReach l k) = true)) &&
    (let s : State := ss (xc 3 (vl 0x1000 1)) 8000000
     let c : Nat := 0
     let x : Comp := xc 3 (vl 0x1000 1)
     let n : Nat := 59940
     let i := 3
     let k := 0
     let l := vl 0x1000 1
     decide (compOf s c = some x ∧ x.cur = some n ∧ tget none x.layers i = some l ∧ fnat l.f 1 = 1 ∧ layerMode l = 1 ∧ l.missed = none ∧ fnat l.f 5 ≤ k ∧ k ≤ lastLine l ∧ inWindow s (fnat x.f 1) n (firstReach l k) = false ∧ inWindow s (fnat x.f 1) (n + 1) (firstReach l k) = false)) &&
    (let s : State := ss (xc 3 (vl 0x1000 1)) 15600000
     let x : Comp := xc 3 (vl 0x1000 1)
     let l := vl 0x1000 1
     decide (compOf s 0 = some x ∧ tget none x.layers 3 = some l ∧ inWindow s (fnat x.f 1) 59940 (firstReach l 0) = false ∧
       inWindow s (fnat x.f 1) 59941 (firstReach l 0) = true)) := by
  decide +kernel

end CompositionEvents

namespace LaneCommands

def listL : List Host.Cell :=
  cellsWrite [] 0x1000 (leBytes 8 0 ++ leBytes 4 0x4000 ++ leBytes 4 3 ++ leBytes 8 0 ++ leBytes 4 64 ++ leBytes 4 0x100)
/-- Channel 0 runs with an element in media tile 0. -/
def dmaTile : State :=
  { net with
    mem := { net.mem with dram := listL }
    dma := { net.dma with chans := [(0, { holder := .firmware, f := [1, 0, 10000, 0, 0x1000, 0, 2, 1, 0, 0, 2, 0, 1, 0xFF, 0, 0, 0xFF], state := .running, inRun := true })] } }

theorem test_met_LaneCommands :
    (let s : State := net
     let c : Cmd := dev [0, 4, 1, 1, 1, 2, 2, 0]
     let f : Fields := fieldsOf opConfigureTurretLayout c s
     decide (passes opConfigureTurretLayout c s = true ∧ tablesHold s = true ∧ slice f 1 6 = layoutFields s (fnat f 1))) &&
    (let s : State := net
     let c : Cmd := dev [0, 2, 1, 1, 1, 2, 2, 0]
     let f : Fields := fieldsOf opConfigureTurretLayout c s
     decide (passes opConfigureTurretLayout c s = true ∧ tablesHold s = true ∧ slice f 1 6 ≠ layoutFields s (fnat f 1))) &&
    (let s : State := net
     let c : Cmd := dev [0, 1, 4, 0, 0, 1, 0]
     let f : Fields := fieldsOf opConfigureMediaLane c s
     decide (passes opConfigureMediaLane c s = true ∧ tablesHold s = true ∧ mediaPark f s = none ∧ mediaSame s f = true)) &&
    (let s : State := net
     let c : Cmd := dev [0, 0, 4, 0, 0, 1, 0]
     let f : Fields := fieldsOf opConfigureMediaLane c s
     decide (passes opConfigureMediaLane c s = true ∧ tablesHold s = true ∧ mediaPark f s = none ∧ mediaSame s f = false)) &&
    (let s : State := dmaTile
     let c : Cmd := dev [0, 0, 4, 0, 0, 1, 0]
     let f : Fields := fieldsOf opConfigureMediaLane c s
     decide (passes opConfigureMediaLane c s = true ∧ tablesHold s = true ∧ mediaPark f s = some 2)) := by
  decide +kernel

end LaneCommands

namespace PortsComeUp

def pt (ph : Phase) (la : Fields) (ln : Lane) : State := { net with lanes := { net.lanes with layoutA := la, ports := [(0, { phase := ph }), (8, { phase := .up })], lanes := ([0, 1, 2, 3].map fun i => (i, ln)).filter fun p => p.2 ≠ {} } }
def la1 : Fields := [4, 1, 1, 1, 2, 2]
def la4 : Fields := [2, 1, 0, 0, 2, 2]
def la0 : Fields := [4, 1, 0, 0, 2, 2]
def locked : Lane := { pll := true, tx := true, signal := true, cdr := true, block := true, am := true }

theorem test_met_PortsComeUp :
    (let s : State := pt .pll la1 {}
     let k : Nat := 0
     decide (tablesHold s = true ∧ portExists s k = true ∧ (∀ n ∈ portLanes s k, laneDiag (laneOf s n) = false) ∧ (k < 16 ∨ 32 ≤ k ∨ fnat (laneOf s k).media 1 = 3) ∧ (portOf s k).phase = .pll)) &&
    (let s : State := pt .pll la1 {}
     let k : Nat := 0
     let n := 0
     decide (tablesHold s = true ∧ portExists s k = true ∧ (∀ n ∈ portLanes s k, laneDiag (laneOf s n) = false) ∧ (k < 16 ∨ 32 ≤ k ∨ fnat (laneOf s k).media 1 = 3) ∧ (portOf s k).phase = .pll ∧ n ∈ portLanes s k)) &&
    (let s : State := pt .autoneg la1 {}
     let k : Nat := 0
     decide (tablesHold s = true ∧ portExists s k = true ∧ (∀ n ∈ portLanes s k, laneDiag (laneOf s n) = false) ∧ (portOf s k).phase = .autoneg)) &&
    (let s : State := pt .training la1 {}
     let k : Nat := 0
     decide (tablesHold s = true ∧ portExists s k = true ∧ (∀ n ∈ portLanes s k, laneDiag (laneOf s n) = false) ∧ (portOf s k).phase = .training)) &&
    (let s : State := pt .locking la0 {}
     let k : Nat := 0
     let n := 0
     decide (tablesHold s = true ∧ portExists s k = true ∧ (∀ n ∈ portLanes s k, laneDiag (laneOf s n) = false) ∧ portKey s n = k ∧ n ∈ portLanes s k ∧ ((portOf s k).phase = .locking ∨ (portOf s k).phase = .relock) ∧ (∀ m ∈ portLanes s k, m = n ∨ laneLocked s m = true) ∧ lockSeen s n { headers := List.replicate 64 1, markers := 2, pcs := 0 } = true)) &&
    (let s : State := pt .locking la4 {}
     let k : Nat := 0
     let n := 2
     decide (tablesHold s = true ∧ portExists s k = true ∧ (∀ n ∈ portLanes s k, laneDiag (laneOf s n) = false) ∧ portKey s n = k ∧ n ∈ portLanes s k ∧ ((portOf s k).phase = .locking ∨ (portOf s k).phase = .relock) ∧ (∃ m ∈ portLanes s k, m ≠ n ∧ laneLocked s m = false) ∧ lockSeen s n { headers := List.replicate 64 1, markers := 2, pcs := 0 } = true)) &&
    (let s : State := pt .locking la4 {}
     let k : Nat := 0
     let n := 3
     decide (tablesHold s = true ∧ portExists s k = true ∧ (∀ n ∈ portLanes s k, laneDiag (laneOf s n) = false) ∧ portKey s n = k ∧ n ∈ portLanes s k ∧ ((portOf s k).phase = .locking ∨ (portOf s k).phase = .relock) ∧ lockSeen s n { headers := List.replicate 63 1, markers := 1, pcs := 0 } = false)) &&
    (let s : State := pt .deskew la4 locked
     let k : Nat := 0
     let l : List Nat := [5000, 180000, 0, 3]
     decide (tablesHold s = true ∧ portExists s k = true ∧ (∀ n ∈ portLanes s k, laneDiag (laneOf s n) = false) ∧ (portOf s k).phase = .deskew ∧ l.length = (portLanes s k).length ∧ (∀ a ∈ l, l.foldl max 0 - a ≤ 180000))) &&
    (let s : State := pt .deskew la4 locked
     let k : Nat := 0
     let l : List Nat := [5000, 180001, 0, 3]
     decide (tablesHold s = true ∧ portExists s k = true ∧ (∀ n ∈ portLanes s k, laneDiag (laneOf s n) = false) ∧ (portOf s k).phase = .deskew ∧ l.length = (portLanes s k).length ∧ (∃ a ∈ l, 180000 < l.foldl max 0 - a))) &&
    (let s : State := pt .wait la4 locked
     let k : Nat := 0
     decide (tablesHold s = true ∧ portExists s k = true ∧ (∀ n ∈ portLanes s k, laneDiag (laneOf s n) = false) ∧ (portOf s k).phase = .wait)) &&
    (let s : State := pt .locking la4 { locked with am := false }
     let k : Nat := 0
     decide (tablesHold s = true ∧ portExists s k = true ∧ (∀ n ∈ portLanes s k, laneDiag (laneOf s n) = false) ∧ (portOf s k).phase = .locking)) &&
    (let s : State := pt .pll la4 {}
     let k : Nat := 0
     let n := 2
     decide (tablesHold s = true ∧ portExists s k = true ∧ (∀ n ∈ portLanes s k, laneDiag (laneOf s n) = false) ∧ n < 32 ∧ (laneOf s n).signal = false ∧ portKey s n = k ∧ (portOf s k).phase ≠ .wait)) &&
    (let s : State := { (pt .wait la4 { signal := true }) with lanes := { (pt .wait la4 { signal := true }).lanes with lanes := [(0, { signal := true }), (1, { signal := true }), (2, { signal := true })] } }
     let k : Nat := 0
     let n := 3
     decide (tablesHold s = true ∧ portExists s k = true ∧ (∀ n ∈ portLanes s k, laneDiag (laneOf s n) = false) ∧ n < 32 ∧ (laneOf s n).signal = false ∧ portKey s n = k ∧ n ∈ portLanes s k ∧ (portOf s k).phase = .wait ∧ (∀ m ∈ portLanes s k, m = n ∨ (laneOf s m).signal = true))) &&
    (let s : State := pt .training la1 { train := 1, taps := [-5, 48, -10, 800] }
     let k : Nat := 0
     let n := 0
     let tap := 0
     let up := false
     let new := fset (laneOf s n).taps (tap + 1) (fld (laneOf s n).taps (tap + 1) + if up then 1 else -1)
     decide (tablesHold s = true ∧ portExists s k = true ∧ (∀ n ∈ portLanes s k, laneDiag (laneOf s n) = false) ∧ (laneOf s n).train = 1 ∧ tap ≤ 2 ∧ tapsOk new = true)) &&
    (let s : State := pt .training la1 { train := 1, taps := [-6, 48, -10, 800] }
     let k : Nat := 0
     let n := 0
     let tap := 1
     let up := true
     let new := fset (laneOf s n).taps (tap + 1) (fld (laneOf s n).taps (tap + 1) + if up then 1 else -1)
     decide (tablesHold s = true ∧ portExists s k = true ∧ (∀ n ∈ portLanes s k, laneDiag (laneOf s n) = false) ∧ (laneOf s n).train = 1 ∧ tap ≤ 2 ∧ tapsOk new = false)) &&
    (let s : State := pt .up la4 locked
     let n := 2
     let k := .marker 4
     decide (tablesHold s = true ∧ n < 32 ∧ lossReal k = true ∧ lossReal (.marker 3) = false ∧ laneLocked (modLane n (loseLane k) s) n = false ∧ (portOf s (portKey s n)).phase = .up)) &&
    (let s : State := pt .relock la0 locked
     let n := 0
     decide (tablesHold s = true ∧ n < 32 ∧ (portOf s (portKey s n)).phase ≠ .up ∧ (portOf s (portKey s n)).phase ≠ .deskew ∧ lossReal (.block (List.replicate 16 0)) = true)) &&
    (let s : State := pt .relock la4 locked
     let k := 0
     decide (tablesHold s = true ∧ portExists s k = true ∧ (∀ n ∈ portLanes s k, laneDiag (laneOf s n) = false) ∧ (portOf s k).phase = .relock)) &&
    (let s : State := pt .up la4 locked
     let n := 3
     decide (tablesHold s = true ∧ portExists s (portKey s n) = true ∧ portFec s (portKey s n) = true ∧ (laneOf s n).am = true ∧ portKey s n < 16 ∧ fecCorrects (portNrz s (portKey s n)) < 16 ∧ 7 ≤ fecCorrects (portNrz s (portKey s n)))) &&
    (let s : State := { (pt .up la4 locked) with lanes := { (pt .up la4 locked).lanes with source := 1, refclk := false } }
     decide (tablesHold s = true ∧ s.lanes.source = 1 ∧ s.lanes.refclk = false)) &&
    (let s : State := pt .up la4 locked
     decide (tablesHold s = true ∧ s.lanes.source = 0)) := by
  decide +kernel

end PortsComeUp

namespace SdiLanes

def sd (ln : Lane) : State := { net with lanes := { net.lanes with lanes := [(16, ln)] } }
def quad (b : Bool) : State := { net with lanes := { net.lanes with lanes := [(16, { media := [1, 5, 0, 0, 1, 0], trs := true, whole := b }), (17, { media := [1, 5, 0, 0, 1, 0], trs := true }), (18, { media := [1, 5, 0, 0, 1, 0], trs := true }), (19, { media := [1, 5, 0, 0, 1, 0], trs := true })] } }
def lnIn : Lane := { media := [1, 4, 0, 0, 1, 0], pll := true, signal := true, cdr := true, trs := true, format := 1, rate := 8 }
def lnOut : Lane := { media := [2, 1, 0, 0, 1, 0], pll := true, tx := true }
def outS (ln : Lane) : State := { (sd ln) with cup := { net.cup with comps := [(0, some { f := [0, 0, 0, 64, 512, 512, 0], space := 0, cur := some 59940, rows := 17 })] } }

theorem test_met_SdiLanes :
    (let s : State := sd { media := [1, 4, 0, 0, 1, 0] }
     let m : Nat := 0
     let l := laneOf s (16 + m)
     let f := 3
     let r := 8
     decide (m < 16 ∧ sdiIn s (16 + m) = true ∧ classCarries (fnat l.media 2) f r = true)) &&
    (let s : State := sd { lnIn with trs := false }
     let m : Nat := 0
     let l := laneOf s (16 + m)
     decide (m < 16 ∧ l.trs = false)) &&
    (let s : State := sd lnIn
     decide ((laneOf s 16).trs = true)) &&
    (let s : State := sd lnIn
     let m : Nat := 0
     let l := laneOf s (16 + m)
     decide (m < 16 ∧ quadOf s m = false ∧ sdiIn s (16 + m) = true ∧ l.trs = true)) &&
    (let s : State := quad true
     let m : Nat := 0
     let skew := 16001
     decide (m < 16 ∧ quadOf s m = true ∧ m % 4 = 0 ∧ (∀ j ∈ List.range 4, sdiIn s (16 + m + j) = true ∧ (laneOf s (16 + m + j)).trs = true) ∧ 16000 < skew)) &&
    (let s : State := outS lnOut
     let m : Nat := 0
     let l := laneOf s (16 + m)
     let x := ({ f := [0, 0, 0, 64, 512, 512, 0], space := 0, cur := some 59940, rows := 17 } : Comp)
     let n := sdiFrameNow s x (fnat l.media 4)
     decide (m < 16 ∧ compOf s (fnat l.media 3) = some x ∧ fnat l.media 1 = 2 ∧ laneDiag l = false ∧ l.tx = true ∧ quadOf s m = false ∧ 0 ≤ n ∧ l.sent ≠ some n.toNat ∧ (tbD s (fnat x.f 1)).stretch = 0)) &&
    (let s : State := outS { lnOut with sent := some 59939 }
     let m : Nat := 0
     let l := laneOf s (16 + m)
     let x := ({ f := [0, 0, 0, 64, 512, 512, 0], space := 0, cur := some 59940, rows := 17 } : Comp)
     let n := sdiFrameNow s x (fnat l.media 4)
     decide (m < 16 ∧ compOf s (fnat l.media 3) = some x ∧ fnat l.media 1 = 2 ∧ laneDiag l = false ∧ l.tx = true ∧ quadOf s m = false ∧ l.sent = some n.toNat)) := by
  decide +kernel

end SdiLanes

namespace FlowCommands

def uq (nx : Nat) : EgUnit := { frame := 59940, bottom := false, launch := 1000032366667, lens := List.replicate 40 1316, next := nx, bytes := 50000, stamp := 7, f := (nums eflowWords).tail }
def eg (us : List EgUnit) (f : Fields) : State := { eflow0 with flows := { eflow0.flows with egress := [(0, some { f := f, units := us, seq := 9, started := true, counts := [5, 0, 0, 0, 0, 0] })] } }
def started1 : State := { net with flows := { net.flows with ingress := [(1, some { f := (nums (codedFlow 1)).tail, polA := policer0, polB := policer0, started := true, released := 70000, top := 70004, held := [(70004, 5)] })] } }

theorem test_met_FlowCommands :
    (let f : Fields := nums (codedFlow 1)
     let i := 2
     decide (i ≠ fnat f 1)) &&
    (let f : Fields := nums eflowWords
     let i := 2
     decide (i ≠ fnat f 1)) &&
    (let s : State := eg [uq 3, uq 0] (nums eflowWords).tail
     let f : Fields := [1]
     let i := 0
     decide (tablesHold s = true ∧ i ≠ fnat f 1)) &&
    (let s : State := eg [uq 3, uq 0] (nums eflowWords).tail
     let f : Fields := [0]
     let q := ({ f := (nums eflowWords).tail, units := [uq 3, uq 0], seq := 9, started := true, counts := [5, 0, 0, 0, 0, 0] } : EFlow)
     let v := uq 3
     let l := [uq 0]
     decide (tablesHold s = true ∧ eflowOf s (fnat f 1) = some q ∧ q.units = v :: l ∧ v.next ≠ 0)) &&
    (let s : State := audio3
     let f : Fields := [3, 1, 7, 2]
     let x : IFlow := (iflowOf audio3 3).getD { f := [], polA := policer0, polB := policer0 }
     decide (iflowOf s (fnat f 1) = some x)) &&
    (let s : State := started1
     let c : Cmd := dev [1, 0]
     let f : Fields := fieldsOf opReadFlowStatus c s
     let x := (iflowOf started1 1).getD { f := [], polA := policer0, polB := policer0 }
     decide (passes opReadFlowStatus c s = true ∧ fnat f 2 = 0 ∧ iflowOf s (fnat f 1) = some x)) &&
    (let s : State := eg [] (nums eflowWords).tail
     let c : Cmd := dev [0, 1]
     let f : Fields := fieldsOf opReadFlowStatus c s
     let q := (eflowOf (eg [] (nums eflowWords).tail) 0).getD { f := [] }
     decide (passes opReadFlowStatus c s = true ∧ fnat f 2 ≠ 0 ∧ eflowOf s (fnat f 1) = some q)) := by
  decide +kernel

end FlowCommands

namespace TurretCommands

def netQ : State := { net with flows := { net.flows with drr := [(16, { enable := true }), (1024 * 8 + 16, { enable := true, pkts := [{ len := 100, what := .hostPacket 8 1 }] })] } }

theorem test_met_TurretCommands :
    (let s : State := netQ
     let c : Cmd := dev ([2, 0, 16, 0, 0, 1, 9, 60] ++ zeros 15)
     let f : Fields := fieldsOf opSendHostPacket c s
     decide (passes opSendHostPacket c s = true ∧ fld f 4 = 0)) &&
    (let s : State := net
     let c : Cmd := dev ([1, 0, 16, 1, 3567587328, 0, 9, 60] ++ zeros 15)
     let f : Fields := fieldsOf opSendHostPacket c s
     decide (passes opSendHostPacket c s = true ∧ fld f 4 = 1 ∧ 0 ≤ diff32 (fld f 5) (clockNs s) ∧ diff32 (fld f 5) (clockNs s) ≤ 2000000000)) := by
  decide +kernel

end TurretCommands

namespace FramesArrive

def rx (cls : FrameClass) (port : Nat) : RxFrame := { port := port, len := 1400, macOk := true, vlan := none, cls := cls, v6 := false, dst := 0xEF000001, src := 0x0A000002, udp := 5000, dscp := 0, seq := 100, stamp := 5, marker := false, malformed := false, answer := false }
def fx (x : IFlow) : State := { net with flows := { net.flows with ingress := [(1, some x)] } }
def cx : IFlow := { f := ((nums (codedFlow 1)).tail).set 26 0, polA := policer0, polB := policer0, started := true, released := 70000, top := 70004, held := [(70004, 5), (70005, 8), (70007, 700000000)] }
def vx (v : List RxVideo) : IFlow := { f := (((nums (codedFlow 1)).tail).set 1 0).set 26 0, polA := policer0, polB := policer0, video := v }
def v0 : RxVideo := { stamp := 5, seqs := [3, 1], marker := some (3, 7) }
def poor : State := { net with flows := { net.flows with police := [(3, some { rate := 64, burst := 1600, bucket := 1419 * 5000000, tick := 1000000000 }), (12, some { rate := 64, burst := 1600, bucket := 1419 * 5000000, tick := 1000000000 })], idents := [(0, some [0x200, 5, 0xEF000001, 24, 0, 0, 0, 0, 0, 64, 0, 0, 0, 0, 0, 5])] } }
def rich : State := { net with flows := { net.flows with idents := [(0, some [0x200, 5, 0xEF000001, 24, 0, 0, 0, 0, 0, 64, 0, 0, 0, 0, 0, 5])] } }

theorem test_met_FramesArrive :
    (let s : State := net
     let r : RxFrame := rx .media 33
     decide (portUp s r.port = false)) &&
    (let s : State := net
     let r : RxFrame := { rx .media 15 with macOk := false }
     decide (r.port < 16 ∧ portUp s r.port = true ∧ accepts s r = false)) &&
    (let s : State := net
     let r : RxFrame := { rx .media 15 with udp := 5009 }
     decide (r.port < 16 ∧ portUp s r.port = true ∧ accepts s r = true ∧ r.cls = .media ∧ matchFlow s r = none)) &&
    (let s : State := poor
     let r : RxFrame := rx .neighbour 0
     let p := 3
     let x := policerNow s p
     let need := countedLen s r.port r.len * byteUnits
     decide (r.port < 33 ∧ portUp s r.port = true ∧ accepts s r = true ∧ policerOf r.port (classOf s r) = some p ∧ x.bucket < need)) &&
    (let s : State := rich
     let r : RxFrame := rx .neighbour 0
     let p := 3
     let x := policerNow s p
     let need := countedLen s r.port r.len * byteUnits
     decide (r.port < 33 ∧ portUp s r.port = true ∧ accepts s r = true ∧ policerOf r.port (classOf s r) = some p ∧ need ≤ x.bucket ∧ r.cls = .neighbour ∧ r.answer = false ∧ ownAddress s r.port r.v6 r.dst = true)) &&
    (let d : Datagram := { via := .inband, src := (pkt 0 []).src, port := 0, len := 100, frag := none, whole := true, bytes := [] }
     let s : State := rich
     let r : RxFrame := { rx .command 0 with udp := 4880, datagram := some d }
     (policerOf r.port (classOf s r)).any fun p =>
       decide (r.port < 33 ∧ portUp s r.port = true ∧ accepts s r = true ∧ classOf s r = .command ∧ r.datagram = some d ∧
         countedLen s r.port r.len * byteUnits ≤ (policerNow s p).bucket)) &&
    (let s : State := fx cx
     let r : RxFrame := { rx .media 0 with seq := 70000 - 65536 }
     let i := 1
     let x := cx
     decide (r.port < 33 ∧ portUp s r.port = true ∧ accepts s r = true ∧ r.cls = .media ∧ matchFlow s r = some (i, x) ∧ tablesHold s = true ∧ fnat x.f 27 = 0 ∧ r.malformed = false)) &&
    (let s : State := fx { (vx [v0]) with f := ((vx []).f.set 25 10) }
     let i : Nat := 1
     let x : IFlow := { (vx [v0]) with f := ((vx []).f.set 25 10) }
     let v : RxVideo := v0
     let l : List RxVideo := []
     decide (iflowOf s i = some x ∧ fnat x.f 2 = 0 ∧ fnat x.f 3 = 0 ∧ x.video = v :: l ∧ v.complete = false ∧ (∃ m ∈ v.marker, m.2 + ticksUs (skewOf s x.f) ≤ s.tick))) &&
    (let s : State := fx cx
     let i : Nat := 1
     let x : IFlow := cx
     decide (iflowOf s i = some x ∧ (∀ h ∈ x.held, x.released < h.1))) := by
  decide +kernel

end FramesArrive

namespace PacketsLeave

def eu (nx : Nat) (l : Int) : EgUnit :=
  { frame := 59940, bottom := false, launch := l, lens := [1316, 700], next := nx, bytes := 50000, stamp := 7, f := (nums eflowWords).tail.set 24 0 }
def eq (en : Int) (us : List EgUnit) : EFlow := { f := ((nums eflowWords).tail.set 0 en).set 24 0, units := us, seq := 65535, started := true }
def es (q : EFlow) : State := { eflow0 with flows := { eflow0.flows with egress := [(0, some q)] } }
/-- Flow 0 of `s` with the unit `u` first and the rest `l`, on a held time `now`. -/
def heads (s : State) (q : EFlow) (u : EgUnit) (l : List EgUnit) : Bool :=
  tablesHold s && decide (tget none s.flows.tails 0 = none ∧ eflowOf s 0 = some q ∧ fnat q.f 2 = 1 ∧ q.units = u :: l)
def freeFor (s : State) (f : Fields) : Bool :=
  let ports := targetPorts s (fnat f 3) (fnat f 4)
  decide (fnat f 25 = 0 ∧ ports ≠ []) && ports.all fun p => resolved s p (decide (fnat f 6 = 1)) (destOn f p)
def host (launch : Nat) (stamp : Bool) : HostTimed := { port := 8, launch := natWord launch, tag := 8, stamp := stamp, len := 100 }
def tm (l : List HostTimed) : State := { net with flows := { net.flows with timed := l } }
def qp (n : Nat) : QPkt := { len := n, what := .hostPacket 0 3, stamp := some 3 }
def dq (v d : Nat) (l : List QPkt) : State := { net with flows := { net.flows with drr := [(20, { enable := true, deficit := d, pkts := l, quantum := 1536 })], visit := tset 0 [] 0 v } }
/-- A host packet on port 0 launches so soon that no packet ends before it. -/
def tight (s : State) : State := { s with flows := { s.flows with timed := [{ host 1000000000005 false with port := 0 }] } }
def evE : Event := { code := 0x01E1, sec := 1000, ns := 5, ctx := 0xFFFF, source := 0, bytes := [1, 3, 4] }
def subE : Sub := { f := [2, 0, 0xC0000201, 0, 0, 0, 4880, 2, 0, 0xFFFFF] ++ List.replicate 8 0xFFFFFFFF, seq := 3, lost := 2, queue := [(32, evE)] }
def evs : State := { up with dev := { up.dev with mgmtUp := true }, cmd := { up.cmd with subs := [(15, some subE)] } }
def mem0 : State := { net with flows := { net.flows with members := [(0, 0xEF000001, 0), (1, 0xEF000002, 0)], reports := [(0, 0xEF000001, 0), (1, 0xEF000009, 0)], neigh := [(0, 0x0A000005), (40, 3)] } }
/-- No packet waits in an exclusive queue. -/
def noExcl (s : State) : Bool := s.flows.drr.all fun e => e.2.pkts.all fun x => !x.excl

theorem test_met_PacketsLeave_units :
    (let u := eu 0 1000032366667; let l := [eu 0 9000032366667]; let q := eq 1 (u :: l); let s := es q
     heads s q u l && decide (u.next = 0 ∧ u.window = 0 ∧ fnat q.f 1 = 1 ∧ heldNs s (sourceTb s q.f) < u.launch)) &&
    (let u := eu 0 900032366667; let l := [eu 0 9000032366667]; let q := eq 0 (u :: l); let s := es q
     heads s q u l && decide (u.next = 0 ∧ u.window = 0 ∧ fnat q.f 1 = 0 ∧ u.launch ≤ heldNs s (sourceTb s q.f) ∧ (∀ v ∈ l, v.next = 0))) &&
    (let u := eu 0 900032366667; let l := [eu 0 9000032366667]; let q := eq 1 (u :: l); let s := es q
     heads s q u l && freeFor s q.f &&
       decide (u.next = 0 ∧ u.window = 0 ∧ fnat q.f 1 = 1 ∧ u.launch ≤ heldNs s (sourceTb s q.f) ∧ q.started = true ∧ u.failed = []) &&
       mayStart s 0 { start := true, left := max u.launch q.freeAt - heldNs s (sourceTb s q.f) } (targetPorts s (fnat q.f 3) (fnat q.f 4)) 1316) &&
    (let u := eu 1 900032366667; let l := [eu 0 9000032366667]; let q := eq 1 (u :: l); let s := es q
     heads s q u l && freeFor s u.f && decide (u.next ≠ 0 ∧ u.next ∉ u.failed ∧ fnat u.f 2 = 1) &&
       mayStart s 0 { start := false, left := packetDue s u - heldNs s (sourceTb s q.f) } (targetPorts s (fnat u.f 3) (fnat u.f 4)) (u.lens.getD u.next 64)) := by
  decide +kernel

theorem test_met_PacketsLeave :
    (let s := tm [host 999999999995 false]
     (timedDue s).any fun x => hostMayStart s x && !x.stamp) &&
    (let s := { tm [host 999999999995 false] with flows := { (tm [host 999999999995 false]).flows with wire := [(8, 10 ^ 30)] } }
     (timedDue s).any fun x => !hostMayStart s x) &&
    (let s : State := net
     decide (timedDue s = none)) &&
    (let s : State := evs
     let l : List (Nat × Event) := []
     noExcl s && decide (portUp s 32 = true ∧ tget none s.cmd.subs 15 = some subE ∧ subE.queue = (32, evE) :: l ∧
       busyQueues s 32 = [15] ∧ tget 0 s.flows.visit 32 ≠ 16 ∧
       eventLen s 32 subE evE ≤ (drrOf s 32 15).deficit + (drrOf s 32 15).quantum ∧ queueGuard s 32 (eventLen s 32 subE evE) = true)) &&
    (let s : State := dq 21 300 [qp 300, qp 9]
     tablesHold s && noExcl s && decide (portUp s 0 = true ∧ (drrOf s 0 20).enable = true ∧ (drrOf s 0 20).pkts = qp 300 :: [qp 9] ∧
       queueGuard s 0 300 = true ∧ tget 0 s.flows.visit 0 = 21 ∧ 300 ≤ (drrOf s 0 20).deficit)) &&
    (let s : State := dq 21 299 [qp 300, qp 9]
     tablesHold s && noExcl s && decide (portUp s 0 = true ∧ (drrOf s 0 20).enable = true ∧ (drrOf s 0 20).pkts = qp 300 :: [qp 9] ∧
       queueGuard s 0 300 = true ∧ busyQueues s 0 = [20] ∧ (drrOf s 0 20).deficit < 300 ∧
       300 ≤ (drrOf s 0 20).deficit + (drrOf s 0 20).quantum)) &&
    (let s : State := tight (dq 21 299 [qp 300, qp 9])
     tablesHold s && noExcl s && decide (portUp s 0 = true ∧ (drrOf s 0 20).enable = true ∧ (drrOf s 0 20).pkts = qp 300 :: [qp 9] ∧
       queueGuard s 0 300 = false ∧ busyQueues s 0 = [20])) &&
    (let s : State := mem0
     decide (portUp s 0 = true ∧ tget 0 s.flows.older 0 = 0 ∧ tabWf 0 none s.flows.older = true)) := by
  decide +kernel

end PacketsLeave

namespace PathHealth

def ph (a b : Health) (f : Fields) (sel pf : Bool) : State := { net with pins := { net.pins with pathForce := pf }, flows := { net.flows with healthA := a, healthB := b, lock := f, selB := sel } }
def okH : Health := { good := true, since := some 5, goodSince := 7 }
def badH : Health := { good := false, since := some 1000 }

theorem test_met_PathHealth :
    (let t := 1
     decide (t < 2)) &&
    (let s : State := ph { okH with f := [4, 20, 1, 0xFFFF, 0xFFFF, 0xFFFF, 0xFFFF, 0xFFFF, 0xFFFF, 0xFFFF] } okH [0, 10, 0] false false
     let t : Nat := 0
     let i : Nat := 1
     decide (t < 2 ∧ (∃ v ∈ slice (healthOf s t).f 2 8, v = (i : Int)))) &&
    (let s : State := ph badH okH [0, 10, 0] true false
     let t := 0
     let k := 1000
     decide (t < 2 ∧ (healthOf s t).good = false ∧ portsFail (judgeSentinels s) t = false ∧ healthHolds (judgeSentinels s) t = true ∧ (healthOf s t).since = some k ∧ k + 62500000 ≤ s.tick)) &&
    (let s : State := ph { okH with since := none } okH [0, 10, 0] false false
     let t := 0
     decide ((healthOf s t).since = none)) &&
    (let s : State := ph badH okH [0, 10, 0] false false
     let b := true
     let cause := 1
     decide (s.dev.state ≠ .boot ∧ s.dev.state ≠ .off ∧ interlockRow s = some (b, cause) ∧ b ≠ s.flows.selB)) &&
    (let s : State := ph okH okH [0, 10, 1] false true
     decide (s.pins.pathForce = true)) &&
    (let s : State := ph okH okH [0, 10, 1] true false
     decide (s.pins.pathForce = false ∧ fnat s.flows.lock 3 = 1)) &&
    (let s : State := ph okH okH [0, 10, 2] true false
     decide (s.pins.pathForce = false ∧ fnat s.flows.lock 3 = 2)) &&
    (let s : State := ph badH okH [0, 10, 0] false false
     decide (s.pins.pathForce = false ∧ fnat s.flows.lock 3 = 0 ∧ (healthOf s (b2n s.flows.selB)).good = false ∧ (healthOf s (1 - b2n s.flows.selB)).good = true)) &&
    (let s : State := ph okH badH [1, 10, 0] false false
     decide (s.pins.pathForce = false ∧ fnat s.flows.lock 3 = 0 ∧ (healthOf s (b2n s.flows.selB)).good = true ∧ (b2n s.flows.selB = fnat s.flows.lock 1 ∨ (healthOf s (fnat s.flows.lock 1)).good = false ∨ s.tick < (healthOf s (fnat s.flows.lock 1)).goodSince + ticksUs (fnat s.flows.lock 2 * 1000000)))) := by
  decide +kernel

end PathHealth

namespace MemoryCommands

def mst (m : Mem) : State := { up with mem := m }
def mm : Mem := { dram := [(3, 5)], degraded := [3, 0], raised := [0], ladderHold := true, setpoint := 1, chans := [(0, { step := 3 })] }

theorem test_met_MemoryCommands :
    (let s : State := up
     let c : Cmd := dev [1]
     let f : Fields := fieldsOf opSetPoint c s
     decide (passes opSetPoint c s = true ∧ fnat f 1 = 1)) &&
    (let s : State := up
     let c : Cmd := dev [2]
     let f : Fields := fieldsOf opSetPoint c s
     decide (passes opSetPoint c s = true ∧ fnat f 1 = 2)) &&
    (let s : State := up
     let c : Cmd := dev [0]
     let f : Fields := fieldsOf opSetPoint c s
     decide (passes opSetPoint c s = true ∧ fnat f 1 = 0)) &&
    (let s : State := mst mm
     let c : Cmd := dev [0]
     decide (passes opSetPoint c s = true ∧ s.mem.ladderHold = true)) &&
    (let s : State := up
     let c : Cmd := dev [2]
     let f : Fields := fieldsOf opSetPoint c s
     let asked := modMem (fun m => { m with selector := fnat f 1 }) s
     let d := wantedSetpoint asked
     decide (passes opSetPoint c s = true ∧ s.mem.ladderHold = false ∧ (s.mem.engine = .idle ∨ s.mem.engine = .gather ∧ d = s.mem.setpoint))) &&
    (let s : State := mst { engine := .gather }
     let c : Cmd := dev [2]
     let f : Fields := fieldsOf opSetPoint c s
     let cl : List Clamp := clampsOf opSetPoint c s
     let asked := modMem (fun m => { m with selector := fnat f 1 }) s
     let d := wantedSetpoint asked
     decide (passes opSetPoint c s = true ∧ s.mem.ladderHold = false ∧ s.mem.engine = .gather ∧ d ≠ s.mem.setpoint ∧ cl = [])) &&
    (let s : State := mst { engine := .check }
     decide (passes opSetPoint (dev [2]) s = true ∧ s.mem.ladderHold = false ∧ s.mem.engine = .check)) &&
    (let s : State := up
     decide (passes opRetrainChannel (dev [7]) s = true ∧ tablesHold s = true)) &&
    (let s : State := mst mm
     let u := (opRetrainChannel.apply (dev [0]) [0] s).s
     decide (u.mem.degraded ≠ [])) &&
    (let s : State := mst { mm with degraded := [3] }
     let u := (opRetrainChannel.apply (dev [3]) [3] s).s
     decide (tablesHold s = true ∧ u.mem.degraded = [])) := by
  decide +kernel

end MemoryCommands

namespace MemoryAccesses

def ms (m : Mem) : State := { up with mem := m, tick := 1000000000 }
def rq (port addr : Nat) (w : Option (List Byte)) (len : Nat) (co fa : Bool) (ow ob : Nat) : MemReq := { port := port, addr := addr, write := w, len := len, deadline := none, waited := 0, corrected := co, failed := fa, owner := ow, object := ob, part := 0 }
def bb (n : Nat) : List Byte := (List.range n).map fun i => BitVec.ofNat 8 (i + 1)
def mA : Mem := { dram := [(64, 5), (70, 9)], bad := [128], banks := [(0, { row := some 0, hits := 3, raa := 7, rows := [{ row := 0, ports := [(3, 3998)] }] })] }
def thr : Mem := { throttles := [{ port := 3, rank := 0, bank := 0, row := 5, count := 4000, more := false, last := 1000000000 }], rh := [4000, 1000] }

/-- A request of one burst on rank 0, bank 0 finds it ready and its queue empty. -/
def oneBurst (s : State) (q : MemReq) : Bool :=
  let n := (q.write.map List.length).getD q.len
  tablesHold s && decide (Memory.wf s.mem.dram = true ∧ memServes s = true ∧ q.port < 34 ∧ 0 < n ∧ q.addr % 64 + n ≤ 64 ∧
    q.addr + n ≤ dramBytes s ∧ (subAt s (rankOf q.addr)).queue = []) &&
    (List.range 32).all fun b => decide ((bankAt s (rankOf q.addr) b).postponed = 0)
def heldBy (s : State) (q : MemReq) : Bool :=
  let r := rankOf q.addr
  let k := bankAt s r (bankOf q.addr)
  decide ((q.write = none ∧ s.tick < k.held) ∨ (k.row ≠ some (rowOf q.addr) ∧ throttled s q.port r (bankOf q.addr) = true))

theorem test_met_MemoryAccesses :
    (let s := ms { mA with engine := .switch }
     tablesHold s && decide (Memory.wf s.mem.dram = true ∧ memUp s = true ∧ s.mem.engine = .switch)) &&
    (let s := ms mA
     (List.range 16).all fun r => decide ((subAt s r).queue = [])) &&
    (let s := ms thr; let q := rq 3 64 none 64 false false 0 0
     oneBurst s q && heldBy s q) &&
    (let s := ms { mA with banks := [(0, { held := 1000000082 })] }; let q := rq 3 64 none 64 false false 0 0
     oneBurst s q && heldBy s q) &&
    (let s := ms mA; let q := rq 3 64 none 64 true false 0 0
     oneBurst s q && !heldBy s q && decide (q.addr / 64 * 64 ∉ s.mem.bad)) &&
    (let s := ms mA; let q := rq 3 66 (some (bb 7)) 7 false false 0 0
     oneBurst s q && !heldBy s q && !inLantern s q.addr) &&
    (let s := ms mA; let q := rq 3 (reservedBase up + 1536 * mib) (some (bb 7)) 7 false false 0 0
     oneBurst s q && !heldBy s q && inLantern s q.addr) &&
    (let s := ms mA; let q := rq 3 64 none 64 false true 0 0
     oneBurst s q && !heldBy s q && decide (q.addr / 64 * 64 ∉ s.mem.bad ∧ s.mem.ueValid = false)) &&
    (let s := ms { mA with ueValid := true }; let q := rq 3 64 none 64 false true 0 0
     oneBurst s q && !heldBy s q && decide (q.addr / 64 * 64 ∉ s.mem.bad ∧ s.mem.ueValid = true)) &&
    (let s := ms mA; let q := rq 3 66 none 64 false false 0 0; let a := q.addr / 64 * 64
     decide (memServes s = true ∧ a + 64 ≤ dramBytes s ∧ pick s (rankOf q.addr) = none ∧ a ∉ s.mem.bad ∧ s.mem.ueValid = false)) &&
    (let q := rq 3 66 none 64 false false 0 0
     let s := ms { mA with subs := [(0, { queue := [{ req := q, came := 1000000000 }] })] }
     decide (pick s (rankOf q.addr) ≠ none ∧ ¬ 255 ≤ (subAt s (rankOf q.addr)).slots)) := by
  decide +kernel

/-- What of a BAR2 write of one byte is lost: nothing, in the Lantern store, in the rest of the region, in both. -/
theorem test_met_MemoryAccesses_bar :
    (let s := ms mA
     decide (barUp s = true ∧ 66 + (bb 7).length ≤ 2 ^ 32 ∧ (bb 7).length ≤ reservedBase s - (s.mem.bar2 * 2 ^ 30 + 66))) &&
    (let s := ms { mA with bar2 := 252 }
     decide (barUp s = true ∧ reservedBase s ≤ s.mem.bar2 * 2 ^ 30) &&
       inLantern s (s.mem.bar2 * 2 ^ 30 + 1536 * mib) && !inLantern s (s.mem.bar2 * 2 ^ 30) &&
       (let a := s.mem.bar2 * 2 ^ 30 + 1536 * mib - 1; !inLantern s a && inLantern s (a + 1))) := by
  decide +kernel

end MemoryAccesses

namespace BankEvents

def bk (b : Bank) (m : Mem) : State := { up with mem := { m with banks := [(35, b)] } }
/-- An urgency-3 request waits on bank 3 of rank 1. -/
def wanted (p : Nat) : State :=
  bk { row := some 5, postponed := p } { subs := [(1, { queue := [{ req := MemoryAccesses.rq 3 (256 + 3 * 65536) none 64 false false 0 0, came := 0 }] })] }

theorem test_met_BankEvents :
    (let s := wanted 3
     decide (memServes s = true ∧ urgentOn s 1 3 = true ∧ (bankAt s 1 3).postponed < 4)) &&
    (let s := wanted 4
     decide (memServes s = true ∧ urgentOn s 1 3 = true ∧ 4 ≤ (bankAt s 1 3).postponed)) &&
    (let s := bk { row := some 5 } {}
     decide (memServes s = true ∧ urgentOn s 1 3 = false)) &&
    (let s := bk { row := some 5 } { engine := .switch }
     decide (memServes s = false)) &&
    (let s := bk { row := some 5 } {}
     decide (clocksSince s (bankAt s 1 3).used (fnat s.mem.policy 1) = true)) &&
    (let s := bk { row := some 5, used := 1000000000 } {}
     decide (clocksSince s (bankAt s 1 3).used (fnat s.mem.policy 1) = false)) &&
    (let s := bk { row := none, hits := 2 } {}
     decide (memServes s = true ∧ (subAt s 1).queue = [] ∧ fnat s.mem.policy 2 ≠ 0) &&
       (List.range 32).all fun k => decide ((bankAt s 1 k).row = none ∧ clocksSince s (bankAt s 1 k).used (fnat s.mem.policy 2) = true)) &&
    (let s := wanted 3
     decide ((subAt s 1).queue ≠ [] ∧ (bankAt s 1 3).row ≠ none)) &&
    (let s := bk { row := some 5 } { policy := [64, 0, 24, 1000] }
     decide (fnat s.mem.policy 2 = 0 ∧ tablesHold s = true)) := by
  decide +kernel

end BankEvents

namespace TrainingEngine

def tr (m : Mem) : State := { up with mem := m }
def forcedS (m : Mem) : State := { up with mem := m, camp := { up.camp with spires := [(0, { forced := true })] } }

theorem test_met_TrainingEngine :
    (let s : State := tr {}
     let c : Nat := 3
     let h := false
     decide (memServes s = true ∧ c < 8 ∧ s.mem.engine = .idle ∧ c ∉ s.mem.degraded ∧ (h = true ∨ s.dev.state ≠ .train))) &&
    (let s : State := tr { engine := .gather, chans := [(3, { gather := true, step := 2, ceRate := true })], setpoint := 1 }
     let c : Nat := 3
     decide (s.mem.engine = .gather ∧ (tget {} s.mem.chans c).gather = true)) &&
    (let s : State := tr { engine := .gather, chans := [(3, { gather := true, step := 0 })], setpoint := 1 }
     let c : Nat := 3
     decide (s.mem.engine = .gather ∧ (tget {} s.mem.chans c).gather = true ∧ c ∉ s.mem.degraded)) &&
    (let s : State := tr { request := some 1 }
     decide (s.mem.engine = .idle ∧ s.mem.request = some (1 - s.mem.setpoint) ∧ anyForced s = false)) &&
    (let s : State := forcedS { request := some 1 }
     decide (anyForced s = true)) &&
    (let s : State := tr { engine := .switch }
     decide (s.mem.engine = .switch)) &&
    (let s : State := tr { engine := .check }
     decide (s.mem.engine = .check ∧ s.mem.ladder = none)) &&
    (let s : State := tr { engine := .check, ladder := some 3, degraded := [3], chans := [(3, { step := 1 })], setpoint := 1 }
     let c : Nat := 3
     decide (s.mem.engine = .check ∧ s.mem.ladder = some c)) &&
    (let s : State := tr { engine := .check, ladder := some 3, degraded := [3], chans := [(3, { step := 1 })], setpoint := 1 }
     let c : Nat := 3
     let failed := 0xFF
     decide (s.mem.engine = .check ∧ s.mem.ladder = some c ∧ c < 8 ∧ bit failed c = true ∧ c ∈ s.mem.degraded)) := by
  decide +kernel

end TrainingEngine

namespace DmaCommands

def cf (trig : Int) : Fields := [1, trig, 10000, 0, 0, 0, 2, 1, 0, 0, 2, 0, 1, 3, 0, 0, 0xFF]
def chn (x : DmaChan) : State := { up with mem := { up.mem with dram := [(15, 1)] }, dma := { up.dma with chans := [(0, x), (33, { holder := .host, f := cf 1, state := .waiting })], units := [(3, { holder := .host, opened := true, poly := 1, crc := 0xFFFFFFFF, queue := [[1, 2]] })] } }
def un (q : List (List Byte)) : State := { up with dma := { up.dma with units := [(0, { holder := .host, opened := true, poly := 1, crc := 0xFFFFFFFF, queue := q })] } }

theorem test_met_DmaCommands :
    (let s : State := chn { holder := .host, f := cf 0, state := .running, inRun := true }
     let c : Cmd := dev [0, 0]
     let f : Fields := fieldsOf opChannelControl c s
     decide (passes opChannelControl c s = true ∧ fld f 2 = 0)) &&
    (let s : State := chn { holder := .host, f := cf 0, state := .paused, paused := true, inRun := true }
     let c : Cmd := dev [0, 1]
     let f : Fields := fieldsOf opChannelControl c s
     let n := fnat f 1
     let x := dmaOf s n
     decide (passes opChannelControl c s = true ∧ fld f 2 = 1 ∧ x.inRun = true ∧ downDomain s x = none)) &&
    (let s : State := chn { holder := .host, f := cf 0, state := .paused, paused := true }
     let c : Cmd := dev [0, 1]
     let f : Fields := fieldsOf opChannelControl c s
     let n := fnat f 1
     let x := dmaOf s n
     decide (passes opChannelControl c s = true ∧ fld f 2 = 1 ∧ x.inRun = false ∧ x.trig = false)) &&
    (let s : State := chn { holder := .host, f := cf 0, state := .paused, paused := true, inRun := true, elem := 5, trig := true, timer := 8 }
     let c : Cmd := dev [0, 2]
     let f : Fields := fieldsOf opChannelControl c s
     decide (passes opChannelControl c s = true ∧ fld f 2 = 2)) &&
    (let s : State := un [[1, 2], [3]]
     let c : Cmd := dev [0, 0, 0]
     let f : Fields := fieldsOf opCloseCheckUnit c s
     let n := fnat f 1
     let u := chkOf s n
     let d := drainAll u
     let r := polyResult d.poly d.crc.toNat
     decide (passes opCloseCheckUnit c s = true ∧ (fnat f 2 ≠ 1 ∨ r = natWord (fnat f 3)))) &&
    (let s : State := un [[1, 2], [3]]
     let c : Cmd := dev [0, 1, 7]
     let f : Fields := fieldsOf opCloseCheckUnit c s
     let n := fnat f 1
     let u := chkOf s n
     let d := drainAll u
     let r := polyResult d.poly d.crc.toNat
     decide (passes opCloseCheckUnit c s = true ∧ fnat f 2 = 1 ∧ r ≠ natWord (fnat f 3))) := by
  decide +kernel

end DmaCommands

namespace DmaEvents

def cg (trig : Int) : Fields := [1, trig, 10000, 0, 0, 0, 2, 1, 0, 0, 2, 0, 1, 3, 0, 0, 0xFF]
def listAt (sp1 sp2 : Nat) (a b len : Nat) : List Host.Cell :=
  (cellsWrite [] 0x1000 (leBytes 8 a ++ leBytes 4 len ++ leBytes 4 sp1 ++ leBytes 8 b ++ leBytes 4 len ++ leBytes 4 (sp2 + 0x100)))
def de (x : DmaChan) : State := { up with mem := { up.mem with dram := [(15, 1)] }, dma := { up.dma with chans := [(0, x), (33, { holder := .host, f := cg 1, state := .waiting })] } }
def job0 : Job := { id := 4, opcode := 0x0303, cmd := dev [0, 0, 4, 0, 0, 1, 0], f := [0, 0, 4, 0, 0, 1, 0], clamps := [] }
def clist : Fields := [1, 0, 10000, 0, 0x1000, 0, 2, 1, 0, 0, 2, 0, 1, 0xFF, 0, 0, 0xFF]
def prk (t : Nat) (n : Nat) : State := { net with mem := { net.mem with dram := listAt 3 0 0 0x4000 64 }, lanes := { net.lanes with closing := [(2, t, job0)] }, dma := { net.dma with chans := if n = 0 then [] else [(0, { holder := .firmware, f := clist, state := .running, inRun := true })] } }
def prk2 (t : Nat) : State := { prk t 1 with dma := { net.dma with chans := [(0, { holder := .firmware, f := clist, state := .running, inRun := true }), (5, { holder := .firmware, f := clist, state := .running, inRun := true })] } }

theorem test_met_DmaEvents :
    (let s : State := de { holder := .host, f := cg 0, state := .waiting }
     let c : Nat := 0
     let x := dmaOf s c
     let kind := 0
     decide (x.f ≠ [] ∧ fnat x.f 2 = kind ∧ kind ≤ 3 ∧ x.state = .waiting)) &&
    (let s : State := de { holder := .host, f := cg 1, state := .running, inRun := true }
     let c : Nat := 0
     let x := dmaOf s c
     let kind := 1
     decide (x.f ≠ [] ∧ fnat x.f 2 = kind ∧ kind ≤ 3 ∧ (x.state = .running ∨ x.state = .paused) ∧ x.trig = false)) &&
    (let s : State := de { holder := .host, f := cg 0, state := .paused, inRun := true, trig := true }
     let c : Nat := 0
     let x := dmaOf s c
     let kind := 0
     decide (x.f ≠ [] ∧ fnat x.f 2 = kind ∧ kind ≤ 3 ∧ (x.state = .running ∨ x.state = .paused) ∧ x.trig = true ∧ kind ≠ 1)) &&
    (let s : State := de { holder := .host, f := cg 0, state := .error }
     let c : Nat := 0
     let x := dmaOf s c
     let kind := 0
     decide (x.f ≠ [] ∧ fnat x.f 2 = kind ∧ kind ≤ 3 ∧ (x.state = .idle ∨ x.state = .done ∨ x.state = .error))) &&
    (let s : State := de { holder := .host, f := cg 0, state := .waiting }
     let c : Nat := 0
     let x := dmaOf s c
     let kind := 1
     decide ((x.f = [] ∨ fnat x.f 2 ≠ kind))) &&
    (let s : State := de { holder := .host, f := cg 2, state := .waiting }
     let c : Nat := 0
     let x := dmaOf s c
     decide (x.f ≠ [] ∧ fnat x.f 2 = 2 ∧ x.timer + fnat x.f 3 * 5 ≤ 8 * s.tick ∧ x.state = .waiting)) &&
    (let s : State := de { holder := .host, f := cg 2, state := .waiting }
     let c : Nat := 0
     let x := dmaOf s c
     decide (x.f ≠ [] ∧ fnat x.f 2 = 2 ∧ x.timer + fnat x.f 3 * 5 ≤ 8 * s.tick ∧ x.state = .waiting)) &&
    (let s : State := { (de { holder := .host, f := cg 2, state := .paused, domain := some 4, hostRun := true, inRun := true }) with pins := { up.pins with hostUp := false } }
     decide (s.pins.pcieReady = true)) &&
    (let s : State := (fun s => { s with lanes := net.lanes }) (de { holder := .host, f := cg 2, state := .paused, domain := some 2, inRun := true })
     let c : Nat := 0
     let x := dmaOf s c
     let d := 2
     decide ((d = 2 ∨ d = 3) ∧ tileUp s d = true ∧ x.domain = some d ∧ x.paused = false ∧ downDomain s x = none ∧ c < 64)) &&
    (let s : State := prk 999999999 1
     let tile := 2
     let tick := 999999999
     let j := job0
     decide (parked s tile = some (tick, j) ∧ elapsed s tick s.dma.drain = false)) &&
    (let s : State := modRing (viaRing job0.cmd.via) (fun g => { g with blocked := some 4 }) (prk 5 1)
     let tile := 2
     let tick := 5
     let j := job0
     decide (parked s tile = some (tick, j) ∧ elapsed s tick s.dma.drain = true ∧ (∃ k ∈ List.range 64, drainAffects s tile k = true) ∧ ringHolds j s = true)) &&
    (let s : State := prk 5 0
     let tile := 2
     let tick := 5
     let j := job0
     decide (parked s tile = some (tick, j) ∧ elapsed s tick s.dma.drain = true ∧ (∀ k ∈ List.range 64, drainAffects s tile k = false))) &&
    (let s : State := prk2 999999999
     let c : Nat := 0
     let tile := 2
     let tick := 999999999
     let j := job0
     decide (parked s tile = some (tick, j) ∧ s.lanes.closing.length = 1 ∧ drainAffects s tile c = true ∧ (∃ k ∈ List.range 64, k ≠ c ∧ drainAffects s tile k = true))) &&
    (let s : State := prk 999999999 1
     let c : Nat := 0
     let tile := 2
     let tick := 999999999
     let j := job0
     decide (parked s tile = some (tick, j) ∧ s.lanes.closing.length = 1 ∧ drainAffects s tile c = true ∧ (∀ k ∈ List.range 64, k ≠ c → drainAffects s tile k = false))) &&
    (let s : State := de { holder := .host, f := cg 2, state := .running, inRun := true }
     decide (s.lanes.closing = [])) &&
    (let s : State := de { holder := .host, f := cg 2, state := .waiting, timer := 8 * 1000000000 }
     let x := dmaOf s 0
     decide (8 * s.tick < x.timer + fnat x.f 3 * 5)) &&
    (let s : State := de { holder := .host, f := cg 1, state := .paused, inRun := true, trig := true }
     let x := dmaOf s 0
     decide (x.f ≠ [] ∧ fnat x.f 2 = 1 ∧ x.state = .paused ∧ x.trig = true)) := by
  decide +kernel

end DmaEvents

namespace DmaCopies

def listAtC (sp1 sp2 : Nat) (a b len : Nat) : List Host.Cell :=
  (cellsWrite [] 0x1000 (leBytes 8 a ++ leBytes 4 len ++ leBytes 4 sp1 ++ leBytes 8 b ++ leBytes 4 len ++ leBytes 4 (sp2 + 0x100)))
def clistC : Fields := [1, 0, 10000, 0, 0x1000, 0, 2, 1, 0, 0, 2, 0, 1, 0xFF, 0, 0, 0xFF]
def xC : DmaChan := { holder := .host, f := clistC, state := .running, inRun := true, error := 5, trig := true }
def cpy (a b len : Nat) : State := { net with mem := { net.mem with dram := listAtC 0 0 a b len }, dma := { net.dma with chans := [(0, xC)] } }
def qC : DmaIn := { host := [], badList := none, badData := [] }

theorem test_met_DmaCopies :
    (let s : State := cpy 0x1000 0x4000 48
     let c : Nat := 3
     let x := dmaOf s c
     decide (Memory.wf s.mem.dram = true ∧ x.state ≠ .running)) &&
    (let s : State := cpy 0x1000 0x4000 48
     let c : Nat := 0
     let i : Nat := 0
     let l : List Nat := []
     let q : DmaIn := { qC with badList := some 0 }
     let x := dmaOf s c
     decide (Memory.wf s.mem.dram = true ∧ x.state = .running ∧ runSources s x = i :: l ∧ q.badList = some i)) &&
    (let s : State := cpy 0x1000 0x4000 48
     let c : Nat := 0
     let i : Nat := 0
     let j : Nat := 1
     let e : Elem := ({ addr := 0x1000, len := 48, space := 0, dest := false } : Elem)
     let d : Elem := ({ addr := 0x4000, len := 48, space := 0, dest := true } : Elem)
     let q : DmaIn := qC
     let x := dmaOf s c
     decide (Memory.wf s.mem.dram = true ∧ x.state = .running ∧ fnat x.f 10 = 0 ∧ 16 ≤ fnat x.f 14 ∧ x.destOff = 0 ∧ q.badList = none ∧ q.badData = [] ∧ runSources s x = [i] ∧ elemAt s x i = e ∧ e.space = 0 ∧ elemBad s x e = false ∧ ((indexesFrom x x.dest).find? (fun k => (elemAt s x k).dest) = some j) ∧ elemAt s x j = d ∧ d.space = 0 ∧ d.len = e.len ∧ elemBad s x d = false ∧ inLantern s d.addr = false ∧ listFails s x q i = false ∧ listFails s x q j = false ∧ (∀ b ∈ burstsOf e.addr e.len, b ∉ s.mem.bad))) &&
    (let count : Nat := 0
     let n : Nat := 1
     let block : Nat := 0
     let l : List Byte := ((List.range (0 * 0 * 1)).map fun i => BitVec.ofNat 8 i : List Byte)
     decide (1 ≤ n ∧ n ≤ 4 ∧ l.length = count * block * n)) := by
  decide +kernel

end DmaCopies

namespace CheckFeeds

def cu (p : Nat) (q : List (List Byte)) : Chk := { holder := .host, opened := true, poly := p, crc := 0xFFFF1234, queue := q }
def cs (u : Chk) : State := { up with dma := { up.dma with units := [(7, u)] } }

theorem test_met_CheckFeeds :
    (let s : State := cs (cu 1 (List.replicate 16 [1]))
     let n : Nat := 7
     let u := chkOf s n
     decide (n < 16 ∧ u.opened = true ∧ u.holder = .host ∧ u.queue.length ≤ 16 ∧ u.poly ≠ 4)) &&
    (let s : State := cs (cu 4 [])
     let n : Nat := 7
     let u := chkOf s n
     decide (n < 16 ∧ u.opened = true ∧ u.holder = .host ∧ u.poly = 4)) &&
    (let s : State := cs (cu 3 (List.replicate 17 [1]))
     let n : Nat := 7
     let u := chkOf s n
     decide (n < 16 ∧ u.opened = true ∧ u.holder = .host ∧ 17 ≤ u.queue.length)) &&
    (let s : State := cs { cu 1 [] with holder := .firmware }
     let n : Nat := 7
     decide (((chkOf s n).opened = false ∨ (chkOf s n).holder ≠ .host))) := by
  decide +kernel

end CheckFeeds

/-! ## The hypotheses of the other statements -/

theorem tablesHold_spec {s : State} (h : tablesHold s = true) : tablesOk s := by
  unfold tablesHold at h
  exact @of_decide_eq_true _ (_) h

/-- An invariant's hypotheses hold in a state in which every step kind above starts, and the step is a next state. -/
theorem test_met_invariants :
    tabWf 0 none net.counters = true ∧ countersOk net ∧ tablesOk net ∧ Memory.wf net.mem.dram = true ∧
      (net.supply.pwrGood = false → net.dev.state = .off ∧ net.cmd.jobs = []) ∧ ∃ t, step net = .next t :=
  ⟨by decide +kernel, fun _ => Nat.zero_le _, tablesHold_spec (by decide +kernel), by decide +kernel,
    fun h => absurd h (by decide +kernel), _, rfl⟩

/-- The same at the edge of what the invariants allow: power off, a counter at its maximum, a byte written. -/
def edge : State :=
  { up with
    supply := { up.supply with pwrGood := false }, dev := { up.dev with state := .off }
    counters := [(0x80008, counterMax 0x80008 * counterUnit 0x80008)], mem := { up.mem with dram := [(4096, 255)] } }

theorem test_met_invariants_edge :
    tabWf 0 none edge.counters = true ∧ countersOk edge ∧ tablesOk edge ∧ Memory.wf edge.mem.dram = true ∧
      (edge.supply.pwrGood = false → edge.dev.state = .off ∧ edge.cmd.jobs = []) ∧
      tget 0 edge.counters 0x80008 = counterMax 0x80008 * counterUnit 0x80008 ∧ ∃ t, step edge = .next t := by
  refine ⟨by decide +kernel, ?_, tablesHold_spec (by decide +kernel), by decide +kernel,
    fun _ => ⟨rfl, rfl⟩, by decide +kernel, _, rfl⟩
  intro k
  show tget 0 [(0x80008, _)] k ≤ _
  by_cases h : k = 0x80008
  · subst h
    exact Nat.le_of_eq rfl
  · simp only [tget]
    split
    · next e => exact absurd e.symm h
    · split <;> exact Nat.zero_le _

/-- Both sides of the front of the queue: a command that waits, and none. -/
theorem test_met_StepRunsFront :
    { up with pending := [.hardTrip, .throttleTick] }.pending = [.hardTrip, .throttleTick] ∧ up.pending = [] := by decide +kernel

/-- A packet whose size agrees with its Length and whose CRC does not. -/
def badCrc : List Byte := [0x48, 0x5A, 1, 0, 8, 1] ++ List.replicate 25 0 ++ [1]

theorem test_met_RejectedPackets_bytes : stage1 badCrc = true ∧ stage2 .mgmt badCrc = true ∧ stage3 badCrc = false := by
  decide +kernel

/-- The statuses of packets that fail, each at its stage. -/
def failsWith (op : Op) (c : Cmd) (s : State) (st : Status) (n : Nat) : Bool :=
  decide (s.dev.state ≠ .off ∧ s.dev.state ≠ .boot) && match judge opTable op c s with
  | .fail a cl => decide (a = st ∧ cl.length = n)
  | _ => false

theorem failsWith_spec {op : Op} {c : Cmd} {s : State} {st : Status} {n : Nat} (h : failsWith op c s st n = true) :
    ∃ cl, Fails op c st cl s := by
  unfold failsWith at h
  simp only [Bool.and_eq_true, decide_eq_true_eq] at h
  obtain ⟨hr, h⟩ := h
  split at h
  · next a cl e =>
    obtain ⟨rfl, -⟩ : _ ∧ _ := of_decide_eq_true h
    exact ⟨cl, hr, e⟩
  · cases h

theorem test_met_RejectedPackets :
    failsWith opReadGpioLevels (dev [0]) up .badLength 0 ∧ failsWith opReadContextStatus (pkt 256 []) up .badState 0 ∧
    failsWith opConfigureTimebase (dev [0, 8, 9]) up .refused 1 ∧ failsWith opRemoveTimebase (dev [3]) tb0 .badState 0 ∧
    failsWith opSetTransmitTaps (dev [32, 0, 48, 0, 800]) up .refused 1 := by decide +kernel

/-- The three reply cases of a packet: suppressed, on its own transport, and into a ring's completion record. -/
theorem test_met_RejectedPackets_replies :
    let c : Cmd := dev []
    (c.noReply = false ∧ (∀ n, c.via ≠ .store n) ∧ ∀ n, c.via = .ring n → c.capacity ≠ 0) ∧
      ({ c with noReply := true } : Cmd).noReply = true ∧ ({ c with via := .ring 3 } : Cmd).via = .ring 3 :=
  ⟨⟨rfl, (fun _ h => by cases h), fun _ h => by cases h⟩, rfl, rfl⟩

/-- R68: of the multiples of 5 from 256 to 1,500, requests of 256 and 3 give 260, with the reason of the last adjustment. -/
theorem test_met_FieldsAreClamped :
    inRange (.num 256 1500 5 false) 256 = (260, some .granule) ∧ inRange (.num 256 1500 5 false) 3 = (260, some .granule) ∧
    inRange (.num 256 1500 5 false) 9999 = (1500, some .aboveMax) ∧ inRange (.num 256 1500 5 false) 1000 = (1000, none) := by
  decide +kernel

/-- The levels of a whole module that `ThermalControl` asks for. -/
theorem test_met_ThermalControl_levels : tabWf 0 none ([(3, 6)] : Tab Nat) = true ∧ ∀ i, tget 0 ([(3, 6)] : Tab Nat) i ≤ 6 := by
  refine ⟨by decide, fun i => ?_⟩
  simp only [tget]
  split
  · exact Nat.le_refl _
  · split <;> exact Nat.zero_le _

/-! ## Figures of the spec -/

/-- An open context of a format, rate and effort on timebase 0. -/
def costOf (format rate effort : Nat) (decode : Bool) : Nat :=
  costK { up with bel := { up.bel with tbs := [(0, some { rate, format, last := some 1 })] } }
    { st := .active, decode, f := [0, 0, 1, 0, 0, 41, effort] }

/-- spec/01, the worked sizing, in thousands of samples a second: 8K Thorough and Balanced, 4K Balanced, HD Swift, HD decode. -/
theorem test_sizing : [costOf 4 11 0 false, costOf 4 11 1 false, costOf 3 8 1 false, costOf 1 7 2 false, costOf 1 7 1 true] =
    [6363736, 3977335, 497167, 62208, 31104] := by decide +kernel

/-- spec/06, the gang of R171: eight members, the third the longest with 1,096 CTUs, 1.995 ms, and 1.198 ms on the floor clock. -/
theorem test_gang :
    gangFor (geoOf 4 11) 16 1500 2000 (levelCost 1) = (8, 0) ∧
    (List.range 8).map (memberWork (geoOf 4 11) 8) = [1080, 1088, 1096, 1044, 992, 1000, 1008, 1016].map (64 * ·) ∧
    gangNs (geoOf 4 11) 8 2731 1500 = 1995451 ∧ gangNs (geoOf 4 11) 8 410 375 = 1198294 := by decide +kernel

/-- spec/08: the reference cache of that gang holds one band and leaves 19,375,200 bytes on demand. spec/17: the minimum peaks. -/
theorem test_cache_and_peaks :
    cachePlan (geoOf 4 11) 1 8 2 = (1, 19375200) ∧ minPeak (geoOf 4 11) 0 = 164342 ∧ minPeak (geoOf 1 7) 0 = 4284 := by
  decide +kernel

/-- spec/11: the planes and the delay line of an 8K composition of 360 frames, and of a 1080p one of 500. -/
theorem test_delay_lines :
    let s : State := { up with bel := { up.bel with
      tbs := [(0, some { rate := 11, format := 4, last := some 1 }), (1, some { rate := 7, format := 1, last := some 1 })] } }
    let a : Comp := { f := [0, 1, 2, 64, 512, 512, 360], space := 2 }
    let b : Comp := { f := [1, 0, 2, 64, 512, 512, 500], space := 2 }
    (fSrc 7680 4320 1, fPyr 7680 4320, fPrx 7680 4320 1) = (82944000, 2754000, 1296000) ∧
      (slotBytes s a, delayMib s a) = (88080384, 30660) ∧ (slotBytes s b, delayMib s b) = (5177344, 2494) := by decide +kernel

/-- spec/13: the flow policer's five packets 8 microseconds apart: green, green, yellow, yellow, red. -/
theorem test_two_rate :
    let f : Fields := [1, 3, 0] ++ List.replicate 23 0 ++ [1, 10000, 2500, 12000, 5000, 1]
    let run (acc : TwoRate × List (Nat × Nat × Nat)) (i : Nat) : TwoRate × List (Nat × Nat × Nat) :=
      let (c, y) := twoRate { up with tick := 1000 + 5000 * i } f acc.1 1230 0
      (y, acc.2 ++ [(c, y.tc / byteUnits, y.tp / byteUnits)])
    ((List.range 5).foldl run (fullBuckets { up with tick := 1000 } f, [])).2 =
      [(0, 1270, 3770), (0, 50, 2552), (1, 60, 1334), (1, 70, 116), (2, 80, 128)] := by decide +kernel

/-- spec/13: the first packet that a port's queues send, and that of the next round when it is gone. -/
theorem test_drr :
    let q (n quantum : Nat) (lens : List Nat) : Nat × Drr :=
      (n, { quantum, enable := true, pkts := lens.map fun len => { len, what := .hostPacket 0 n } })
    let s : State := { net with flows := { net.flows with drr := [q 16 1500 [1230, 1230, 1230, 1230], q 17 3000 [2520, 2520], q 18 600 [1520]] } }
    let go (o : Option State) : Option State := o.bind fun s => next? (execQueuedPacketSend 0 { s with flows := { s.flows with wire := [] } })
    let sent (o : Option State) : List Nat := match o with
      | some t => t.out.filterMap fun x => match x with
        | .hostPacket 0 n => some n
        | _ => none
      | none => []
    sent ((List.range 7).foldl (fun o _ => go o) (some s)) = [16, 18, 16, 17, 16, 17, 16] := by decide +kernel

/-- R96, R97, R101: an event of a subscriber waits, leaves with its number, and is lost once its link has gone down. -/
def subThen (r : Ran) : Option (Option Out × Word × Nat × Nat) :=
  (next? r).bind fun t => (tget none t.cmd.subs 15).map fun x => (t.out.head?, x.seq, x.lost, x.queue.length)

theorem test_udp_event :
    subThen (execQueuedPacketSend 32 PacketsLeave.evs) = some (some (.event 15 0 3 2 PacketsLeave.evE (eventWire 3 2 PacketsLeave.evE)), 4, 0, 0) := by
  decide +kernel

theorem test_udp_event_lost :
    subThen (execManagementLinkStateChange false 1000 PacketsLeave.evs) = some (none, 3, 3, 0) := by decide +kernel

/-- spec/05: a step of 20 ms at 120000/1001 re-phases the raster by three frames and 5,025,000 ns. -/
theorem test_rephase :
    let t : Timebase := { rate := 11, format := 4, corr := 20000000 * nsUnits, last := some 4999999 }
    rephaseDue t = true ∧ rephaseK t = 3 ∧ rephaseNs t = 5025000 ∧ (atBoundary 5000000 t).offset = -3 := by decide +kernel

/-- spec/14: the decoding of address 0x1234567A80: rank 8, bank group 7, bank 1, row 0x91A2; 256 bytes on, subchannel 1. -/
theorem test_address :
    rankOf 0x1234567A80 = 8 ∧ bankOf 0x1234567A80 = 7 * 4 + 1 ∧ rowOf 0x1234567A80 = 0x91A2 ∧ rankOf 0x1234567B80 = 9 := by
  decide +kernel

/-- The check values of CRC-32 and CRC-32C over the digits 1 to 9, which their definitions in R56 and R456 give. -/
theorem test_crc :
    let l : List Byte := [0x31, 0x32, 0x33, 0x34, 0x35, 0x36, 0x37, 0x38, 0x39]
    crc32 l = 0xCBF43926 ∧ crc32c l = 0xE3069283 := by decide +kernel

/-! ### Packets and rate control -/

/-- spec/03, the worked exchange: the reply's bytes but its CRC. -/
theorem test_reply_bytes :
    let r : Reply :=
      { opcode := 0x0520, status := .okClamped, tag := 0x1234, effect := some 1000000, fenced := false, auth := none, result := []
        clamps := [{ field := 2, requested := 250000, applied := 200000, reason := .crossField },
          { field := 3, requested := 1500, applied := 1000, reason := .aboveMax }] }
    (replyWire r false).take 20 =
        [0x48, 0x5A, 1, 1, 0x20, 5, 1, 0, 0x34, 0x12, 0, 0, 0, 0, 2, 0, 0x40, 0x42, 0x0F, 0] ∧
      (replyWire r false).drop 24 =
        [2, 0, 0x90, 0xD0, 3, 0, 0x40, 0x0D, 3, 0, 4, 0, 3, 0, 0xDC, 5, 0, 0, 0xE8, 3, 0, 0, 2, 0] := by decide +kernel

/-- spec/09: the row limits of a stale IRAP that is a scene cut, each row spending its whole limit; row 13 is a floor row. -/
theorem test_row_budgets :
    let s : State := { up with bel := { up.bel with tbs := [(0, some { rate := 7, format := 1, last := some 9 })] } }
    let f : Fields := nums (encWords.set 6 1)
    let x : Ctx :=
      { st := .active, f := f
        rate := { f := [8000, 8000, 40], irapsCoded := 2, lastIrapBits := 4, meanBefore := 1, x := 160000 * (geoOf 1 7).num
                  weightsI := List.replicate 17 1 } }
    let r : FrameRec := { ctx := 0, frame := 9, bottom := false, decode := false, irap := true, cf := f, ch := x.rate.h, hdr := 2048 }
    let g := geoOf 1 7
    let go (r : FrameRec) (row : Nat) : FrameRec :=
      let r := issueRow s x row r
      { r with
        budgets := r.budgets.map fun b => if b.row = row then { b with actual := b.q } else b
        done := (List.range g.segs).map (fun k => (row, k)) ++ r.done }
    let z := (List.range 14).foldl go r
    (z.fBits, z.tBits, z.budgets.map (·.q), z.floorRow) = (320000, 320000, [37406, 35068, 32730, 30392, 28054, 25716, 23378, 21040,
      18704, 16366, 14028, 11690, 9352, 3376], some 13) := by decide +kernel

/-- R43: positions of J2 before PWR_GOOD and from PWR_GOOD on. -/
theorem test_j2_positions :
    let s := State.reset
    ([1, 9, 16, 19, 27, 45, 48].map (j2Pin { s with supply := { s.supply with pwrGood := false, aux := false } }),
      [1, 9, 16, 19, 27, 45, 48].map (j2Pin s)) =
    ([.off, .highZ, .ignored, .low, .highZ, .ignored, .highZ],
      [.on, .low, .pullUp, .high, .pullDown, .pullDown, .highZ]) := by decide +kernel

/-- R265: the header of the record of CTU 7 of row 2, 30 CTUs a row: QP -3, level 5, floor, intra, 9 bins, 300 bits, no token. -/
theorem test_record_header :
    recordHeader (geoOf 1 7)
      { row := 2, col := 7, qp := -3, level := 5, floor := true, intra := true, recoded := false
        bins := 9, bits := 300, dist := 0, actNum := 0, actDen := 1, mvs := [], edge := [], sao := 0, alf := false
        tokens := [], before := [], after := [] } =
    [67, 0, 0xFD, 0x1D, 9, 0, 0, 0, 0x2C, 1, 0, 0, 0, 0, 0, 0] := by decide +kernel

/-! ## Commands that are ill-formed in one field only -/

theorem test_illformed_bounds : ([
    .sdiTrsLock 16 0 0 ⟨0, 2⟩, .sdiTrsLoss ⟨16, 4⟩, .sdiFrameComplete 16 0 [] ⟨[], []⟩, .sdiOutputFrame 16, .drainTimeout 1, .dmaDomainResume 5,
    .dmaDomainResume 1, .msixReenable [64], .counterReadClear 1, .w1cWrite 1 0 0, .registerWrite 1 0] : List Instr).all
      (fun i => !i.wf) = true := by decide +kernel

end Sys2Proof.Tests
end

section
/-! PROOFS. What leaves the counters alone, function by function in the model's order: the rules that the proof of O56
uses. -/

namespace Sys2Proof.Machine

-- One proof at a time: elaborated side by side, so many short proofs take more threads than the check's memory holds.
set_option Elab.async false

variable {s : State}

@[simp] theorem ite_counters (p : Prop) [Decidable p] (s t : State) :
    (if p then s else t).counters = if p then s.counters else t.counters := apply_ite _ p s t

@[simp] theorem foldl_counters {β : Type} {f : State → β → State} (h : ∀ t x, (f t x).counters = t.counters)
    {l : List β} : (l.foldl f s).counters = s.counters := by
  induction l generalizing s with
  | nil => rfl
  | cons x l ih => rw [List.foldl_cons, ih, h]

/-- The same of a fold that carries a value beside the state. -/
@[simp] theorem foldl_snd_counters {α β : Type} {f : α × State → β → α × State}
    (h : ∀ p x, (f p x).2.counters = p.2.counters) {l : List β} {p : α × State} :
    (l.foldl f p).2.counters = p.2.counters := by
  induction l generalizing p with
  | nil => rfl
  | cons x l ih => rw [List.foldl_cons, ih, h]

@[simp] theorem sendMsix_counters {v : Nat} : (sendMsix v s).counters = s.counters := by simp [sendMsix]

@[simp] theorem sendLines_counters {s0 : State} : (sendLines s0 s).counters = s.counters :=
  foldl_counters fun _ _ => by simp

theorem fwTake_counters {f : Fields} {target : Nat} {t : State} (h : fwTake f target s = some t) :
    t.counters = s.counters := by
  unfold fwTake at h
  split at h
  · cases h; rfl
  · obtain ⟨i, -, rfl⟩ := Option.map_eq_some_iff.mp h; rfl

theorem foldl_fwTake_counters {c : Nat} {t : State} (l : List Fields) {u : Option State}
    (h : l.foldl (fun t f => t.bind (fwTake f c)) u = some t) (hu : ∀ v, u = some v → v.counters = s.counters) :
    t.counters = s.counters := by
  induction l generalizing u with
  | nil => exact hu t h
  | cons f l ih =>
    refine ih h fun v e => ?_
    obtain ⟨w, hw, hv⟩ := Option.bind_eq_some_iff.mp e
    exact (fwTake_counters hv).trans (hu w hw)

theorem takeUnits_counters {c : Nat} {x : Ctx} {t : State} (h : takeUnits c x s = some t) : t.counters = s.counters :=
  foldl_fwTake_counters _ h fun _ e => by cases e; rfl

@[simp] theorem getD_takeUnits_counters {c : Nat} {x : Ctx} : ((takeUnits c x s).getD s).counters = s.counters := by
  cases h : takeUnits c x s with
  | none => rfl
  | some t => exact takeUnits_counters h

@[simp] theorem askSub_counters {sub : Sub} : (askSub sub s).counters = s.counters := by
  unfold askSub
  split <;> rfl

@[simp] theorem fwDropCtx_counters {c : Nat} : (fwDropCtx c s).counters = s.counters := rfl
@[simp] theorem undoOpen_counters {p : Pend} : (undoOpen p s).counters = s.counters := by simp [undoOpen]

@[simp] theorem sendReply_counters {c : Cmd} {r : Reply} : (sendReply c r s).counters = s.counters := by
  unfold sendReply
  (repeat' split) <;> simp

@[simp] theorem acceptCounter_counters {l : List Byte} :
    (acceptCounter l s).counters = s.counters := by simp [acceptCounter]

@[simp] theorem completeRing_counters {r : Nat} {tag : Word} {st : Status} {clamps len : Nat} :
    (completeRing r tag st clamps len s).counters = s.counters := by simp [completeRing]

@[simp] theorem queueStore_counters {i : Nat} : (queueStore i s).counters = s.counters := rfl
@[simp] theorem pauseStore_counters {i : Nat} : (pauseStore i s).counters = s.counters := rfl

@[simp] theorem logStored_counters {i : Nat} {c : Cmd} {r : Reply} :
    (logStored i c r s).counters = s.counters := by simp [logStored]

@[simp] theorem finishCmd_counters {c : Cmd} {r : Reply} : (finishCmd c r s).counters = s.counters := by
  unfold finishCmd
  split <;> simp

@[simp] theorem unblock_counters {j : Job} : (unblock j s).counters = s.counters := by simp [unblock]
@[simp] theorem settleTrip_counters : (settleTrip s).counters = s.counters := by simp [settleTrip]

@[simp] theorem refreshTurret_counters {t : Nat} :
    (refreshTurret t s).counters = s.counters := by simp [refreshTurret]

@[simp] theorem reportOn_counters {kind p : Nat} {m : Nat × Nat × Nat} :
    (reportOn kind p m s).counters = s.counters := by simp [reportOn]

@[simp] theorem report_counters {kind : Nat} {m : Nat × Nat × Nat} :
    (report kind m s).counters = s.counters := by simp [report]

@[simp] theorem settleMembers_counters : (settleMembers s).counters = s.counters := by simp [settleMembers]

@[simp] theorem dropEvents_counters {i : Nat} : (dropEvents i s).counters = s.counters := by
  unfold dropEvents
  split <;> simp

@[simp] theorem settleEvents_counters : (settleEvents s).counters = s.counters := by simp [settleEvents]
@[simp] theorem accrue_counters : (accrue s).counters = s.counters := by simp [accrue]
@[simp] theorem followFreq_counters : (followFreq s).counters = s.counters := by simp [followFreq]
@[simp] theorem setServo_counters {v : Servo} : (setServo v s).counters = s.counters := by simp [setServo]
@[simp] theorem hold_counters {v : Servo} : (hold v s).counters = s.counters := by simp [hold]
@[simp] theorem clearRings_counters : (clearRings s).counters = s.counters := rfl

@[simp] theorem ringBell_counters {r : Nat} {p : BitVec 16} :
    (ringBell r p s).counters = s.counters := by simp [ringBell]

@[simp] theorem bellWrite_counters {r : Nat} {value : Word} :
    (bellWrite r value s).counters = s.counters := by simp [bellWrite]

@[simp] theorem serveBells_counters : (serveBells s).counters = s.counters := by simp [serveBells]

@[simp] theorem enableRing_counters {r : Nat} {value : Word} :
    (enableRing r value s).counters = s.counters := by simp [enableRing]

@[simp] theorem disableRing_counters {r : Nat} {value : Word} :
    (disableRing r value s).counters = s.counters := by simp [disableRing]

@[simp] theorem enableEvq_counters {value : Word} : (enableEvq value s).counters = s.counters := by simp [enableEvq]

@[simp] theorem disableEvq_counters {value : Word} :
    (disableEvq value s).counters = s.counters := by simp [disableEvq]

@[simp] theorem evqHead_counters {value : Word} : (evqHead value s).counters = s.counters := by simp [evqHead]
@[simp] theorem endReasm_counters {src : Endpoint} {ident : Nat} : (endReasm src ident s).counters = s.counters := rfl

@[simp] theorem holdUnit_counters {client object : Nat} : (holdUnit client object s).counters = s.counters := by
  unfold holdUnit
  split <;> rfl

@[simp] theorem loseHost_counters : (loseHost s).counters = s.counters := rfl

@[simp] theorem closeDip_counters {outcome : Nat} : (closeDip outcome s).counters = s.counters := by
  unfold closeDip
  split <;> rfl

@[simp] theorem startConverter_counters {x : Start} :
    (startConverter x s).counters = s.counters := by simp [startConverter]

@[simp] theorem levelFlags_counters {n : Nat} {s0 : State} :
    (levelFlags n s0 s).counters = s.counters := by simp [levelFlags]

@[simp] theorem measure_counters {f : TelFrame} : (measure f s).counters = s.counters := rfl
@[simp] theorem modInactive_counters {f : Slot → Slot} : (modInactive f s).counters = s.counters := rfl
@[simp] theorem powerSpires_counters : (powerSpires s).counters = s.counters := rfl
@[simp] theorem countWatchdog_counters : (countWatchdog s).counters = s.counters := rfl
@[simp] theorem setClock_counters {ns : Nat} {frac : BitVec 32} : (setClock ns frac s).counters = s.counters := rfl
@[simp] theorem notePath_counters : (notePath s).counters = s.counters := by simp [notePath]
@[simp] theorem requalify_counters {gm : Nat} : (requalify gm s).counters = s.counters := by simp [requalify]

@[simp] theorem noteUtc_counters : (noteUtc s).counters = s.counters := by
  unfold noteUtc
  split <;> rfl

@[simp] theorem selectRow_counters {gm : Option Nat} {changed : Bool} :
    (selectRow gm changed s).counters = s.counters := by
  unfold selectRow
  split <;> simp

@[simp] theorem selected_counters {gm : Option Nat} : (selected gm s).counters = s.counters := by simp [selected]

@[simp] theorem masterLost_counters : (masterLost s).counters = s.counters := by
  unfold masterLost
  split <;> simp

@[simp] theorem trackNow_counters {gm : Nat} : (trackNow gm s).counters = s.counters := by simp [trackNow]
@[simp] theorem steer_counters : (steer s).counters = s.counters := by simp [steer]

@[simp] theorem measureAcquire_counters {gm : Nat} {offset : Int} :
    (measureAcquire gm offset s).counters = s.counters := by simp [measureAcquire]

@[simp] theorem noteOffset_counters {offset : Int} :
    (noteOffset offset s).counters = s.counters := by simp [noteOffset]

@[simp] theorem setTsq_counters {t : Nat} {q : Tsq} : (setTsq t q s).counters = s.counters := by simp [setTsq]

@[simp] theorem tsqRead_counters {t : Nat} : (tsqRead t s).2.counters = s.counters := by
  unfold tsqRead
  dsimp only
  split <;> simp

@[simp] theorem now32Read_counters : (now32Read s).2.counters = s.counters := rfl

@[simp] theorem fcRead_counters {tb : Nat} : (fcRead tb s).2.counters = s.counters := by
  unfold fcRead
  split <;> rfl

@[simp] theorem noteCause_counters {c cause : Nat} {hit : Nat → Bool} :
    (noteCause c cause hit s).counters = s.counters := rfl

@[simp] theorem spoilBuf_counters {c b : Nat} : (spoilBuf c b s).counters = s.counters := by simp [spoilBuf]

@[simp] theorem allocGroup_counters {i n : Nat} : (allocGroup i n s).counters = s.counters := by
  unfold allocGroup
  split <;> simp

@[simp] theorem closeGroup_counters {r : FrameRec} : (closeGroup r s).counters = s.counters := by
  unfold closeGroup
  split <;> rfl

@[simp] theorem retakeUnits_counters {c : Nat} : (retakeUnits c s).counters = s.counters := by simp [retakeUnits]

@[simp] theorem acceptOpen_counters {d : Bool} {c : Cmd} {f : Fields} :
    (acceptOpen d c f s).counters = s.counters := by
  simp [acceptOpen]

@[simp] theorem moveComp_counters {c old new : Nat} : (moveComp c old new s).counters = s.counters := rfl

@[simp] theorem modifyState_counters {c : Cmd} {f : Fields} :
    (modifyState c f s).counters = s.counters := by simp [modifyState]

@[simp] theorem releaseFrame_counters {r : FrameRec} : (releaseFrame r s).counters = s.counters := rfl
@[simp] theorem dropFrame_counters {r : FrameRec} : (dropFrame r s).counters = s.counters := rfl
@[simp] theorem closeCtx_counters {c : Nat} : (closeCtx c s).counters = s.counters := rfl

@[simp] theorem settleClosing_counters {c : Nat} :
    (settleClosing c s).counters = s.counters := by simp [settleClosing]

@[simp] theorem storedRatio_counters {x : Ctx} : (storedRatio x s).2.counters = s.counters := by
  unfold storedRatio
  dsimp only
  split <;> simp

@[simp] theorem noteSpill_counters {s0 : State} : (noteSpill s0 s).counters = s.counters := by simp [noteSpill]
@[simp] theorem addTask_counters {t : Task} : (addTask s t).counters = s.counters := by simp [addTask]
@[simp] theorem addReady_counters {t : Task} : (addReady s t).counters = s.counters := by simp [addReady]
@[simp] theorem promote_counters : (promote s).counters = s.counters := by simp [promote]
@[simp] theorem forcePorts_counters {c n : Nat} {b : Bool} : (forcePorts c n b s).counters = s.counters := rfl

@[simp] theorem checkLadder_counters {c n : Nat} {b : Bool} : (checkLadder c n b s).counters = s.counters := by
  unfold checkLadder
  split <;> simp

@[simp] theorem bindFrame_counters {r : FrameRec} {k level : Nat} {till : Option Int} :
    (bindFrame r k level till s).counters = s.counters := by simp [bindFrame]

@[simp] theorem takeTask_counters {t : Task} : (takeTask t s).counters = s.counters := rfl
@[simp] theorem dropCold_counters : (dropCold s).counters = s.counters := rfl
@[simp] theorem releaseSpire_counters {c i : Nat} : (releaseSpire c i s).counters = s.counters := rfl

@[simp] theorem flush_counters {c : Nat} : (flush c s).counters = s.counters := by
  unfold flush; exact foldl_counters fun _ _ => by rfl

@[simp] theorem showSlotNow_counters {c n : Nat} : (showSlotNow c n s).counters = s.counters := by simp [showSlotNow]

@[simp] theorem openCtxFrame_counters {c n : Nat} :
    (openCtxFrame c n s).counters = s.counters := by simp [openCtxFrame]

@[simp] theorem releaseEncode_counters {c n : Nat} : (releaseEncode c n s).counters = s.counters := rfl
@[simp] theorem setLaunch_counters {c n : Nat} : (setLaunch c n s).counters = s.counters := rfl
@[simp] theorem shiftLaunches_counters {tb : Nat} {d : Int} : (shiftLaunches tb d s).counters = s.counters := rfl

@[simp] theorem setRows_counters {c n i rows : Nat} {lines : List (List Nat × List Nat × List Nat)} :
    (setRows c n i rows lines s).counters = s.counters := by simp [setRows]

@[simp] theorem setPyramids_counters {c n i : Nat} {quarter sixteenth : List (List Nat)} :
    (setPyramids c n i quarter sixteenth s).counters = s.counters := by
  unfold setPyramids
  split <;> rfl

@[simp] theorem sourceFailed_counters {c addr : Nat} {pyramid : Bool} {port : Nat} :
    (sourceFailed c addr pyramid port s).counters = s.counters := by
  unfold sourceFailed
  split <;> rfl

@[simp] theorem runAll_counters : (runAll s).counters = s.counters := rfl

@[simp] theorem rowComplete_counters {c n : Nat} {b : Bool} {row : Nat} :
    (rowComplete c n b row s).counters = s.counters := by
  unfold rowComplete
  dsimp only
  (repeat' split) <;> simp

@[simp] theorem buildPic_counters {c n : Nat} {b : Bool} {i : Nat} : (buildPic c n b i s).counters = s.counters := by
  unfold buildPic
  split <;> rfl

@[simp] theorem finishPic_counters {c n : Nat} {b : Bool} {i : Nat} :
    (finishPic c n b i s).counters = s.counters := by
  unfold finishPic
  split <;> simp

@[simp] theorem noteFit_counters {c n : Nat} {b : Bool} : (noteFit c n b s).counters = s.counters := by
  unfold noteFit
  split <;> simp

@[simp] theorem stageCtu_counters {u : Run} {c : CtuRec} : (stageCtu u c s).counters = s.counters := rfl

@[simp] theorem drawParts_counters {most n : Nat} : (drawParts most n s).2.counters = s.counters := by
  induction n generalizing most s with
  | zero => rfl
  | succ n ih => exact ih

@[simp] theorem handOffAll_counters {r : FrameRec} {x : Ctx} {sl : List Slice} {bits : List Nat}
    {cap : List (BitVec 24)} {fi : Nat} : (handOffAll s r x sl bits cap fi).counters = s.counters :=
  foldl_counters fun _ _ => by rfl

@[simp] theorem freeDomesOf_counters {r : FrameRec} : (freeDomesOf r s).counters = s.counters := rfl
@[simp] theorem reproject_counters : (reproject s).counters = s.counters := by simp [reproject]
@[simp] theorem enterProfile_counters {p : Nat} : (enterProfile p s).counters = s.counters := by simp [enterProfile]
@[simp] theorem persistItem_counters {c : Nat} {f : Fields} : (persistItem c f s).counters = s.counters := rfl
@[simp] theorem startOut_counters {c n : Nat} {anc : List AncPkt} : (startOut c n anc s).counters = s.counters := rfl
@[simp] theorem irapSpace_counters {c : Nat} : (irapSpace c s).counters = s.counters := rfl

@[simp] theorem completeSource_counters {source format rate : Nat} {stamp : Option Nat} {anc : List AncPkt} :
    (completeSource source format rate stamp anc s).counters = s.counters := by simp [completeSource]

@[simp] theorem setupRing_counters {id : Nat} : (setupRing id s).counters = s.counters := by simp [setupRing]

@[simp] theorem layerState'_counters {c : Nat} {f : Fields} :
    (layerState' c f s).counters = s.counters := by simp [layerState']

@[simp] theorem placeAsset_counters {n : Nat} : (placeAsset n s).2.counters = s.counters := by
  unfold placeAsset
  dsimp only
  split <;> simp

@[simp] theorem refreshBank_counters {r b : Nat} : (refreshBank r b s).counters = s.counters := rfl
@[simp] theorem noteScrub_counters {a : Nat} : (noteScrub a s).counters = s.counters := rfl
@[simp] theorem askSetpoint_counters {d : Nat} : (askSetpoint d s).counters = s.counters := rfl
@[simp] theorem engineIdle_counters : (engineIdle s).counters = s.counters := rfl
@[simp] theorem raiseScrub_counters {c : Nat} : (raiseScrub c s).counters = s.counters := rfl
@[simp] theorem noteTraining_counters : (noteTraining s).counters = s.counters := foldl_counters fun _ _ => by rfl
@[simp] theorem startRun_counters {c : Nat} : (startRun c s).counters = s.counters := rfl
@[simp] theorem resumeDomain_counters {d : Nat} : (resumeDomain d s).counters = s.counters := by simp [resumeDomain]
@[simp] theorem pauseForTile_counters {t c : Nat} : (pauseForTile t c s).counters = s.counters := rfl

@[simp] theorem attachUnit_counters {c : Nat} {old new : Nat} :
    (attachUnit c old new s).counters = s.counters := by simp [attachUnit]

@[simp] theorem resumeChan_counters {c : Nat} : (resumeChan c s).counters = s.counters := by simp [resumeChan]

@[simp] theorem feedWrite_counters {n : Nat} {l : List Byte} :
    (feedWrite n l s).counters = s.counters := by simp [feedWrite]

@[simp] theorem readRing_counters {i : Nat} {muted : Bool} {t : Int} {n : Nat} :
    (readRing i muted t n s).2.counters = s.counters := by
  unfold readRing
  (repeat' split) <;> simp

@[simp] theorem frameAudio_counters {comp : Nat} {x : Comp} {n : Nat} :
    (frameAudio comp x n s).2.counters = s.counters :=
  foldl_snd_counters fun _ _ => by simp

@[simp] theorem embedded_counters {comp : Nat} {x : Comp} {n most : Nat} :
    (embedded comp x n most s).2.counters = s.counters := frameAudio_counters

@[simp] theorem unitAudio_counters {comp : Nat} {x : Comp} {n pts : Nat} :
    (unitAudio comp x n pts s).2.counters = s.counters := frameAudio_counters

@[simp] theorem modLanes_counters {l : List Nat} {f : Lane → Lane} :
    (modLanes l f s).counters = s.counters := foldl_counters fun _ _ => by rfl

@[simp] theorem setPrecode_counters {key : Nat} {tx rx : Bool} :
    (setPrecode key tx rx s).counters = s.counters := by simp [setPrecode]

@[simp] theorem afterAneg_counters {key : Nat} : (afterAneg key s).counters = s.counters := by simp [afterAneg]

@[simp] theorem embedAudio_counters {m : Nat} {audio : List (List Nat)} :
    (embedAudio m audio s).counters = s.counters := rfl

@[simp] theorem forgetCarried_counters {t : Nat} : (forgetCarried t s).counters = s.counters := rfl
@[simp] theorem judgeSentinels_counters : (judgeSentinels s).counters = s.counters := rfl
@[simp] theorem noteMember_counters {r : RxFrame} : (noteMember r s).counters = s.counters := rfl

@[simp] theorem loadOf_counters {u : EgUnit} {q : EFlow} : (loadOf u q s).2.counters = s.counters := by
  unfold loadOf
  dsimp only
  (repeat' split) <;> simp

@[simp] theorem startSeq_counters {f : Fields} {q : EFlow} : (startSeq f q s).2.counters = s.counters := by
  unfold startSeq
  dsimp only
  (repeat' split) <;> simp

@[simp] theorem followGate_counters : (followGate s).counters = s.counters := by
  unfold followGate; exact foldl_counters fun _ _ => by rfl

@[simp] theorem sentEvent_counters {p k : Nat} : (sentEvent p k s).counters = s.counters := by
  unfold sentEvent
  split <;> rfl

@[simp] theorem queueHost_counters {f : Fields} {p : Nat} : (queueHost f p s).counters = s.counters := rfl

@[simp] theorem corrRead_counters {tb : Nat} : (corrRead tb s).2.counters = s.counters := by
  unfold corrRead
  dsimp only
  (repeat' split) <;> simp

@[simp] theorem clearIrq_counters {b : Nat} {v : Word} : (clearIrq b v s).counters = s.counters := by simp [clearIrq]

@[simp] theorem w1cWrite_counters {off : Nat} {value meets : Word} :
    (w1cWrite off value meets s).counters = s.counters := by simp [w1cWrite]

@[simp] theorem ringWrite_counters {r o : Nat} {v : Word} : (ringWrite r o v s).counters = s.counters := by
  unfold ringWrite
  split <;> split <;> simp

@[simp] theorem cmdWrite_counters {o : Nat} {v : Word} : (cmdWrite o v s).counters = s.counters := by
  unfold cmdWrite
  (repeat' split) <;> simp

@[simp] theorem chkWrite_counters {n o : Nat} {v : Word} : (chkWrite n o v s).counters = s.counters := by
  unfold chkWrite
  split <;> simp

@[simp] theorem regWrite_counters {off : Nat} {v : Word} :
    (regWrite off v s).counters = s.counters := by simp [regWrite]

@[simp] theorem popRing_counters {r : Nat} : (popRing r s).counters = s.counters := rfl
@[simp] theorem boundaryCtx_counters {c n : Nat} : (boundaryCtx c n s).counters = s.counters := by simp [boundaryCtx]
@[simp] theorem unpark_counters {t : Nat} {j : Job} : (unpark t j s).counters = s.counters := by simp [unpark]

end Sys2Proof.Machine
end

section
/-! PROOFS. A table of counters in range (R11) stays so under what counts, function by function in the model's order. -/

namespace Sys2Proof.Machine

-- One proof at a time: elaborated side by side, so many short proofs take more threads than the check's memory holds.
set_option Elab.async false

variable {s : State}

/-- A table of counters in canonical form, each counter within the range of its register (R11). -/
def InRange (t : Tab Nat) : Prop := tabWf 0 none t = true ∧ ∀ k, tget 0 t k ≤ counterMax k * counterUnit k

theorem inRange_nil : InRange [] := ⟨rfl, fun _ => Nat.zero_le _⟩

/-- A write of a value that the register holds keeps the table in range. -/
theorem InRange.tset {t : Tab Nat} (h : InRange t) {k v : Nat} (hv : v ≤ counterMax k * counterUnit k) :
    InRange (tset 0 t k v) := by
  refine ⟨tabWf_tset h.1 k v, fun j => ?_⟩
  by_cases e : j = k
  · rw [e, tget_tset_same h.1]; exact hv
  · rw [tget_tset_other h.1 v e]; exact h.2 j

@[simp] theorem InRange.count {t : Tab Nat} (h : InRange t) {k n : Nat} :
    InRange (Machine.tset 0 t k (min (counterMax k * counterUnit k) (tget 0 t k + n))) := h.tset (Nat.min_le_left ..)

theorem bump_inRange {k n : Nat} (h : InRange s.counters) : InRange (bump k n s).counters := h.count

theorem takeCounter_inRange {off : Nat} (h : InRange s.counters) : InRange (takeCounter off s).2.counters :=
  h.tset (Nat.zero_le _)

theorem foldl_inRange {β : Type} {f : State → β → State} {l : List β}
    (hf : ∀ t x, InRange t.counters → InRange (f t x).counters) (h : InRange s.counters) :
    InRange (l.foldl f s).counters := by
  induction l generalizing s with
  | nil => exact h
  | cons x l ih => exact ih (hf _ _ h)

/-! ### Events -/

@[simp] theorem offer_inRange {e : Event} {i : Nat} {u : Sub} (h : InRange s.counters) :
    InRange (offer e i u s).counters := by
  unfold offer
  split
  · exact h
  · split
    · simp [h, apply_ite InRange]
    · split <;> simp [h]

@[simp] theorem emit_inRange {code ctx source : Nat} {l : List Byte} (h : InRange s.counters) :
    InRange (emit code ctx source l s).counters := by
  refine foldl_inRange (fun t i ht => ?_) h
  split
  · exact offer_inRange ht
  · exact ht

@[simp] theorem internalEvent_inRange {kind core ctx opcode : Nat} {tag : Word} (h : InRange s.counters) :
    InRange (internalEvent kind core ctx opcode tag s).counters := by
  unfold internalEvent
  exact emit_inRange h

/-! ### Pending commands -/

@[simp] theorem cancelOne_inRange {p : Pend} {cause : Nat} (h : InRange s.counters) :
    InRange (cancelOne p cause s).counters := by
  rw [cancelOne, undoOpen_counters]
  exact emit_inRange h

@[simp] theorem cancelPend_inRange {sel : Pend → Bool} {cause : Nat} (h : InRange s.counters) :
    InRange (cancelPend sel cause s).counters := by
  refine foldl_inRange (fun t p ht => ?_) h
  split
  · exact cancelOne_inRange ht
  · split
    · exact cancelOne_inRange ht
    · exact ht

/-- What an opcode does to the state keeps the counters in range: its acceptance, its action and what follows the
reply. -/
structure Op.KeepsRange (op : Op) : Prop where
  accept : ∀ c f s, InRange s.counters → InRange (op.accept c f s).counters := by exact fun _ _ _ h => h
  apply : ∀ c f s, InRange s.counters → InRange (op.apply c f s).s.counters
  after : ∀ c f s, InRange s.counters → InRange (op.after c f s).counters := by exact fun _ _ _ h => h

/-- Every opcode of a table keeps the counters in range. -/
def OpTable.KeepsRange (ops : OpTable) : Prop := ∀ n op, ops n = some op → op.KeepsRange

theorem effectPend_inRange {ops : OpTable} {p : Pend} (ho : ops.KeepsRange) (h : InRange s.counters) :
    InRange (effectPend ops p s).counters := by
  unfold effectPend
  split
  · exact h
  next op e =>
    have ha := (ho _ op e).apply p.cmd p.f
    split
    · exact cancelPend_inRange h
    · split
      · split
        · exact h
        · exact ha _ h
      · split
        · exact ha _ h
        · exact cancelPend_inRange h

theorem effectAll_inRange {ops : OpTable} {tb : Nat} {n : Int} (ho : ops.KeepsRange) (h : InRange s.counters) :
    InRange (effectAll ops tb n s).counters := by
  refine foldl_inRange (fun t p ht => ?_) h
  split
  · exact effectPend_inRange ho ht
  · exact ht

/-! ### Replies and packets -/

@[simp] theorem clampedEvent_inRange {c : Cmd} {r : Reply} (h : InRange s.counters) :
    InRange (clampedEvent c r s).counters := by
  unfold clampedEvent
  split
  · exact emit_inRange h
  · exact h

@[simp] theorem deliver_inRange {c : Cmd} {r : Reply} (h : InRange s.counters) :
    InRange (deliver c r s).counters := by
  rw [deliver, sendReply_counters]
  exact clampedEvent_inRange h

@[simp] theorem answerJob_inRange {held : Bool} {c : Cmd} {r : Reply} (h : InRange s.counters) :
    InRange (answerJob held c r s).counters := by
  unfold answerJob
  split
  · rw [finishCmd_counters]; exact deliver_inRange h
  · exact clampedEvent_inRange h

/-- A run packet's state, and what follows its reply, keep the counters in range. -/
def RunInRange (x : State × Option Reply × (State → State)) : Prop :=
  InRange x.1.counters ∧ ∀ t : State, InRange t.counters → InRange (x.2.2 t).counters

theorem RunInRange.mk {t : State} {r : Option Reply} {k : State → State} (ht : InRange t.counters)
    (hk : ∀ u : State, InRange u.counters → InRange (k u).counters) : RunInRange (t, r, k) := ⟨ht, hk⟩

/-- Nothing follows the reply. -/
theorem RunInRange.plain {t : State} {r : Option Reply} (ht : InRange t.counters) : RunInRange (t, r, id) :=
  .mk ht fun _ hu => hu

theorem faulted_inRange {op : Op} {c : Cmd} {core : Nat} (h : InRange s.counters) :
    RunInRange (faulted op c core s) := by
  unfold faulted
  exact .plain (internalEvent_inRange h)

theorem runOp_inRange {ops : OpTable} {op : Op} {c : Cmd} (ho : op.KeepsRange) (h : InRange s.counters) :
    RunInRange (runOp ops op c s) := by
  unfold runOp
  split
  · exact .plain h
  next f cl e _ =>
    have ha : InRange (op.accept c f s).counters := ho.accept c f s h
    split
    · exact faulted_inRange h
    · split
      · exact .plain ha
      · split
        · exact .plain ha
        · split
          · exact .plain h
          · exact .mk (ho.apply c f _ ha) (ho.after c f)

theorem runCmd_inRange {ops : OpTable} {op : Op} {c : Cmd} (ho : op.KeepsRange) (h : InRange s.counters) :
    InRange (runCmd ops op c s).counters := by
  obtain ⟨ht, hk⟩ := runOp_inRange (ops := ops) (c := c) ho h
  unfold runCmd
  generalize runOp ops op c s = x at ht hk
  obtain ⟨t, r, k⟩ := x
  cases r with
  | none => exact ht
  | some r => exact hk _ (deliver_inRange ht)

theorem runBytes_inRange {ops : OpTable} {c : Cmd} {l : List Byte} (ho : ops.KeepsRange) (h : InRange s.counters) :
    RunInRange (runBytes ops c l s) := by
  unfold runBytes
  dsimp only
  split
  · exact .plain h
  · split
    · exact .plain h
    · split
      · exact .plain h
      · split
        · exact .plain h
        · split
          · exact .plain (bump_inRange h)
          · split
            · exact .plain (bump_inRange h)
            · have ha : InRange (if isStored c.via then s else acceptCounter l s).counters := by simp [h]
              split
              · exact .plain ha
              next op e => exact runOp_inRange (ho _ op e) ha

/-! ### Device states, health, resets -/

theorem stateEvent_inRange {x : DevState × DevState × Nat} (h : InRange s.counters) :
    InRange (stateEvent x s).counters := by
  unfold stateEvent
  exact emit_inRange h

theorem changeState_inRange {new : DevState} {cause : Nat} (h : InRange s.counters) :
    InRange (changeState new cause s).counters := by
  unfold changeState
  dsimp only
  split
  · exact h
  · cases new
    case off => exact h
    case boot => exact h
    case degraded => exact foldl_inRange (fun _ _ => stateEvent_inRange) h
    all_goals exact foldl_inRange (fun _ _ => stateEvent_inRange) h

theorem settleDegraded_inRange (h : InRange s.counters) : InRange (settleDegraded s).counters := by
  unfold settleDegraded
  split
  · exact changeState_inRange h
  · exact h

theorem settleRecovered_inRange (h : InRange s.counters) : InRange (settleRecovered s).counters := by
  unfold settleRecovered
  split
  · exact changeState_inRange h
  · exact h

theorem settleOpen_inRange (h : InRange s.counters) : InRange (settleOpen s).counters := by
  unfold settleOpen
  dsimp only
  split
  · split
    · exact changeState_inRange h
    · exact h
  · split
    · exact h
    · exact changeState_inRange h
  · split
    · exact h
    · exact changeState_inRange h
  · exact h

theorem pathEvent_inRange {t cause : Nat} (h : InRange s.counters) : InRange (pathEvent t cause s).counters := by
  unfold pathEvent
  exact emit_inRange h

theorem interlock_inRange (h : InRange s.counters) : InRange (interlock s).counters := by
  unfold interlock
  split
  · exact h
  · split
    · exact h
    · split
      · exact h
      · exact pathEvent_inRange (bump_inRange h)

theorem reportBad_inRange {t : Nat} (h : InRange s.counters) : InRange (reportBad t s).counters := by
  unfold reportBad
  exact pathEvent_inRange h

theorem settleTurrets_inRange (h : InRange s.counters) : InRange (settleTurrets s).counters := by
  have hr : InRange (refreshTurret 1 (refreshTurret 0 s)).counters := by simp [h]
  unfold settleTurrets
  generalize refreshTurret 1 (refreshTurret 0 s) = u at hr
  dsimp only
  split
  · exact hr
  · refine interlock_inRange (foldl_inRange (fun _ _ => reportBad_inRange) ?_)
    rw [foldl_counters fun _ _ => modHealth_counters ..]
    exact hr

/-- What every step brings up to date keeps the counters in range. -/
theorem settle_inRange {s0 : State} (h : InRange s.counters) : InRange (settle s0 s).counters := by
  rw [settle, sendLines_counters, settleEvents_counters, settleTrip_counters]
  exact settleDegraded_inRange (settleOpen_inRange (settleTurrets_inRange (by rwa [settleMembers_counters])))

theorem resetAs_inRange {k : ResetKind} {last : Nat} (h : InRange s.counters) :
    InRange (resetAs k last s).counters := by
  unfold resetAs
  split
  · split
    · exact h
    · exact inRange_nil
  · exact changeState_inRange inRange_nil

theorem enterSafeState_inRange {cause : Nat} (h : InRange s.counters) :
    InRange (enterSafeState cause s).counters := by
  have hc : InRange (cancelPend (fun p => p.cmd.ctx ≠ 0xFFFF) 1 s).counters := cancelPend_inRange h
  unfold enterSafeState
  generalize cancelPend _ 1 s = u at hc
  exact changeState_inRange (by simp [hc])

/-! ### Datagrams -/

theorem police_inRange {p counted : Nat} (h : InRange s.counters) : InRange (police p counted s).2.counters := by
  unfold police
  extract_lets x need
  rw [apply_ite Prod.snd]
  split
  · dsimp only
    rw [raise_counters]
    exact bump_inRange (by rwa [setPolicer_counters])
  · exact h

theorem takeDatagram_inRange {d : Datagram} (h : InRange s.counters) : InRange (takeDatagram d s).counters := by
  unfold takeDatagram
  dsimp only
  split
  · exact bump_inRange h
  · split
    · split <;> exact h
    · split
      · exact bump_inRange h
      · exact h

theorem takeCommand_inRange {d : Datagram} (h : InRange s.counters) : InRange (takeCommand d s).counters := by
  unfold takeCommand
  split
  · exact h
  · split
    · exact h
    · split
      · exact takeDatagram_inRange h
      · split
        · split
          · exact takeDatagram_inRange h
          · exact h
        · split <;> exact h

/-! ### Check units -/

theorem mismatch_inRange {n : Nat} {u : Chk} {e c : Word} (h : InRange s.counters) :
    InRange (mismatch n u e c s).counters := by
  unfold mismatch
  exact emit_inRange (bump_inRange h)

theorem firmwareCheck_inRange {client object : Nat} {l : List Byte} {expected : Word} (h : InRange s.counters) :
    InRange (firmwareCheck client object l expected s).2.counters := by
  unfold firmwareCheck
  extract_lets x
  split
  · exact h
  · extract_lets _ u t
    have ht : InRange t.counters := h
    rw [apply_ite Prod.snd]
    split
    · exact ht
    · dsimp only
      exact mismatch_inRange ht

/-! ### Supply, sensors, the throttle controller -/

theorem supplyDown_inRange {vin outcome kind : Nat} : InRange (supplyDown vin outcome kind s).counters := by
  unfold supplyDown
  exact changeState_inRange inRange_nil

theorem sensorEvent_inRange {n kind : Nat} (h : InRange s.counters) : InRange (sensorEvent n kind s).counters := by
  unfold sensorEvent
  exact emit_inRange h

theorem faultSensor_inRange {n kind : Nat} (h : InRange s.counters) : InRange (faultSensor n kind s).counters := by
  unfold faultSensor
  exact sensorEvent_inRange (by simp [h])

theorem supplyEvent_inRange {kind : Nat} (h : InRange s.counters) : InRange (supplyEvent kind s).counters := by
  unfold supplyEvent
  split
  · exact h
  · exact emit_inRange h

theorem raiseWarn_inRange {vin kind : Nat} (h : InRange s.counters) : InRange (raiseWarn vin kind s).counters := by
  unfold raiseWarn
  exact supplyEvent_inRange (bump_inRange h)

theorem throttle_inRange (h : InRange s.counters) : InRange (throttle s).counters := by
  unfold throttle
  simp [h, apply_ite InRange]

/-! ### Boot -/

theorem sendOwed_inRange (h : InRange s.counters) : InRange (sendOwed s).counters := by
  unfold sendOwed
  refine foldl_inRange (fun t x ht => ?_) (foldl_inRange (fun _ _ => internalEvent_inRange) h)
  exact emit_inRange ht

theorem trainEvent_inRange {ch step sp sub outcome : Nat} {margin : Int} (h : InRange s.counters) :
    InRange (trainEvent ch step sp sub outcome margin s).counters := by
  unfold trainEvent
  exact emit_inRange h

/-! ### Belfry -/

theorem stepClock_inRange {d : Int} (h : InRange s.counters) : InRange (stepClock d s).counters := by
  unfold stepClock
  exact bump_inRange h

theorem stepRefused_inRange {kind path gm : Nat} {offset : Int} (h : InRange s.counters) :
    InRange (stepRefused kind path offset gm s).counters := by
  unfold stepRefused
  exact emit_inRange h

theorem refuse_inRange {row12 : Bool} {bound offset : Int} {gm : Nat} (h : InRange s.counters) :
    InRange (refuse row12 bound offset gm s).counters := by
  unfold refuse
  exact stepRefused_inRange (by simp [h])

theorem stepByMean_inRange (h : InRange s.counters) : InRange (stepByMean s).counters := by
  unfold stepByMean
  rw [modPtp_counters]
  exact stepClock_inRange h

theorem row6_inRange {jump : Int} {t : State} (h : InRange s.counters) (e : row6 jump s = some t) :
    InRange t.counters := by
  unfold row6 at e
  rw [Option.ite_none_right_eq_some] at e
  obtain ⟨-, e⟩ := e
  rw [← Option.some.inj e, modPtp_counters, setServo_counters]
  exact stepByMean_inRange h

theorem getD_row6_inRange {jump : Int} (h : InRange s.counters) : InRange ((row6 jump s).getD s).counters := by
  cases e : row6 jump s with
  | none => exact h
  | some t => exact row6_inRange h e

theorem measureTracking_inRange {gm : Nat} (h : InRange s.counters) : InRange (measureTracking gm s).counters := by
  unfold measureTracking
  dsimp only
  split
  · exact refuse_inRange h
  · split
    next t e => exact row6_inRange h e
    · simp [h]

theorem measureRefused_inRange {gm : Nat} {offset : Int} (h : InRange s.counters) :
    InRange (measureRefused gm offset s).counters := by
  unfold measureRefused
  split
  · exact h
  · dsimp only
    split
    · exact h
    · split
      · exact stepRefused_inRange h
      · exact h

theorem measureHoldover_inRange {gm : Nat} {offset : Int} (h : InRange s.counters) :
    InRange (measureHoldover gm offset s).counters := by
  have ht : InRange (trackNow gm s).counters := by simp [h]
  unfold measureHoldover
  extract_lets p jump row14
  split
  · exact getD_row6_inRange ht
  · split
    · exact ht
    · exact measureRefused_inRange h

theorem measureRequalify_inRange {gm k : Nat} (h : InRange s.counters) :
    InRange (measureRequalify gm k s).counters := by
  unfold measureRequalify
  dsimp only
  split
  · exact h
  · split
    · simp [h]
    · exact refuse_inRange h

theorem tsqPush_inRange {t ident sec ns : Nat} (h : InRange s.counters) :
    InRange (tsqPush t ident sec ns s).counters := by
  unfold tsqPush
  dsimp only
  split
  · simp [h]
  · split
    · exact bump_inRange h
    · exact emit_inRange (by simp [h])

/-! ### Frames, segments and Domes -/

theorem floorEvent_inRange {r : FrameRec} {x : Ctx} (h : InRange s.counters) :
    InRange (floorEvent r x s).counters := by
  unfold floorEvent
  split
  · exact h
  · exact emit_inRange (bump_inRange h)

theorem closeEffect_inRange {c : Nat} {t : Option Int} (h : InRange s.counters) :
    InRange (closeEffect c t s).counters := by
  unfold closeEffect
  extract_lets later u gone v
  have hv : InRange v.counters := by
    rw [foldl_counters fun _ _ => by rfl]
    exact cancelPend_inRange h
  split
  · exact hv
  · rwa [settleClosing_counters, modCtx_counters]

theorem dispatchSpire_inRange {i : Nat} (h : InRange s.counters) : InRange (dispatchSpire i s).counters := by
  unfold dispatchSpire
  dsimp only
  split
  · split
    · exact h
    · split
      · exact h
      · split
        · split
          · exact bump_inRange h
          · exact h
        · simp [h]
  · exact h

theorem dispatchDome_inRange {d : Nat} (h : InRange s.counters) : InRange (dispatchDome d s).counters := by
  unfold dispatchDome
  extract_lets p
  split
  · split
    · exact h
    · extract_lets g next
      clear_value next
      split
      · exact h
      · split
        · split
          · exact bump_inRange h
          · exact h
        · exact h
  · exact h

theorem skipFrame_inRange {r : FrameRec} (h : InRange s.counters) : InRange (skipFrame r s).counters := by
  rw [skipFrame, promote_counters, settleClosing_counters, raise_counters]
  exact bump_inRange h

theorem releaseUnit_inRange {c slot : Nat} {bottom : Bool} {e : UnitEnd} (h : InRange s.counters) :
    InRange (releaseUnit c slot bottom e s).counters := by
  have ht : InRange (if e.truncated then modCtx c (tally 9 1) s else s).counters := by simp [h]
  unfold releaseUnit
  generalize (if e.truncated then modCtx c (tally 9 1) s else s) = t at ht
  dsimp only
  split
  · split
    · exact h
    · split
      · simp [ht]
      · split
        · exact skipFrame_inRange ht
        · simp [ht]
  · exact h

theorem startUnit_counters {c : Nat} {u : AccUnit} {t : State} (e : startUnit c s = some (u, t)) :
    t.counters = s.counters := by
  unfold startUnit at e
  dsimp only at e
  split at e
  · exact absurd e (by simp)
  · rw [Option.ite_none_left_eq_some] at e
    rw [← (Prod.mk.inj (Option.some.inj e.2)).2, addTask_counters]
    rfl

theorem pumpUnits_inRange {c n : Nat} (h : InRange s.counters) : InRange (pumpUnits c n s).counters := by
  induction n generalizing s with
  | zero => exact h
  | succ n ih =>
    rw [pumpUnits]
    split
    · exact h
    next u t e =>
      have ht : InRange t.counters := by rwa [startUnit_counters e]
      refine ih ?_
      split
      · exact releaseUnit_inRange ht
      · exact ht

theorem endUnit_inRange {c slot : Nat} {bottom : Bool} {e : UnitEnd} (h : InRange s.counters) :
    InRange (endUnit c slot bottom e s).counters := by
  unfold endUnit
  exact pumpUnits_inRange (releaseUnit_inRange h)

theorem fetchFailed_inRange {c buf addr port : Nat} (h : InRange s.counters) :
    InRange (fetchFailed c buf addr port s).counters := by
  unfold fetchFailed
  split
  · exact h
  · split
    · exact h
    · rw [modFrame_counters]
      split
      · exact bump_inRange h
      · exact h

/-- Counts put to several counters in turn. -/
theorem bumps_inRange {off : Nat → Nat} {l : List (Nat × Nat)} (h : InRange s.counters) :
    InRange (l.foldl (fun s p => if p.2 = 0 then s else bump (off p.1) p.2 s) s).counters := by
  refine foldl_inRange (fun t p ht => ?_) h
  split
  · exact ht
  · exact bump_inRange ht

theorem spireCounters_inRange {i memwait : Nat} {g : Geo} {u : Run} (h : InRange s.counters) :
    InRange (spireCounters i g u memwait s).counters := by
  unfold spireCounters
  exact bumps_inRange h

theorem endSegment_inRange {i memwait : Nat} {u : Run} (h : InRange s.counters) :
    InRange (endSegment i u memwait s).counters := by
  unfold endSegment
  split
  · exact h
  · extract_lets g u s1 s2 k note s3 s4 s5 s6
    have h1 : InRange s1.counters := spireCounters_inRange h
    have h6 : InRange s6.counters := by simp [s6, s5, s4, s3, s2, h1]
    split
    · split
      · exact h6
      · exact h6
    · exact h6

theorem stageAll_inRange {i memwait : Nat} {u : Run} {l : List CtuRec} (h : InRange s.counters) :
    InRange (stageAll i u memwait l s).counters := by
  induction l generalizing s with
  | nil => exact endSegment_inRange h
  | cons c l ih =>
    rw [stageAll]
    split
    · exact bump_inRange h
    · exact ih h

theorem shedEvent_inRange {c frame level cause shed gang sig source : Nat} (h : InRange s.counters) :
    InRange (shedEvent c frame level cause shed gang sig source s).counters := by
  unfold shedEvent
  exact emit_inRange h

theorem substituteOne_inRange {r : FrameRec} (h : InRange s.counters) : InRange (substituteOne s r).counters := by
  unfold substituteOne
  simp only [handOffAll_counters]
  refine shedEvent_inRange ?_
  simp [h]

theorem refEvent_inRange {r : FrameRec} {p : Pic} {n : RefName} (h : InRange s.counters) :
    InRange (refEvent r p n s).counters := by
  unfold refEvent
  exact emit_inRange h

theorem refEventDecode_inRange {r : FrameRec} {segs : Nat} {n : RefName} (h : InRange s.counters) :
    InRange (refEventDecode r segs n s).counters := by
  unfold refEventDecode
  exact emit_inRange h

theorem closeEncode_inRange {r : FrameRec} {late : Bool} (h : InRange s.counters) :
    InRange (closeEncode r late s).counters := by
  unfold closeEncode
  refine foldl_inRange (fun t p ht => foldl_inRange (fun _ _ => refEvent_inRange) ht) ?_
  refine floorEvent_inRange ?_
  have hd : InRange (drawParts r.hdr r.pics.length s).2.counters := by rwa [drawParts_counters]
  generalize drawParts r.hdr r.pics.length s = x at hd
  obtain ⟨heads, u⟩ := x
  dsimp only
  have hl : InRange (if late then bump 0x5E00C 1 u else u).counters := by
    split
    · exact bump_inRange hd
    · exact hd
  generalize (if late then bump 0x5E00C 1 u else u) = v at hl
  split
  · refine shedEvent_inRange (bump_inRange ?_)
    rw [handOffAll_counters]
    simp [hl]
  · rw [handOffAll_counters]
    simp [hl]

theorem closeDecode_inRange {r : FrameRec} (h : InRange s.counters) : InRange (closeDecode r s).counters := by
  unfold closeDecode
  refine foldl_inRange (fun _ _ => refEventDecode_inRange) ?_
  simp [h]

/-! ### Lantern and Cupola -/

theorem integrity_inRange {ctx image frame item kind tile : Nat} (h : InRange s.counters) :
    InRange (integrity ctx image frame item kind tile s).counters := by
  unfold integrity
  exact emit_inRange h

theorem checkTile_inRange {c item image n k : Nat} (h : InRange s.counters) :
    InRange (checkTile c item image n k s).counters := by
  unfold checkTile
  split
  · exact h
  · split
    · exact h
    · dsimp only
      split
      · exact integrity_inRange (bump_inRange h)
      · refine integrity_inRange ?_
        rw [modImage_counters]
        exact bump_inRange (bump_inRange h)

theorem checkLines_inRange {c n lo hi : Nat} {x : Comp} (h : InRange s.counters) :
    InRange (checkLines c x n lo hi s).counters := by
  unfold checkLines
  exact foldl_inRange (fun _ _ ht => foldl_inRange (fun _ _ => checkTile_inRange) ht) h

theorem scrubTile_inRange {image k : Nat} (h : InRange s.counters) : InRange (scrubTile image k s).counters := by
  unfold scrubTile
  split
  · exact h
  · split
    · exact h
    all_goals
      refine integrity_inRange ?_
      rw [modImage_counters]
      exact bump_inRange h

theorem restoreItems_inRange {c n : Nat} (h : InRange s.counters) : InRange (restoreItems c n s).counters := by
  unfold restoreItems
  refine foldl_inRange (fun t p ht => ?_) h
  dsimp only
  split
  · simp [ht]
  · exact integrity_inRange ht

theorem layerEvent_inRange {c i frame kind line run : Nat} {l : VLayer} (h : InRange s.counters) :
    InRange (layerEvent c i l frame kind line run s).counters := by
  unfold layerEvent
  exact emit_inRange h

theorem lateFrame_inRange {c i n kind line : Nat} {l : VLayer} (h : InRange s.counters) :
    InRange (lateFrame c i l n kind line s).counters := by
  unfold lateFrame
  extract_lets run t u
  have hu : InRange u.counters := by
    unfold u
    split
    · exact layerEvent_inRange h
    · exact h
  split
  · exact layerEvent_inRange hu
  · exact hu

theorem liveFrame_inRange {c i n : Nat} {l : VLayer} (h : InRange s.counters) :
    InRange (liveFrame c i l n s).counters := by
  unfold liveFrame
  split
  · exact h
  · exact layerEvent_inRange h

theorem endDirect_inRange {c i n : Nat} {l : VLayer} (h : InRange s.counters) :
    InRange (endDirect c i l n s).counters := by
  unfold endDirect
  dsimp only
  split
  · exact h
  · split
    · exact liveFrame_inRange h
    · exact lateFrame_inRange (bump_inRange h)

theorem startLayer_inRange {c i n : Nat} {prev : Option Nat} (h : InRange s.counters) :
    InRange (startLayer c i n prev s).counters := by
  unfold startLayer
  split
  · exact h
  · split
    · exact h
    · split
      · exact h
      · split
        · split
          · exact endDirect_inRange h
          · exact h
        · split
          · exact lateFrame_inRange (bump_inRange h)
          · exact liveFrame_inRange h

theorem startLine_inRange {c n : Nat} (h : InRange s.counters) : InRange (startLine c n s).counters := by
  unfold startLine
  split
  · exact h
  · dsimp only
    split
    · exact h
    · rw [modComp_counters]
      split
      · exact bump_inRange h
      · exact h

theorem startCompose_inRange {c n : Nat} (h : InRange s.counters) : InRange (startCompose c n s).counters := by
  unfold startCompose
  split
  · exact h
  next x e =>
    rw [startOut_counters]
    refine startLine_inRange ?_
    rw [modComp_counters]
    exact foldl_inRange (fun _ _ => startLayer_inRange) h

theorem missLine_inRange {c i n : Nat} {l : VLayer} {y : Int} (h : InRange s.counters) :
    InRange (missLine c i l n y s).counters := by
  unfold missLine
  exact lateFrame_inRange (bump_inRange h)

theorem checkDirect_inRange {c n hi : Nat} (h : InRange s.counters) : InRange (checkDirect c n hi s).counters := by
  unfold checkDirect
  refine foldl_inRange (fun t i ht => ?_) h
  split
  · exact ht
  · split
    · exact ht
    · split
      · exact ht
      · split
        · exact ht
        · dsimp only
          split
          · exact missLine_inRange ht
          · exact ht

theorem composeState_inRange {c : Nat} {f : Fields} (h : InRange s.counters) :
    InRange (composeState c f s).counters := by
  unfold composeState
  split
  · exact restoreItems_inRange h
  · exact h

/-! ### Memory -/

theorem rhEvent_inRange {port rank bank action row count : Nat} (h : InRange s.counters) :
    InRange (rhEvent port rank bank action row count s).counters := by
  unfold rhEvent
  exact emit_inRange h

theorem refreshManage_inRange {r b : Nat} (h : InRange s.counters) : InRange (refreshManage r b s).counters := by
  unfold refreshManage
  exact bump_inRange h

theorem rowTrigger_inRange {r b : Nat} {t : RowTrack} (h : InRange s.counters) :
    InRange (rowTrigger r b t s).counters := by
  have hu : InRange (bump 0xA0014 1 (refreshManage r b s)).counters := bump_inRange (refreshManage_inRange h)
  unfold rowTrigger
  generalize bump 0xA0014 1 (refreshManage r b s) = u at hu
  dsimp only
  split
  · exact rhEvent_inRange hu
  · exact rhEvent_inRange hu

theorem activate_inRange {port r b row : Nat} (h : InRange s.counters) :
    InRange (activate port r b row s).counters := by
  unfold activate
  extract_lets t upd u v
  have hv : InRange v.counters := by
    unfold v
    split
    · exact refreshManage_inRange h
    · exact h
  split
  · split
    · exact rowTrigger_inRange hv
    · exact hv
  · exact hv

theorem touchBank_inRange {port r b row : Nat} {others : Bool} (h : InRange s.counters) :
    InRange (touchBank port r b row others s).counters := by
  unfold touchBank
  extract_lets t u
  have hu : InRange u.counters := by
    unfold u t
    rw [modBank_counters]
    split
    · exact h
    · exact activate_inRange h
  split
  · exact hu
  · exact hu

theorem correctedError_inRange {r : Nat} (h : InRange s.counters) : InRange (correctedError r s).counters := by
  unfold correctedError
  extract_lets t hour u v
  have hu : InRange u.counters := by
    unfold u t
    split
    · exact bump_inRange h
    · exact bump_inRange h
  split
  · exact hu
  · exact hu

theorem draw_inRange {w : Nat} {t : State} (e : draw s = (w, t)) (h : InRange s.counters) : InRange t.counters := by
  have ht : (draw s).2 = t := by rw [e]
  rw [← ht]; exact h

theorem ownerEffect_inRange {owner object part port : Nat} (h : InRange s.counters) :
    InRange (ownerEffect owner object part port s).counters := by
  unfold ownerEffect
  split
  · simp [h]
  · simp [h]
  · simp [h]
  · exact fetchFailed_inRange (by simp [h])
  · exact bump_inRange h
  · exact h
  · exact h
  · exact h
  · exact h
  · extract_lets core
    split
    · exact h
    · exact internalEvent_inRange h
    · split
      next e t he =>
      split
      next c v hc =>
      extract_lets w
      have hw : InRange w.counters := mismatch_inRange (draw_inRange hc (draw_inRange he h))
      clear_value w
      split
      · exact hw
      · exact hw
  · exact h

theorem uncorrectable_inRange {a owner object part port : Nat} {scrub : Bool} (h : InRange s.counters) :
    InRange (uncorrectable a owner object part port scrub s).counters := by
  unfold uncorrectable
  refine ownerEffect_inRange ?_
  split
  · exact h
  · exact bump_inRange h

theorem requestErrors_inRange {q : MemReq} {scrub : Bool} (h : InRange s.counters) :
    InRange (requestErrors q scrub s).counters := by
  unfold requestErrors
  extract_lets t
  have ht : InRange t.counters := by
    unfold t
    split
    · exact correctedError_inRange h
    · exact h
  split
  · exact uncorrectable_inRange ht
  · exact ht

theorem requestWrite_inRange {q : MemReq} (h : InRange s.counters) : InRange (requestWrite q s).counters := by
  unfold requestWrite
  split
  · exact h
  · split
    · split
      · exact h
      · exact bump_inRange h
    · exact h

theorem noteUrgent_inRange {r : Nat} (h : InRange s.counters) : InRange (noteUrgent r s).counters := by
  unfold noteUrgent
  dsimp only
  split
  · exact h
  · exact bump_inRange h

theorem serveRequest_inRange {r : Nat} {w : Waiting} (h : InRange s.counters) :
    InRange (serveRequest r w s).counters := by
  unfold serveRequest
  exact requestErrors_inRange (requestWrite_inRange (touchBank_inRange h))

theorem commandSlot_inRange {r : Nat} (h : InRange s.counters) : InRange (commandSlot r s).counters := by
  unfold commandSlot
  split
  · exact h
  · have hu : InRange (noteUrgent r s).counters := noteUrgent_inRange h
    generalize noteUrgent r s = u at hu
    dsimp only
    split
    · exact hu
    · split
      · exact serveRequest_inRange hu
      · exact hu

theorem slotsTick_inRange (h : InRange s.counters) : InRange (slotsTick s).counters := by
  unfold slotsTick
  split
  · exact h
  · refine foldl_inRange (fun t r ht => ?_) h
    split
    · exact ht
    · exact commandSlot_inRange ht

theorem startLadder_inRange {c sub : Nat} {margin : Int} (h : InRange s.counters) :
    InRange (startLadder c sub margin s).counters := by
  unfold startLadder
  split
  · exact h
  · extract_lets t u v
    have hv : InRange v.counters := by
      unfold v
      rw [raise_counters]
      exact trainEvent_inRange h
    split
    · rwa [raiseScrub_counters]
    · rwa [askSetpoint_counters, modMem_counters]

theorem startLadders_inRange {failed sub : Nat} {margin : Int} (h : InRange s.counters) :
    InRange (startLadders failed sub margin s).counters := by
  unfold startLadders
  refine foldl_inRange (fun t c ht => ?_) h
  split
  · exact startLadder_inRange ht
  · exact ht

theorem ladderOutcome_inRange {c sub : Nat} {failed : Bool} {margin : Int} (h : InRange s.counters) :
    InRange (ladderOutcome c sub failed margin s).counters := by
  unfold ladderOutcome
  extract_lets was t
  have ht : InRange t.counters := h
  split
  · rw [raise_counters]
    refine trainEvent_inRange ?_
    rwa [modChan_counters]
  · rw [askSetpoint_counters, raise_counters]
    refine trainEvent_inRange ?_
    rw [raiseScrub_counters, modChan_counters, raise_counters]
    exact trainEvent_inRange ht

theorem fst_inRange {α : Type} {p : State × α} {t : State} {a : α} (e : p = (t, a)) (h : InRange p.1.counters) :
    InRange t.counters := by
  rwa [e] at h

theorem snd_inRange {α : Type} {p : α × State} {t : State} {a : α} (e : p = (a, t)) (h : InRange p.2.counters) :
    InRange t.counters := by
  rwa [e] at h

/-! ### Storage and transfers -/

theorem dropTrigger_inRange {u : Option Nat} (h : InRange s.counters) : InRange (dropTrigger u s).counters := by
  unfold dropTrigger
  split
  · rw [raise_counters]
    exact bump_inRange h
  · exact bump_inRange h

theorem triggerChan_inRange {c : Nat} {u : Option Nat} (h : InRange s.counters) :
    InRange (triggerChan c u s).counters := by
  unfold triggerChan
  dsimp only
  split
  · simp [h]
  · split
    · exact dropTrigger_inRange h
    · exact h
  · split
    · exact dropTrigger_inRange h
    · exact h
  · exact h

theorem writeDest_inRange {e : Elem} {off : Nat} {l : List Byte} (h : InRange s.counters) :
    InRange (writeDest e off l s).counters := by
  unfold writeDest
  split
  · split
    · rw [raise_counters]
      exact bump_inRange h
    · simp [h]
  · exact h
  · exact h

theorem scatter_inRange {x : DmaChan} {q : DmaIn} {l : List Nat} {off : Nat} {b : List Byte}
    (h : InRange s.counters) : InRange (scatter x q l off b s).1.counters := by
  induction l generalizing off b s with
  | nil => exact h
  | cons i l ih =>
    unfold scatter
    split
    · exact h
    · dsimp only
      split
      · exact ih h
      · split
        · exact h
        · split
          · exact h
          · split
            · exact writeDest_inRange h
            · exact ih (writeDest_inRange h)

theorem closeAttached_inRange {x : DmaChan} (h : InRange s.counters) : InRange (closeAttached x s).1.counters := by
  unfold closeAttached
  extract_lets n u r want fails c t
  have ht : InRange t.counters := h
  split
  · exact h
  · dsimp only
    split
    · exact mismatch_inRange ht
    · exact ht

theorem triggerChained_inRange {c : Nat} (h : InRange s.counters) : InRange (triggerChained c s).counters := by
  unfold triggerChained
  refine foldl_inRange (fun t d ht => ?_) h
  dsimp only
  split
  · exact triggerChan_inRange ht
  · exact ht

theorem endRun_inRange {c err : Nat} (h : InRange s.counters) : InRange (endRun c err s).counters := by
  unfold endRun
  extract_lets x
  split
  next t fails e =>
  have ht : InRange t.counters := fst_inRange e (closeAttached_inRange h)
  extract_lets err u v y more z w w'
  have hv : InRange v.counters := by
    unfold v
    split
    · rw [sendMsix_counters]; exact bump_inRange ht
    · exact bump_inRange ht
  clear_value v
  split
  · exact hv
  · split
    · refine triggerChained_inRange ?_
      unfold w'
      split
      · rw [startRun_counters]; exact hv
      · exact hv
    · exact triggerChained_inRange hv

theorem moveRun_inRange {c : Nat} {q : DmaIn} (h : InRange s.counters) : InRange (moveRun c q s).1.counters := by
  unfold moveRun
  extract_lets x src g bytes named unit rest
  split
  next phase t e =>
  have ht : InRange t.counters := by
    split at e
    · exact draw_inRange e h
    · exact (Prod.mk.inj e).2 ▸ h
  extract_lets u out
  have hu : InRange u.counters := by
    unfold u
    split
    · exact ht
    · exact ht
  clear_value u
  split
  next v dest off derr e' =>
  exact bump_inRange (bump_inRange (fst_inRange e' (scatter_inRange hu)))

/-! ### Ports and lanes -/

theorem noteDown_inRange {key : Nat} (h : InRange s.counters) : InRange (noteDown key s).counters := by
  unfold noteDown
  split
  · rw [raise_counters]
    exact bump_inRange h
  · exact h

theorem startPort_inRange {key : Nat} (h : InRange s.counters) : InRange (startPort key s).counters := by
  unfold startPort
  split
  · exact h
  · dsimp only
    rw [setPort_counters, modLanes_counters]
    exact noteDown_inRange h

theorem failBringup_inRange {key : Nat} {l : List Nat} (h : InRange s.counters) :
    InRange (failBringup key l s).counters := by
  unfold failBringup
  rw [setPort_counters]
  exact foldl_inRange (fun _ _ => bump_inRange) h

theorem setLayout_inRange {n : Nat} {f : Fields} (h : InRange s.counters) : InRange (setLayout n f s).counters := by
  unfold setLayout
  extract_lets old t k u new taps v w
  have ht : InRange t.counters := foldl_inRange (fun _ _ => noteDown_inRange) h
  have hu : InRange u.counters := by
    unfold u
    split
    · exact ht
    · exact ht
  have hw : InRange w.counters := by
    unfold w v
    rwa [forgetCarried_counters, modLanes_counters]
  exact foldl_inRange (fun _ _ => startPort_inRange) hw

theorem mediaState_inRange {f : Fields} (h : InRange s.counters) : InRange (mediaState f s).counters := by
  unfold mediaState
  extract_lets lanes t u
  have ht : InRange t.counters := foldl_inRange (fun _ _ => noteDown_inRange) h
  have hu : InRange u.counters := by
    unfold u
    rwa [modLanes_counters]
  exact foldl_inRange (fun _ _ => startPort_inRange) hu

theorem diagState_inRange {n : Nat} {set : Lane → Lane} (h : InRange s.counters) :
    InRange (diagState n set s).counters := by
  unfold diagState
  extract_lets was t l key now sends u
  have hu : InRange u.counters := h
  clear_value u
  split
  · exact h
  · split
    · exact hu
    · split
      · exact noteDown_inRange hu
      · exact startPort_inRange hu

/-! ### Flows -/

theorem losePackets_inRange {i n : Nat} (h : InRange s.counters) : InRange (losePackets i n s).counters := by
  unfold losePackets
  split
  · exact h
  · rw [raise_counters]
    exact bump_inRange h

theorem dupPacket_inRange {i : Nat} (h : InRange s.counters) : InRange (dupPacket i s).counters := by
  unfold dupPacket
  exact bump_inRange h

theorem runDelivery_inRange {i : Nat} (h : InRange s.counters) : InRange (runDelivery i s).counters := by
  unfold runDelivery
  split
  · exact h
  · exact losePackets_inRange h

theorem orderedPacket_inRange {i : Nat} {r : RxFrame} (h : InRange s.counters) :
    InRange (orderedPacket i r s).counters := by
  unfold orderedPacket
  split
  · exact h
  · dsimp only
    split
    · exact h
    · split
      · exact dupPacket_inRange h
      · exact runDelivery_inRange h

theorem completeVideo_inRange {i k : Nat} (h : InRange s.counters) : InRange (completeVideo i k s).counters := by
  unfold completeVideo
  split
  · exact h
  · dsimp only
    rw [completeSource_counters]
    exact losePackets_inRange h

theorem videoPacket_inRange {i : Nat} {r : RxFrame} (h : InRange s.counters) :
    InRange (videoPacket i r s).counters := by
  unfold videoPacket
  split
  · exact h
  · extract_lets path v w known l l' t k
    have ht : InRange t.counters := h
    clear_value t
    split
    · exact dupPacket_inRange h
    · split
      · exact h
      · split
        · exact completeVideo_inRange ht
        · exact ht

theorem countWindow_inRange {c p : List (Nat × Nat)} (h : InRange s.counters) :
    InRange (countWindow c p s).counters := by
  unfold countWindow
  refine foldl_inRange (fun t x ht => ?_) (foldl_inRange (fun t x ht => ?_) h)
  all_goals
    dsimp only
    split
    · exact bump_inRange ht
    · exact ht

theorem firmwareFrame_inRange {r : RxFrame} (h : InRange s.counters) : InRange (firmwareFrame r s).counters := by
  unfold firmwareFrame
  extract_lets own head
  split
  · split
    · split
      · exact h
      · exact h
    · split
      · exact h
      · exact h
  · split
    · exact h
    · exact h
  · split
    · exact takeCommand_inRange h
    · exact h
  · exact h

theorem mediaFrame_inRange {i : Nat} {x : IFlow} {r : RxFrame} (h : InRange s.counters) :
    InRange (mediaFrame i x r s).counters := by
  unfold mediaFrame
  extract_lets b off
  split
  next colour t e =>
  have ht : InRange t.counters := by
    split at e
    · exact (Prod.mk.inj e).2 ▸ h
    · exact (Prod.mk.inj e).2 ▸ h
  split
  · exact bump_inRange ht
  · split
    · exact ht
    · extract_lets u v
      have hv : InRange v.counters := by
        unfold v
        rwa [judgeSentinels_counters]
      clear_value v
      split
      · exact hv
      · split
        · exact videoPacket_inRange hv
        · exact orderedPacket_inRange hv

theorem stampTx_inRange {ident port : Nat} (h : InRange s.counters) : InRange (stampTx ident port s).counters := by
  unfold stampTx
  split
  · exact h
  · exact tsqPush_inRange h

theorem windowEvent_inRange {ctx source kind path src count : Nat} {launch now : Int} (h : InRange s.counters) :
    InRange (windowEvent ctx source kind path src count launch now s).counters := by
  unfold windowEvent
  exact emit_inRange h

theorem sendOn_inRange {i len seq stamp : Nat} {f : Fields} {marker : Bool} {load : Load} {q : EFlow}
    (h : InRange s.counters) : InRange (sendOn i f len seq stamp marker load q s).1.counters := by
  unfold sendOn
  extract_lets ports v6
  split
  next yes no _ =>
  extract_lets t u v w
  have ht : InRange t.counters := foldl_inRange (fun t p ht => by rw [raise_counters]; exact bump_inRange ht) h
  have hu : InRange u.counters := foldl_inRange (fun t p ht => ht) ht
  have hv : InRange v.counters := by
    unfold v
    split
    · exact hu
    · exact hu
  clear_value v
  unfold w
  dsimp only
  split
  · exact foldl_inRange (fun _ _ => stampTx_inRange) hv
  · exact hv

theorem sendUnit_inRange {i : Nat} {u : EgUnit} {rest : List EgUnit} {q : EFlow} (h : InRange s.counters) :
    InRange (sendUnit i u rest q s).2.counters := by
  unfold sendUnit
  extract_lets last
  split
  next load t e =>
  have ht : InRange t.counters := snd_inRange e (by simp [h])
  split
  next v r e' =>
  show InRange v.counters
  split at e'
  · exact (Prod.mk.inj e').1 ▸ ht
  · exact fst_inRange e' (sendOn_inRange ht)

theorem beginUnit_inRange {i : Nat} {u : EgUnit} {lens : List Nat} {q : EFlow} (h : InRange s.counters) :
    InRange (beginUnit i u lens q s).2.2.counters := by
  unfold beginUnit
  extract_lets now from' u'
  split
  next r t e =>
  have ht : InRange t.counters := snd_inRange e (by simp [h])
  split
  · exact ht
  · extract_lets v
    have hv : InRange v.counters := by
      unfold v
      rw [raise_counters]
      exact bump_inRange ht
    clear_value v
    split
    next ev n w _ =>
    dsimp only
    split
    · exact windowEvent_inRange hv
    · exact hv

theorem launchAudio_inRange {i len : Nat} {q : EFlow} (h : InRange s.counters) :
    InRange (launchAudio i len q s).counters := by
  unfold launchAudio
  split
  · extract_lets tb frame
    split
    next q t e =>
    have ht : InRange t.counters := snd_inRange e (by simp [h])
    split
    next l u e' =>
    have hu : InRange u.counters := snd_inRange e' (by simp [ht])
    split
    next v r e'' =>
    rw [setEflow_counters]
    exact fst_inRange e'' (sendOn_inRange hu)
  · exact h

theorem launchUnit_inRange {i : Nat} {u : EgUnit} {rest : List EgUnit} {lens : List Nat} {q : EFlow}
    (h : InRange s.counters) : InRange (launchUnit i u rest lens q s).2.counters := by
  unfold launchUnit
  split
  · exact sendUnit_inRange h
  · split
    next v r t e =>
    have ht := beginUnit_inRange (i := i) (u := u) (lens := lens) (q := q) h
    rw [e] at ht
    exact sendUnit_inRange ht

theorem launchNulls_inRange {i len : Nat} {q : EFlow} (h : InRange s.counters) :
    InRange (launchNulls i len q s).counters := by
  unfold launchNulls
  split
  next t r e =>
  rw [setEflow_counters]
  exact fst_inRange e (sendOn_inRange h)

theorem launchNext_inRange {i : Nat} {lens : List Nat} {q : EFlow} (h : InRange s.counters) :
    InRange (launchNext i lens q s).counters := by
  unfold launchNext
  split
  · split
    next r t e =>
    rw [setEflow_counters]
    exact snd_inRange e (launchUnit_inRange h)
  · split
    · split
      · extract_lets tb n u
        split
        next r t e =>
        rw [setEflow_counters]
        exact snd_inRange e (launchUnit_inRange h)
      · exact h
    · split
      · extract_lets tb n u
        split
        next r t e =>
        rw [setEflow_counters]
        exact snd_inRange e (launchUnit_inRange h)
      · exact h
    · exact launchAudio_inRange h

theorem launchTail_inRange {i : Nat} {q : EFlow} (h : InRange s.counters) : InRange (launchTail i q s).counters := by
  unfold launchTail
  split
  · exact h
  · split
    next r t e => exact snd_inRange (t := t) e (sendUnit_inRange h)

theorem sendHost_inRange {port tag len : Nat} {stamp : Bool} (h : InRange s.counters) :
    InRange (sendHost port tag len stamp s).counters := by
  unfold sendHost
  dsimp only
  split
  · exact stampTx_inRange h
  · exact h

theorem sendHead_inRange {p k : Nat} {q : Drr} (h : InRange s.counters) : InRange (sendHead p k q s).counters := by
  unfold sendHead
  split
  · exact h
  · extract_lets t _ _ v
    have ht : InRange t.counters := by
      unfold t
      split
      · simp [h]
      · exact h
    have hv : InRange v.counters := ht
    clear_value v
    split
    · exact stampTx_inRange hv
    · exact hv

theorem timeHost_inRange {f : Fields} {p : Nat} (h : InRange s.counters) : InRange (timeHost f p s).counters := by
  unfold timeHost
  extract_lets tag stamp d _ t
  have ht : InRange t.counters := by
    unfold t
    rw [raise_counters]
    exact bump_inRange h
  clear_value t
  split
  · exact h
  · split
    next count last _ =>
    split
    next ev n w _ =>
    extract_lets u v
    have hu : InRange u.counters := ht
    clear_value u
    refine sendHost_inRange ?_
    unfold v
    split
    · exact windowEvent_inRange hu
    · exact hu

/-! ### Registers read -/

theorem counterRead_inRange {off : Nat} (h : InRange s.counters) : InRange (counterRead off s).2.counters := by
  unfold counterRead
  exact takeCounter_inRange h

theorem regRead_inRange {off : Nat} (h : InRange s.counters) : InRange (regRead off s).2.counters := by
  unfold regRead
  split
  · simp [h]
  · split
    · simp [h]
    · split
      · simp [h]
      · split
        · simp [h]
        · split
          · simp [h]
          · split
            · exact counterRead_inRange h
            · exact h

theorem readWords_inRange {n off : Nat} (h : InRange s.counters) : InRange (readWords off s n).2.counters := by
  induction n generalizing off s with
  | zero => exact h
  | succ n ih =>
    unfold readWords
    exact ih (regRead_inRange h)

end Sys2Proof.Machine
end

section
/-! PROOFS. Every opcode of the table keeps the counters in range. -/

namespace Sys2Proof.Machine

-- One proof at a time: elaborated side by side, so many short proofs take more threads than the check's memory holds.
set_option Elab.async false

variable {s : State}

theorem hold_inRange {x : Servo} (h : InRange s.counters) : InRange (hold x s).counters := by
  rwa [hold_counters]

/-- The counters at `offs` read and cleared in order, their words joined to `l`. -/
def takeCounters (offs : List Nat) (l : List Word) (s : State) : List Word × State :=
  offs.foldl (fun (l, s) off =>
    let (v, t) := takeCounter off s
    (l ++ [natWord v], t)) (l, s)

theorem takeCounters_cons (off : Nat) (offs : List Nat) (l : List Word) (s : State) :
    takeCounters (off :: offs) l s =
      takeCounters offs (l ++ [natWord (counter s off)]) { s with counters := tset 0 s.counters off 0 } := rfl

theorem takeCounters_inRange {offs : List Nat} {l : List Word} (h : InRange s.counters) :
    InRange (takeCounters offs l s).2.counters := by
  induction offs generalizing l s with
  | nil => exact h
  | cons off offs ih =>
    rw [takeCounters_cons]
    exact ih (takeCounter_inRange h)

theorem opReadIdentity_keepsRange : opReadIdentity.KeepsRange where
  apply _ _ _ h := h

theorem opRegisterEventSubscriber_keepsRange : opRegisterEventSubscriber.KeepsRange where
  apply _ _ _ h := h

theorem opSetAllowListEntry_keepsRange : opSetAllowListEntry.KeepsRange where
  apply _ _ _ h := h

theorem opCancelPendingCommands_keepsRange : opCancelPendingCommands.KeepsRange where
  apply _ _ _ h := cancelPend_inRange h

theorem opAssignGpioFunction_keepsRange : opAssignGpioFunction.KeepsRange where
  apply _ _ _ h := h

theorem opReadStartupLog_keepsRange : opReadStartupLog.KeepsRange where
  apply _ _ _ h := h

theorem opSelectManagementLinkMode_keepsRange : opSelectManagementLinkMode.KeepsRange where
  apply _ _ _ h := h

theorem opReadGpioLevels_keepsRange : opReadGpioLevels.KeepsRange where
  apply _ _ _ h := h

theorem opWarmResetCommand_keepsRange : opWarmResetCommand.KeepsRange where
  apply _ _ _ h := h

theorem opEnterSafe_keepsRange : opEnterSafe.KeepsRange where
  apply _ _ _ h := h
  after _ _ s h := by
    dsimp only [opEnterSafe]
    split
    · exact h
    · exact enterSafeState_inRange h

theorem opInterruptAndAlertMasks_keepsRange : opInterruptAndAlertMasks.KeepsRange where
  apply _ _ _ h := h

theorem opConfigurePtp_keepsRange : opConfigurePtp.KeepsRange where
  apply _ _ _ h := h

theorem opAcceptRefusedOffset_keepsRange : opAcceptRefusedOffset.KeepsRange where
  apply _ _ s h := by
    dsimp only [opAcceptRefusedOffset]
    split
    · rw [modPtp_counters, trackNow_counters]
      exact stepClock_inRange h
    · exact h

theorem opSetTime_keepsRange : opSetTime.KeepsRange where
  apply _ f s h := by
    dsimp -zeta only [opSetTime]
    extract_lets ns
    split
    · refine hold_inRange ?_
      rwa [setClock_counters]
    · exact stepClock_inRange h

theorem opConfigureTimebase_keepsRange : opConfigureTimebase.KeepsRange where
  apply _ f s h := by
    dsimp -zeta only [opConfigureTimebase]
    extract_lets tb new same n t
    have ht : InRange t.counters := cancelPend_inRange h
    split
    · exact h
    · exact ht

theorem opRemoveTimebase_keepsRange : opRemoveTimebase.KeepsRange where
  apply _ _ _ h := cancelPend_inRange h

theorem opConfigureEventUnit_keepsRange : opConfigureEventUnit.KeepsRange where
  apply _ _ _ h := h

theorem opReleaseEventUnit_keepsRange : opReleaseEventUnit.KeepsRange where
  apply _ _ _ h := h

theorem opReadTimeStatus_keepsRange : opReadTimeStatus.KeepsRange where
  apply _ _ _ h := h

theorem opSelectLaneReference_keepsRange : opSelectLaneReference.KeepsRange where
  apply _ _ _ h := h

theorem opConfigureTurretLayout_keepsRange : opConfigureTurretLayout.KeepsRange where
  apply _ f s h := by
    dsimp only [opConfigureTurretLayout]
    split
    · exact h
    · exact setLayout_inRange h

theorem opConfigureMediaLane_keepsRange : opConfigureMediaLane.KeepsRange where
  apply _ f s h := by
    dsimp only [opConfigureMediaLane]
    split
    · exact h
    · exact mediaState_inRange h

theorem opSetTransmitTaps_keepsRange : opSetTransmitTaps.KeepsRange where
  apply _ f s h := by
    dsimp -zeta only [opSetTransmitTaps]
    extract_lets n taps trains
    dsimp only
    split
    · exact h
    · exact h

theorem opSetPolarity_keepsRange : opSetPolarity.KeepsRange where
  apply _ _ _ h := h

theorem opPrbsGeneratorChecker_keepsRange : opPrbsGeneratorChecker.KeepsRange where
  apply _ _ _ h := diagState_inRange h

theorem opLoopback_keepsRange : opLoopback.KeepsRange where
  apply _ _ _ h := diagState_inRange h

theorem opReadLaneStatus_keepsRange : opReadLaneStatus.KeepsRange where
  apply _ _ _ h := h

theorem opPortIdentity_keepsRange : opPortIdentity.KeepsRange where
  apply _ f s h := by
    dsimp -zeta only [opPortIdentity]
    extract_lets
    split
    · refine foldl_inRange (fun t m ht => ?_) h
      simp [ht]
    · exact h

theorem opPathHealthParameters_keepsRange : opPathHealthParameters.KeepsRange where
  apply _ f s h := by
    dsimp only [opPathHealthParameters]
    rwa [judgeSentinels_counters, modHealth_counters]

theorem opInterlockParameters_keepsRange : opInterlockParameters.KeepsRange where
  apply _ _ _ h := interlock_inRange h

theorem opPrivilegedPolicer_keepsRange : opPrivilegedPolicer.KeepsRange where
  apply _ _ _ h := h

theorem opTurretOverheadColourTable_keepsRange : opTurretOverheadColourTable.KeepsRange where
  apply _ f s h := by
    dsimp only [opTurretOverheadColourTable]
    split
    · exact h
    · exact h

theorem opDrrQueue_keepsRange : opDrrQueue.KeepsRange where
  apply _ _ _ h := h

theorem opSendHostPacket_keepsRange : opSendHostPacket.KeepsRange where
  apply _ f s h := by
    dsimp only [opSendHostPacket]
    split
    · exact foldl_inRange (fun _ _ => timeHost_inRange) h
    · exact foldl_inRange (fun t p ht => by rwa [queueHost_counters]) h

theorem opReadTurretStatus_keepsRange : opReadTurretStatus.KeepsRange where
  apply _ _ _ h := h

theorem opConfigureIngressFlow_keepsRange : opConfigureIngressFlow.KeepsRange where
  apply _ _ _ h := h

theorem opDeleteIngressFlow_keepsRange : opDeleteIngressFlow.KeepsRange where
  apply _ _ _ h := h

theorem opConfigureEgressFlow_keepsRange : opConfigureEgressFlow.KeepsRange where
  apply _ _ _ h := h

theorem opDeleteEgressFlow_keepsRange : opDeleteEgressFlow.KeepsRange where
  apply _ f s h := by
    dsimp -zeta only [opDeleteEgressFlow]
    extract_lets i tail
    rw [setEflow_counters]
    clear_value tail
    split
    · exact h
    · exact h

theorem opBindAudioFlow_keepsRange : opBindAudioFlow.KeepsRange where
  apply _ _ _ h := h

theorem opReadFlowStatus_keepsRange : opReadFlowStatus.KeepsRange where
  apply _ f s h := by
    dsimp only [opReadFlowStatus]
    split
    · split
      · exact h
      · exact h
    · split
      · exact h
      · exact h

theorem opReadMembershipTable_keepsRange : opReadMembershipTable.KeepsRange where
  apply _ _ _ h := h

theorem opOpenEncodeContext_keepsRange : opOpenEncodeContext.KeepsRange where
  accept c f s h := by
    dsimp only [opOpenEncodeContext]
    rwa [acceptOpen_counters]
  apply _ _ _ h := h

theorem opCloseContext_keepsRange : opCloseContext.KeepsRange where
  apply c _ s h := by
    dsimp -zeta only [opCloseContext]
    extract_lets at' _ t
    refine closeEffect_inRange ?_
    unfold t
    clear t
    clear_value at'
    split
    · exact h
    · exact h

theorem opModifyEncodeContext_keepsRange : opModifyEncodeContext.KeepsRange where
  apply c f s h := by
    dsimp only [opModifyEncodeContext]
    rwa [modifyState_counters]

theorem opRequestIrap_keepsRange : opRequestIrap.KeepsRange where
  apply _ _ _ h := h

theorem opInvalidateReferences_keepsRange : opInvalidateReferences.KeepsRange where
  apply _ _ _ h := h

theorem opRateParameters_keepsRange : opRateParameters.KeepsRange where
  apply _ _ _ h := h

theorem opSendCeilingAndHrd_keepsRange : opSendCeilingAndHrd.KeepsRange where
  apply _ _ _ h := h

theorem opConfigureStatmuxGroup_keepsRange : opConfigureStatmuxGroup.KeepsRange where
  apply c f s h := by
    dsimp -zeta only [opConfigureStatmuxGroup]
    extract_lets g old t
    have ht : InRange t.counters := by
      unfold t
      split
      · exact h
      · exact foldl_inRange (fun _ _ ht => ht) h
    split
    · exact h
    · exact ht

theorem opJoinGroup_keepsRange : opJoinGroup.KeepsRange where
  apply _ _ _ h := h

theorem opRemoveFromGroup_keepsRange : opRemoveFromGroup.KeepsRange where
  apply _ _ _ h := h

theorem opReadGroupStatus_keepsRange : opReadGroupStatus.KeepsRange where
  apply _ f s h := by
    dsimp only [opReadGroupStatus]
    split
    · exact h
    · exact h

theorem opReadRateControlStatus_keepsRange : opReadRateControlStatus.KeepsRange where
  apply _ _ _ h := h

theorem opSchedulingFields_keepsRange : opSchedulingFields.KeepsRange where
  apply _ _ _ h := h

theorem opDeviceSchedulingFields_keepsRange : opDeviceSchedulingFields.KeepsRange where
  apply _ _ _ h := h

theorem opReadSchedulingStatistics_keepsRange : opReadSchedulingStatistics.KeepsRange where
  apply _ _ _ h := h

theorem opOpenDecodeContext_keepsRange : opOpenDecodeContext.KeepsRange where
  apply _ _ _ h := h

theorem opFlushAndResynchronise_keepsRange : opFlushAndResynchronise.KeepsRange where
  apply c _ s h := by
    dsimp only [opFlushAndResynchronise]
    rwa [flush_counters]

theorem opReadDecodeStatus_keepsRange : opReadDecodeStatus.KeepsRange where
  apply c _ s h := by
    dsimp only [opReadDecodeStatus]
    split
    · exact h
    · exact h

theorem opReadContextStatus_keepsRange : opReadContextStatus.KeepsRange where
  apply c _ s h := by
    dsimp -zeta only [opReadContextStatus]
    extract_lets x p w
    split
    · exact h
    · simp [h]

theorem opConfigureComposition_keepsRange : opConfigureComposition.KeepsRange where
  apply _ _ _ h := composeState_inRange h

theorem opDeleteComposition_keepsRange : opDeleteComposition.KeepsRange where
  apply _ _ _ h := h

theorem opConfigureVideoLayer_keepsRange : opConfigureVideoLayer.KeepsRange where
  apply c f s h := by
    dsimp only [opConfigureVideoLayer]
    simp [h]

theorem opConfigureGraphicLayer_keepsRange : opConfigureGraphicLayer.KeepsRange where
  apply _ _ _ h := h

theorem opDefineAsset_keepsRange : opDefineAsset.KeepsRange where
  apply _ f s h := by
    dsimp -zeta only [opDefineAsset]
    extract_lets a n
    simp [h]

theorem opWriteAssetChunk_keepsRange : opWriteAssetChunk.KeepsRange where
  apply _ f s h := by
    dsimp only [opWriteAssetChunk]
    split
    · exact h
    · exact h

theorem opCommitAsset_keepsRange : opCommitAsset.KeepsRange where
  accept _ f s h := by
    dsimp only [opCommitAsset]
    rwa [holdUnit_counters]
  apply _ f s h := by
    dsimp only [opCommitAsset]
    split
    · exact h
    · split
      · rw [setAsset_counters]
        exact firmwareCheck_inRange h
      · exact firmwareCheck_inRange h

theorem opFreeAsset_keepsRange : opFreeAsset.KeepsRange where
  apply _ _ _ h := h

theorem opSetMasteringMetadata_keepsRange : opSetMasteringMetadata.KeepsRange where
  apply _ _ _ h := h

theorem opReadCompositionStatus_keepsRange : opReadCompositionStatus.KeepsRange where
  apply c _ s h := by
    dsimp only [opReadCompositionStatus]
    split
    · exact h
    · exact h

theorem opDefineLanternImage_keepsRange : opDefineLanternImage.KeepsRange where
  apply _ _ _ h := h

theorem opWriteLanternImageChunk_keepsRange : opWriteLanternImageChunk.KeepsRange where
  apply _ _ _ h := h

theorem opCommitLanternImage_keepsRange : opCommitLanternImage.KeepsRange where
  accept _ f s h := by
    dsimp only [opCommitLanternImage]
    rwa [holdUnit_counters]
  apply _ f s h := by
    dsimp only [opCommitLanternImage]
    split
    · exact h
    · split
      · rw [modImage_counters]
        exact firmwareCheck_inRange h
      · exact firmwareCheck_inRange h

theorem opConfigureLanternItem_keepsRange : opConfigureLanternItem.KeepsRange where
  apply c f s h := by
    dsimp only [opConfigureLanternItem]
    split
    · exact h
    · simp [h]

theorem opReadLanternStatus_keepsRange : opReadLanternStatus.KeepsRange where
  apply _ _ _ h := h

theorem opMemoryPolicy_keepsRange : opMemoryPolicy.KeepsRange where
  apply _ _ _ h := h

theorem opPortLatencyTarget_keepsRange : opPortLatencyTarget.KeepsRange where
  apply _ _ _ h := h

theorem opRowDisturbanceSettings_keepsRange : opRowDisturbanceSettings.KeepsRange where
  apply _ _ _ h := h

theorem opSetPoint_keepsRange : opSetPoint.KeepsRange where
  apply _ f s h := by
    dsimp -zeta only [opSetPoint]
    extract_lets t d wait u
    have hu : InRange u.counters := by
      unfold u t
      rwa [askSetpoint_counters]
    split
    · exact h
    · split
      · exact bump_inRange hu
      · exact hu

theorem opRetrainChannel_keepsRange : opRetrainChannel.KeepsRange where
  apply _ f s h := by
    dsimp -zeta only [opRetrainChannel]
    extract_lets c sp t u v d w
    have hv : InRange v.counters := by
      unfold v
      refine trainEvent_inRange ?_
      exact h
    clear_value v
    split
    · exact bump_inRange hv
    · exact bump_inRange hv

theorem opBar2Aperture_keepsRange : opBar2Aperture.KeepsRange where
  apply _ _ _ h := h

theorem opReadMemoryStatus_keepsRange : opReadMemoryStatus.KeepsRange where
  apply _ _ _ h := h

theorem opConfigureDmaChannel_keepsRange : opConfigureDmaChannel.KeepsRange where
  apply _ f s h := by
    dsimp only [opConfigureDmaChannel]
    simp [h]

theorem opStartChannels_keepsRange : opStartChannels.KeepsRange where
  apply _ f s h := by
    refine foldl_inRange (fun t c ht => ?_) h
    dsimp only
    split
    · exact triggerChan_inRange ht
    · exact ht

theorem opChannelControl_keepsRange : opChannelControl.KeepsRange where
  apply _ f s h := by
    dsimp -zeta only [opChannelControl]
    extract_lets c x t
    have ht : InRange t.counters := by
      unfold t
      split
      · exact h
      · exact h
    split
    · exact h
    · simp [h]
    · exact ht

theorem opReleaseDmaChannel_keepsRange : opReleaseDmaChannel.KeepsRange where
  apply _ f s h := by
    dsimp only [opReleaseDmaChannel]
    simp [h]

theorem opEngineSettings_keepsRange : opEngineSettings.KeepsRange where
  apply _ _ _ h := h

theorem opOpenCheckUnit_keepsRange : opOpenCheckUnit.KeepsRange where
  apply _ _ _ h := h

theorem opCloseCheckUnit_keepsRange : opCloseCheckUnit.KeepsRange where
  apply _ f s h := by
    dsimp -zeta only [opCloseCheckUnit]
    extract_lets n u r want bad _ t
    have ht : InRange t.counters := h
    dsimp only
    split
    · exact mismatch_inRange ht
    · exact ht

theorem opReleaseCheckUnit_keepsRange : opReleaseCheckUnit.KeepsRange where
  apply _ _ _ h := h

theorem opReadDmaAndCheckStatus_keepsRange : opReadDmaAndCheckStatus.KeepsRange where
  apply _ _ _ h := h

theorem opOperatingProfile_keepsRange : opOperatingProfile.KeepsRange where
  apply _ f s h := by
    dsimp -zeta only [opOperatingProfile]
    extract_lets t d wait u
    have ht : InRange t.counters := by
      unfold t
      rwa [enterProfile_counters]
    have hu : InRange u.counters := by
      unfold u
      rwa [askSetpoint_counters]
    split
    · dsimp only
      split
      · exact bump_inRange hu
      · exact hu
    · exact ht

theorem opThermalLevels_keepsRange : opThermalLevels.KeepsRange where
  apply _ _ _ h := h

theorem opPowerCaps_keepsRange : opPowerCaps.KeepsRange where
  apply _ _ _ h := h

theorem opSensorOverride_keepsRange : opSensorOverride.KeepsRange where
  apply _ f s h := by
    dsimp only [opSensorOverride]
    simp [h]

theorem opReadTelemetry_keepsRange : opReadTelemetry.KeepsRange where
  apply _ _ _ h := h

theorem opReadDipLog_keepsRange : opReadDipLog.KeepsRange where
  apply _ _ _ h := h

theorem opReadRegisters_keepsRange : opReadRegisters.KeepsRange where
  apply _ _ _ h := readWords_inRange h

theorem opWriteRegister_keepsRange : opWriteRegister.KeepsRange where
  apply _ f s h := by
    refine regRead_inRange ?_
    rwa [regWrite_counters]

theorem opCounterSnapshot_keepsRange : opCounterSnapshot.KeepsRange where
  apply _ f s h := takeCounters_inRange h

theorem opWriteFirmwareChunk_keepsRange : opWriteFirmwareChunk.KeepsRange where
  apply _ _ _ h := h

theorem opVerifyInactiveSlot_keepsRange : opVerifyInactiveSlot.KeepsRange where
  apply _ _ s h := by
    dsimp only [opVerifyInactiveSlot]
    split
    · simp [h]
    · exact h

theorem opActivateInactiveSlot_keepsRange : opActivateInactiveSlot.KeepsRange where
  apply _ _ _ h := h

theorem opConfirmTrialImage_keepsRange : opConfirmTrialImage.KeepsRange where
  apply _ _ _ h := h

theorem opInstallKey_keepsRange : opInstallKey.KeepsRange where
  apply c f s h := by
    dsimp only [opInstallKey]
    split
    · exact h
    · exact h

theorem opSetAuthenticationPolicy_keepsRange : opSetAuthenticationPolicy.KeepsRange where
  apply _ _ _ h := h

theorem opWriteStartupStore_keepsRange : opWriteStartupStore.KeepsRange where
  apply _ _ _ h := h

theorem opUnlockDebugAccess_keepsRange : opUnlockDebugAccess.KeepsRange where
  apply _ _ _ h := h

theorem opTable_keepsRange : opTable.KeepsRange := by
  intro n op e
  unfold opTable at e
  split at e
  · exact Option.some.inj e ▸ opReadIdentity_keepsRange
  · exact Option.some.inj e ▸ opRegisterEventSubscriber_keepsRange
  · exact Option.some.inj e ▸ opSetAllowListEntry_keepsRange
  · exact Option.some.inj e ▸ opCancelPendingCommands_keepsRange
  · exact Option.some.inj e ▸ opAssignGpioFunction_keepsRange
  · exact Option.some.inj e ▸ opReadStartupLog_keepsRange
  · exact Option.some.inj e ▸ opSelectManagementLinkMode_keepsRange
  · exact Option.some.inj e ▸ opReadGpioLevels_keepsRange
  · exact Option.some.inj e ▸ opWarmResetCommand_keepsRange
  · exact Option.some.inj e ▸ opEnterSafe_keepsRange
  · exact Option.some.inj e ▸ opInterruptAndAlertMasks_keepsRange
  · exact Option.some.inj e ▸ opConfigurePtp_keepsRange
  · exact Option.some.inj e ▸ opAcceptRefusedOffset_keepsRange
  · exact Option.some.inj e ▸ opSetTime_keepsRange
  · exact Option.some.inj e ▸ opConfigureTimebase_keepsRange
  · exact Option.some.inj e ▸ opRemoveTimebase_keepsRange
  · exact Option.some.inj e ▸ opConfigureEventUnit_keepsRange
  · exact Option.some.inj e ▸ opReleaseEventUnit_keepsRange
  · exact Option.some.inj e ▸ opReadTimeStatus_keepsRange
  · exact Option.some.inj e ▸ opSelectLaneReference_keepsRange
  · exact Option.some.inj e ▸ opConfigureTurretLayout_keepsRange
  · exact Option.some.inj e ▸ opConfigureMediaLane_keepsRange
  · exact Option.some.inj e ▸ opSetTransmitTaps_keepsRange
  · exact Option.some.inj e ▸ opSetPolarity_keepsRange
  · exact Option.some.inj e ▸ opPrbsGeneratorChecker_keepsRange
  · exact Option.some.inj e ▸ opLoopback_keepsRange
  · exact Option.some.inj e ▸ opReadLaneStatus_keepsRange
  · exact Option.some.inj e ▸ opPortIdentity_keepsRange
  · exact Option.some.inj e ▸ opPathHealthParameters_keepsRange
  · exact Option.some.inj e ▸ opInterlockParameters_keepsRange
  · exact Option.some.inj e ▸ opPrivilegedPolicer_keepsRange
  · exact Option.some.inj e ▸ opTurretOverheadColourTable_keepsRange
  · exact Option.some.inj e ▸ opDrrQueue_keepsRange
  · exact Option.some.inj e ▸ opSendHostPacket_keepsRange
  · exact Option.some.inj e ▸ opReadTurretStatus_keepsRange
  · exact Option.some.inj e ▸ opConfigureIngressFlow_keepsRange
  · exact Option.some.inj e ▸ opDeleteIngressFlow_keepsRange
  · exact Option.some.inj e ▸ opConfigureEgressFlow_keepsRange
  · exact Option.some.inj e ▸ opDeleteEgressFlow_keepsRange
  · exact Option.some.inj e ▸ opBindAudioFlow_keepsRange
  · exact Option.some.inj e ▸ opReadFlowStatus_keepsRange
  · exact Option.some.inj e ▸ opReadMembershipTable_keepsRange
  · exact Option.some.inj e ▸ opOpenEncodeContext_keepsRange
  · exact Option.some.inj e ▸ opCloseContext_keepsRange
  · exact Option.some.inj e ▸ opModifyEncodeContext_keepsRange
  · exact Option.some.inj e ▸ opRequestIrap_keepsRange
  · exact Option.some.inj e ▸ opInvalidateReferences_keepsRange
  · exact Option.some.inj e ▸ opRateParameters_keepsRange
  · exact Option.some.inj e ▸ opSendCeilingAndHrd_keepsRange
  · exact Option.some.inj e ▸ opConfigureStatmuxGroup_keepsRange
  · exact Option.some.inj e ▸ opJoinGroup_keepsRange
  · exact Option.some.inj e ▸ opRemoveFromGroup_keepsRange
  · exact Option.some.inj e ▸ opReadGroupStatus_keepsRange
  · exact Option.some.inj e ▸ opReadRateControlStatus_keepsRange
  · exact Option.some.inj e ▸ opSchedulingFields_keepsRange
  · exact Option.some.inj e ▸ opDeviceSchedulingFields_keepsRange
  · exact Option.some.inj e ▸ opReadSchedulingStatistics_keepsRange
  · exact Option.some.inj e ▸ opOpenDecodeContext_keepsRange
  · exact Option.some.inj e ▸ opFlushAndResynchronise_keepsRange
  · exact Option.some.inj e ▸ opReadDecodeStatus_keepsRange
  · exact Option.some.inj e ▸ opReadContextStatus_keepsRange
  · exact Option.some.inj e ▸ opConfigureComposition_keepsRange
  · exact Option.some.inj e ▸ opDeleteComposition_keepsRange
  · exact Option.some.inj e ▸ opConfigureVideoLayer_keepsRange
  · exact Option.some.inj e ▸ opConfigureGraphicLayer_keepsRange
  · exact Option.some.inj e ▸ opDefineAsset_keepsRange
  · exact Option.some.inj e ▸ opWriteAssetChunk_keepsRange
  · exact Option.some.inj e ▸ opCommitAsset_keepsRange
  · exact Option.some.inj e ▸ opFreeAsset_keepsRange
  · exact Option.some.inj e ▸ opSetMasteringMetadata_keepsRange
  · exact Option.some.inj e ▸ opReadCompositionStatus_keepsRange
  · exact Option.some.inj e ▸ opDefineLanternImage_keepsRange
  · exact Option.some.inj e ▸ opWriteLanternImageChunk_keepsRange
  · exact Option.some.inj e ▸ opCommitLanternImage_keepsRange
  · exact Option.some.inj e ▸ opConfigureLanternItem_keepsRange
  · exact Option.some.inj e ▸ opReadLanternStatus_keepsRange
  · exact Option.some.inj e ▸ opMemoryPolicy_keepsRange
  · exact Option.some.inj e ▸ opPortLatencyTarget_keepsRange
  · exact Option.some.inj e ▸ opRowDisturbanceSettings_keepsRange
  · exact Option.some.inj e ▸ opSetPoint_keepsRange
  · exact Option.some.inj e ▸ opRetrainChannel_keepsRange
  · exact Option.some.inj e ▸ opBar2Aperture_keepsRange
  · exact Option.some.inj e ▸ opReadMemoryStatus_keepsRange
  · exact Option.some.inj e ▸ opConfigureDmaChannel_keepsRange
  · exact Option.some.inj e ▸ opStartChannels_keepsRange
  · exact Option.some.inj e ▸ opChannelControl_keepsRange
  · exact Option.some.inj e ▸ opReleaseDmaChannel_keepsRange
  · exact Option.some.inj e ▸ opEngineSettings_keepsRange
  · exact Option.some.inj e ▸ opOpenCheckUnit_keepsRange
  · exact Option.some.inj e ▸ opCloseCheckUnit_keepsRange
  · exact Option.some.inj e ▸ opReleaseCheckUnit_keepsRange
  · exact Option.some.inj e ▸ opReadDmaAndCheckStatus_keepsRange
  · exact Option.some.inj e ▸ opOperatingProfile_keepsRange
  · exact Option.some.inj e ▸ opThermalLevels_keepsRange
  · exact Option.some.inj e ▸ opPowerCaps_keepsRange
  · exact Option.some.inj e ▸ opSensorOverride_keepsRange
  · exact Option.some.inj e ▸ opReadTelemetry_keepsRange
  · exact Option.some.inj e ▸ opReadDipLog_keepsRange
  · exact Option.some.inj e ▸ opReadRegisters_keepsRange
  · exact Option.some.inj e ▸ opWriteRegister_keepsRange
  · exact Option.some.inj e ▸ opCounterSnapshot_keepsRange
  · exact Option.some.inj e ▸ opWriteFirmwareChunk_keepsRange
  · exact Option.some.inj e ▸ opVerifyInactiveSlot_keepsRange
  · exact Option.some.inj e ▸ opActivateInactiveSlot_keepsRange
  · exact Option.some.inj e ▸ opConfirmTrialImage_keepsRange
  · exact Option.some.inj e ▸ opInstallKey_keepsRange
  · exact Option.some.inj e ▸ opSetAuthenticationPolicy_keepsRange
  · exact Option.some.inj e ▸ opWriteStartupStore_keepsRange
  · exact Option.some.inj e ▸ opUnlockDebugAccess_keepsRange
  · exact absurd e (by simp)

end Sys2Proof.Machine
end

section
/-! PROOFS. Every row, and so every step, keeps the counters in range: O56. -/

namespace Sys2Proof.Machine

-- One proof at a time: elaborated side by side, so many short proofs take more threads than the check's memory holds.
set_option Elab.async false

variable {s : State}

/-! ### What runs opcodes -/

theorem openBoundary_inRange {tb n : Nat} (h : InRange s.counters) : InRange (openBoundary tb n s).counters := by
  unfold openBoundary
  refine foldl_inRange (fun _ _ => startCompose_inRange) ?_
  refine foldl_inRange (fun t i ht => by rwa [allocGroup_counters]) ?_
  exact foldl_inRange (fun t c ht => by rwa [boundaryCtx_counters]) h

theorem passBoundary_inRange {tb : Nat} {t : Timebase} {n : Int} (h : InRange s.counters) :
    InRange (passBoundary tb t n s).counters := by
  simp only [passBoundary]
  refine openBoundary_inRange (effectAll_inRange opTable_keepsRange ?_)
  split
  · exact h
  · rwa [shiftLaunches_counters]

theorem fireAt_inRange {unit action n target : Nat} (h : InRange s.counters) :
    InRange (fireAt unit action n target s).counters := by
  unfold fireAt
  split
  · split
    · exact triggerChan_inRange h
    · exact h
  · simp [h]
  · simp [h]
  · split
    · exact h
    · exact h
  · simp [h]
  · exact h

theorem fireUnit_inRange {unit : Nat} (h : InRange s.counters) : InRange (fireUnit unit s).counters := by
  unfold fireUnit
  dsimp only
  split
  · exact h
  · split
    · exact h
    · exact foldl_inRange (fun _ _ => fireAt_inRange) h

theorem runPacket_inRange {c : Cmd} {fault : Option Nat} {l : List Byte} (h : InRange s.counters) :
    InRange (runPacket c fault l s).counters := by
  obtain ⟨ht, hk⟩ := runBytes_inRange (c := { c with fault := fault }) (l := l) opTable_keepsRange h
  unfold runPacket
  generalize runBytes opTable { c with fault := fault } l s = x at ht hk
  obtain ⟨t, r, k⟩ := x
  cases r with
  | none => exact ht
  | some r =>
    refine hk _ ?_
    rw [finishCmd_counters]
    exact deliver_inRange ht

theorem runDescriptor_inRange {r : Nat} {f : Fetch} {fault : Option Nat} (h : InRange s.counters) :
    InRange (runDescriptor r f fault s).counters := by
  unfold runDescriptor
  extract_lets g
  split
  dsimp only
  split
  · exact runPacket_inRange h
  · rwa [completeRing_counters]

theorem runStored_inRange {i : Nat} {l : List Byte} {fault : Option Nat} (h : InRange s.counters) :
    InRange (runStored i l fault s).counters := by
  unfold runStored
  dsimp only
  split
  · exact runPacket_inRange h
  · rwa [finishCmd_counters]

theorem runItem_inRange {r : Nat} {f : Option Fetch} {fault : Option Nat} {x : QItem} (h : InRange s.counters) :
    InRange (runItem r f fault x s).counters := by
  have hp : InRange (popRing r s).counters := by rwa [popRing_counters]
  cases x with
  | desc =>
    simp only [runItem]
    split
    · exact h
    · split
      · exact runDescriptor_inRange hp
      · exact h
  | stored i l => exact runStored_inRange hp
  | udp via src path l => exact runPacket_inRange hp

theorem endBackground_inRange {op : Op} {j : Job} {ok : Bool} (ho : op.KeepsRange) (h : InRange s.counters) :
    InRange (endBackground op j ok s).1.counters := by
  unfold endBackground
  split
  · dsimp only
    exact internalEvent_inRange h
  · split
    · exact ho.apply _ _ _ h
    · exact h

theorem endBackground_after_inRange {op : Op} {j : Job} {ok : Bool} {t : State} (ho : op.KeepsRange)
    (h : InRange t.counters) : InRange ((endBackground op j ok s).2.2 t).counters := by
  unfold endBackground
  split
  · exact h
  · split
    · exact ho.after _ _ _ h
    · exact h

theorem finishDrain_inRange {n : Nat} {j : Job} (h : InRange s.counters) : InRange (finishDrain n j s).counters := by
  unfold finishDrain
  extract_lets held t
  have ht : InRange t.counters := by
    unfold t
    rwa [unpark_counters]
  split
  · exact ht
  next op e => exact answerJob_inRange ((opTable_keepsRange _ op e).apply _ _ _ ht)

theorem settleDrain_inRange {n : Nat} (h : InRange s.counters) : InRange (settleDrain n s).counters := by
  unfold settleDrain
  split
  · exact h
  · split
    · exact h
    · exact finishDrain_inRange h

theorem tickState_inRange (h : InRange s.counters) : InRange (tickState s).counters := by
  unfold tickState
  extract_lets t u
  have ht : InRange t.counters := by
    change InRange (sendLines s (settleRecovered s)).counters
    rw [sendLines_counters]
    exact settleRecovered_inRange h
  split
  · exact slotsTick_inRange ht
  · exact ht

/-- Every state that a row of the machine steps to has its counters in range. -/
def RanInRange (o : Ran) : Prop := ∀ t, o = .next t → InRange t.counters

theorem ran_inRange {s0 : State} (h : InRange s.counters) : RanInRange (ran s0 s) := by
  rintro t e
  cases e
  exact settle_inRange h

/-- What a port's frame does that no policer keeps from the firmware (R372): a packet of a media flow, or one that no
flow takes, which is counted. -/
theorem unpoliced_inRange {r : RxFrame} (h : InRange s.counters) :
    InRange (match (if r.cls = FrameClass.media then matchFlow s r else none) with
      | some (i, x) => mediaFrame i x r s
      | none =>
        let s := if r.cls = FrameClass.media then noteMember r s else s
        if r.port < 16 then bump (0x80104 + 0x100 * (r.port / 8)) 1 s else s).counters := by
  split
  · exact mediaFrame_inRange h
  · extract_lets t
    have ht : InRange t.counters := by
      unfold t
      split
      · simp [h]
      · exact h
    split
    · exact bump_inRange ht
    · exact ht

/-- What a packet does that its policer lets pass. -/
theorem passed_inRange {x : Bool × State} {f : State → State} (h : InRange x.2.counters)
    (hf : ∀ t : State, InRange t.counters → InRange (f t).counters) :
    InRange (match x with | (pass, t) => if pass then f t else t).counters := by
  obtain ⟨pass, t⟩ := x
  cases pass with
  | true => exact hf t h
  | false => exact h

/-- A packet that a policer `g` judges: nothing without a policer, `f` where it passes. -/
theorem policed_inRange {g : Nat → Nat → State → Bool × State} {f : State → State} {n : Nat} {o : Option Nat}
    (h : InRange s.counters) (hg : ∀ p n, InRange (g p n s).2.counters)
    (hf : ∀ t : State, InRange t.counters → InRange (f t).counters) :
    InRange (match o with
      | none => s
      | some p => match g p n s with
        | (pass, t) => if pass then f t else t).counters := by
  split
  · exact h
  · exact passed_inRange (hg _ _) hf

/-- A packet that a policer `g` judges: `f` where it passes, and `u` without a policer. -/
theorem policedOr_inRange {g : Nat → Nat → State → Bool × State} {f : State → State} {n : Nat} {o : Option Nat}
    {u : State} (hu : InRange u.counters) (hg : ∀ p n, InRange (g p n s).2.counters)
    (hf : ∀ t : State, InRange t.counters → InRange (f t).counters) :
    InRange (match o with
      | some p => (match g p n s with
        | (pass, t) => if pass then f t else t)
      | none => u).counters := by
  split
  · exact passed_inRange (hg _ _) hf
  · exact hu

/-! ### Rows of Rings -/

theorem execCmdRingDoorbell_inRange {r : Nat} {value : Word} (h : InRange s.counters) :
    RanInRange (execCmdRingDoorbell r value s) := by
  unfold execCmdRingDoorbell
  exact ran_inRange (by simp [h])

theorem execCmdRingEnable_inRange {r : Nat} {value : Word} (h : InRange s.counters) :
    RanInRange (execCmdRingEnable r value s) := by
  unfold execCmdRingEnable
  exact ran_inRange (by simp [h])

theorem execCmdRingDisable_inRange {r : Nat} {value : Word} (h : InRange s.counters) :
    RanInRange (execCmdRingDisable r value s) := by
  unfold execCmdRingDisable
  exact ran_inRange (by simp [h])

theorem execEventQueueEnable_inRange {value : Word} (h : InRange s.counters) :
    RanInRange (execEventQueueEnable value s) := by
  unfold execEventQueueEnable
  exact ran_inRange (by simp [h])

theorem execEventQueueDisable_inRange {value : Word} (h : InRange s.counters) :
    RanInRange (execEventQueueDisable value s) := by
  unfold execEventQueueDisable
  exact ran_inRange (by simp [h])

theorem execEventQueueHeadWrite_inRange {value : Word} (h : InRange s.counters) :
    RanInRange (execEventQueueHeadWrite value s) := by
  unfold execEventQueueHeadWrite
  exact ran_inRange (by simp [h])

theorem execCommandUdpPacket_inRange {d : Datagram} (h : InRange s.counters) :
    RanInRange (execCommandUdpPacket d s) := by
  unfold execCommandUdpPacket
  refine ran_inRange ?_
  -- `police` as a variable: else the kernel computes with its byte counts where two matches on it are compared.
  have hp (p n : Nat) : InRange (police p n s).2.counters := police_inRange h
  generalize police = g at hp ⊢
  split
  · exact h
  · exact policed_inRange h hp fun _ => takeCommand_inRange

theorem execReassemblyTimeout_inRange {src : Endpoint} {ident : Nat} (h : InRange s.counters) :
    RanInRange (execReassemblyTimeout src ident s) := by
  unfold execReassemblyTimeout
  exact ran_inRange (by simp [h])

theorem execMsixReenable_inRange {vectors : List Nat} (h : InRange s.counters) :
    RanInRange (execMsixReenable vectors s) := by
  unfold execMsixReenable
  exact ran_inRange (by simp [h])

/-! ### Rows of Power -/

theorem execConverterStart_inRange {x : Start} (h : InRange s.counters) : RanInRange (execConverterStart x s) := by
  unfold execConverterStart
  exact ran_inRange (by simp [h])

theorem execConverterRetry_inRange {x : Start} (h : InRange s.counters) : RanInRange (execConverterRetry x s) := by
  unfold execConverterRetry
  refine ran_inRange ?_
  split
  · split
    · simp [h]
    · exact h
  · exact h

theorem execOverVoltageLockout_inRange {vin : Nat} (h : InRange s.counters) :
    RanInRange (execOverVoltageLockout vin s) := by
  unfold execOverVoltageLockout
  refine ran_inRange ?_
  split
  · dsimp only
    split
    · exact supplyDown_inRange
    · exact h
  · exact h

theorem execSupplyReset_inRange {vin : Nat} (h : InRange s.counters) : RanInRange (execSupplyReset vin s) := by
  unfold execSupplyReset
  refine ran_inRange ?_
  split
  · exact supplyDown_inRange
  · exact h

theorem execConverterStop_inRange {vin : Nat} (h : InRange s.counters) : RanInRange (execConverterStop vin s) := by
  unfold execConverterStop
  refine ran_inRange ?_
  split
  · dsimp only
    split
    · exact supplyDown_inRange
    · exact h
  · exact h

theorem execExternalReset_inRange (h : InRange s.counters) : RanInRange (execExternalReset s) := by
  unfold execExternalReset
  refine ran_inRange ?_
  split
  · exact resetAs_inRange h
  · exact h

theorem execResetNRelease_inRange (h : InRange s.counters) : RanInRange (execResetNRelease s) := by
  unfold execResetNRelease
  refine ran_inRange ?_
  split
  · dsimp only
    split
    · exact changeState_inRange h
    · exact h
  · exact h

theorem execPcieReset_inRange {cause : PcieCause} (h : InRange s.counters) : RanInRange (execPcieReset cause s) := by
  unfold execPcieReset
  exact ran_inRange (by simp [h])

theorem execPciePerstNRelease_inRange (h : InRange s.counters) : RanInRange (execPciePerstNRelease s) := by
  unfold execPciePerstNRelease
  exact ran_inRange (by simp [h])

theorem execPciePerstNDeemedRelease_inRange (h : InRange s.counters) :
    RanInRange (execPciePerstNDeemedRelease s) := by
  unfold execPciePerstNDeemedRelease
  exact ran_inRange (by simp [h])

theorem execPpsInEdge_inRange (h : InRange s.counters) : RanInRange (execPpsInEdge s) := by
  unfold execPpsInEdge
  refine ran_inRange ?_
  split
  · exact h
  · extract_lets early
    split
    · exact bump_inRange h
    · exact h

theorem execPpsInPresentExpiry_inRange (h : InRange s.counters) : RanInRange (execPpsInPresentExpiry s) := by
  unfold execPpsInPresentExpiry
  refine ran_inRange ?_
  split
  · split
    · exact h
    · exact h
  · exact h

theorem execFrameRefInEdge_inRange (h : InRange s.counters) : RanInRange (execFrameRefInEdge s) := by
  unfold execFrameRefInEdge
  exact ran_inRange (by simp [h])

theorem execFreq10mPresenceChange_inRange {mv : Nat} {ppb : Int} (h : InRange s.counters) :
    RanInRange (execFreq10mPresenceChange mv ppb s) := by
  unfold execFreq10mPresenceChange
  exact ran_inRange (by simp [h])

theorem execPpsOutRise_inRange (h : InRange s.counters) : RanInRange (execPpsOutRise s) := by
  unfold execPpsOutRise
  exact ran_inRange (by simp [h])

theorem execPpsOutFall_inRange (h : InRange s.counters) : RanInRange (execPpsOutFall s) := by
  unfold execPpsOutFall
  refine ran_inRange ?_
  split
  · split
    · exact h
    · exact h
  · exact h

theorem execPathForceAssert_inRange (h : InRange s.counters) : RanInRange (execPathForceAssert s) := by
  unfold execPathForceAssert
  refine ran_inRange ?_
  split
  · exact interlock_inRange h
  · exact h

theorem execPathForceDeassert_inRange (h : InRange s.counters) : RanInRange (execPathForceDeassert s) := by
  unfold execPathForceDeassert
  refine ran_inRange ?_
  split
  · exact interlock_inRange h
  · exact h

theorem execGpioPulseEnd_inRange {g : Nat} (h : InRange s.counters) : RanInRange (execGpioPulseEnd g s) := by
  unfold execGpioPulseEnd
  refine ran_inRange ?_
  split
  · split
    · exact h
    · exact h
  · exact h

/-! ### Rows of Watch -/

theorem execSensorSample_inRange {n raw : Nat} {t : Int} (h : InRange s.counters) :
    RanInRange (execSensorSample n raw t s) := by
  unfold execSensorSample
  exact ran_inRange (by simp [h])

theorem execSensorFault_inRange {n : Nat} (h : InRange s.counters) : RanInRange (execSensorFault n s) := by
  unfold execSensorFault
  refine ran_inRange ?_
  split
  · exact faultSensor_inRange h
  · exact h

theorem execSensorSelfCheck_inRange {n : Nat} {error : Int} (h : InRange s.counters) :
    RanInRange (execSensorSelfCheck n error s) := by
  unfold execSensorSelfCheck
  refine ran_inRange ?_
  split
  · exact h
  · split
    · dsimp only
      split
      · exact h
      · exact faultSensor_inRange h
    · split
      · exact h
      · split
        · exact h
        · exact sensorEvent_inRange h

theorem execHardTrip_inRange (h : InRange s.counters) : RanInRange (execHardTrip s) := by
  unfold execHardTrip
  refine ran_inRange ?_
  split
  · exact enterSafeState_inRange h
  · exact h

theorem execTelemetryFrame_inRange {f : TelFrame} (h : InRange s.counters) : RanInRange (execTelemetryFrame f s) := by
  unfold execTelemetryFrame
  refine ran_inRange ?_
  split
  · exact h
  · extract_lets t u v w
    have ht : InRange t.counters := by
      unfold t
      rwa [measure_counters]
    have hu : InRange u.counters := by
      unfold u
      split
      · exact raiseWarn_inRange ht
      · exact ht
    have hv : InRange v.counters := by
      unfold v
      split
      · rwa [raise_counters]
      · exact hu
    split
    · exact supplyDown_inRange
    · exact hv

theorem execTelemetryLost_inRange (h : InRange s.counters) : RanInRange (execTelemetryLost s) := by
  unfold execTelemetryLost
  refine ran_inRange ?_
  split
  · exact h
  · extract_lets last _ t u
    have ht : InRange t.counters := h
    have hu : InRange u.counters := raiseWarn_inRange ht
    clear_value u
    split
    · exact supplyEvent_inRange ht
    · exact hu

theorem execTelemetryRecovered_inRange (h : InRange s.counters) : RanInRange (execTelemetryRecovered s) := by
  unfold execTelemetryRecovered
  exact ran_inRange (by simp [h])

theorem execSupplyWarnClear_inRange (h : InRange s.counters) : RanInRange (execSupplyWarnClear s) := by
  unfold execSupplyWarnClear
  refine ran_inRange ?_
  split
  · rw [closeDip_counters, raise_counters]
    exact supplyEvent_inRange h
  · exact h

/-! ### Rows of Boot -/

theorem execBootImageStart_inRange (h : InRange s.counters) : RanInRange (execBootImageStart s) := by
  unfold execBootImageStart
  refine ran_inRange ?_
  split
  · exact h
  · split
    · exact h
    · extract_lets _ _ t u
      have hu : InRange u.counters := by
        unfold u
        split
        · exact changeState_inRange h
        · refine changeState_inRange ?_
          rwa [powerSpires_counters]
      clear_value u
      refine sendOwed_inRange (interlock_inRange ?_)
      rwa [serveBells_counters]

theorem execDramTrainingTimeout_inRange {failed sub : Nat} (h : InRange s.counters) :
    RanInRange (execDramTrainingTimeout failed sub s) := by
  unfold execDramTrainingTimeout
  refine ran_inRange ?_
  split
  · refine enterSafeState_inRange (foldl_inRange (fun t ch ht => ?_) h)
    split
    · rw [raise_counters]
      exact trainEvent_inRange ht
    · exact ht
  · exact h

theorem execWarmReset_inRange (h : InRange s.counters) : RanInRange (execWarmReset s) := by
  unfold execWarmReset
  refine ran_inRange ?_
  split
  · split
    · refine resetAs_inRange ?_
      split
      · simp [h]
      · exact h
    · exact h
  · exact h

theorem execWatchdogExpiry_inRange {core : Nat} (h : InRange s.counters) :
    RanInRange (execWatchdogExpiry core s) := by
  unfold execWatchdogExpiry
  exact ran_inRange (by simp [h])

theorem execManagementLinkStateChange_inRange {up : Bool} {rate : Nat} (h : InRange s.counters) :
    RanInRange (execManagementLinkStateChange up rate s) := by
  unfold execManagementLinkStateChange
  exact ran_inRange (by simp [h])

/-! ### Rows of Belfry -/

theorem execPtpAnnounceReceived_inRange {a : Announce} (h : InRange s.counters) :
    RanInRange (execPtpAnnounceReceived a s) := by
  unfold execPtpAnnounceReceived
  exact ran_inRange (by simp [h])

theorem execAnnounceReceiptTimeout_inRange (h : InRange s.counters) : RanInRange (execAnnounceReceiptTimeout s) := by
  unfold execAnnounceReceiptTimeout
  refine ran_inRange ?_
  extract_lets p silent left t
  split
  · exact h
  · split
    · simp [h, t]
    · simp [h, t]

theorem execSyncTimeout_inRange (h : InRange s.counters) : RanInRange (execSyncTimeout s) := by
  unfold execSyncTimeout
  exact ran_inRange (by simp [h])

theorem execDelayReqSend_inRange (h : InRange s.counters) : RanInRange (execDelayReqSend s) := by
  unfold execDelayReqSend
  exact ran_inRange (by simp [h])

theorem execDelayRespReceived_inRange {path lane gm : Nat} {late : Int} (h : InRange s.counters) :
    RanInRange (execDelayRespReceived path lane gm late s) := by
  unfold execDelayRespReceived
  exact ran_inRange (by simp [h])

theorem execPtpSyncReceived_inRange {m : SyncMeas} (h : InRange s.counters) :
    RanInRange (execPtpSyncReceived m s) := by
  unfold execPtpSyncReceived
  refine ran_inRange ?_
  split
  · exact h
  · extract_lets t p o k u
    have ht : InRange t.counters := by
      unfold t
      rwa [notePath_counters]
    split
    · exact ht
    · split
      · exact ht
      · have hu : InRange u.counters := by
          unfold u
          rwa [modPtp_counters, noteOffset_counters]
        split
        · exact hu
        · simp [hu]
        · exact measureTracking_inRange hu
        · exact measureTracking_inRange hu
        · exact measureHoldover_inRange hu
        · exact measureRequalify_inRange hu

theorem execPtpConfigApply_inRange (h : InRange s.counters) : RanInRange (execPtpConfigApply s) := by
  unfold execPtpConfigApply
  refine ran_inRange ?_
  split
  · exact h
  · extract_lets old t moved u v
    have hv : InRange v.counters := by
      unfold v u
      rw [notePath_counters]
      split
      · exact h
      · exact h
    split
    · rwa [followFreq_counters]
    · exact hv

theorem execSlewComplete_inRange {tb : Nat} (h : InRange s.counters) : RanInRange (execSlewComplete tb s) := by
  unfold execSlewComplete
  refine ran_inRange ?_
  split
  · exact h
  · split
    · exact h
    · exact h

theorem execTsqHiRead_inRange {t : Nat} (h : InRange s.counters) : RanInRange (execTsqHiRead t s) := by
  unfold execTsqHiRead
  exact ran_inRange (by simp [h])

theorem execBelfNow32Read_inRange (h : InRange s.counters) : RanInRange (execBelfNow32Read s) := by
  unfold execBelfNow32Read
  exact ran_inRange (by simp [h])

theorem execTbFrameCountRead_inRange {tb : Nat} (h : InRange s.counters) :
    RanInRange (execTbFrameCountRead tb s) := by
  unfold execTbFrameCountRead
  exact ran_inRange (by simp [h])

/-! ### Rows of DecodeCtx -/

theorem execAccessUnitMapped_inRange {ctx : Nat} {u : UnitHead} (h : InRange s.counters) :
    RanInRange (execAccessUnitMapped ctx u s) := by
  unfold execAccessUnitMapped
  refine ran_inRange ?_
  extract_lets x slot now n r start live
  split
  · exact h
  · split
    · exact h
    · split
      · exact h
      · split
        · exact h
        · exact pumpUnits_inRange h

theorem execAccessUnitComplete_inRange {ctx slot : Nat} {bottom : Bool} {e : UnitEnd} (h : InRange s.counters) :
    RanInRange (execAccessUnitComplete ctx slot bottom e s) := by
  unfold execAccessUnitComplete
  exact ran_inRange (endUnit_inRange h)

theorem execDecodeReleaseDeadline_inRange {ctx slot : Nat} {bottom : Bool} {e : UnitEnd} (h : InRange s.counters) :
    RanInRange (execDecodeReleaseDeadline ctx slot bottom e s) := by
  unfold execDecodeReleaseDeadline
  refine ran_inRange ?_
  extract_lets later due
  split
  · exact endUnit_inRange h
  · exact h

theorem execDecodeFrameSkip_inRange {ctx frame : Nat} (h : InRange s.counters) :
    RanInRange (execDecodeFrameSkip ctx frame s) := by
  unfold execDecodeFrameSkip
  refine ran_inRange ?_
  extract_lets x due late idle t
  have ht : InRange t.counters := by
    refine foldl_inRange (fun t u ht => ?_) h
    rw [raise_counters]
    exact bump_inRange ht
  exact pumpUnits_inRange (foldl_inRange (fun _ _ => skipFrame_inRange) ht)

/-! ### Rows of Frames -/

theorem execFrameBind_inRange (h : InRange s.counters) : RanInRange (execFrameBind s) := by
  unfold execFrameBind
  refine ran_inRange ?_
  split
  · simp [h]
  · exact h

theorem execTaskDispatch_inRange {engine : Nat} (h : InRange s.counters) :
    RanInRange (execTaskDispatch engine s) := by
  unfold execTaskDispatch
  refine ran_inRange ?_
  split
  · exact dispatchSpire_inRange h
  · exact dispatchDome_inRange h

theorem execSpillRefill_inRange (h : InRange s.counters) : RanInRange (execSpillRefill s) := by
  unfold execSpillRefill
  exact ran_inRange (by simp [h])

theorem execDecodeAbandon_inRange {ctx slot : Nat} {bottom : Bool} (h : InRange s.counters) :
    RanInRange (execDecodeAbandon ctx slot bottom s) := by
  unfold execDecodeAbandon
  refine ran_inRange ?_
  split
  · extract_lets g work mine stop idle t u holes
    split
    · exact h
    · simp [h, t, u]
  · exact h

theorem execSegmentDone_inRange {spire : Nat} {q : SegIn} (h : InRange s.counters) :
    RanInRange (execSegmentDone spire q s) := by
  unfold execSegmentDone
  refine ran_inRange ?_
  extract_lets p
  split
  · split
    · rwa [releaseSpire_counters]
    · extract_lets at' g k x fetched put t
      split
      · refine endSegment_inRange ?_
        split
        · exact h
        · exact bump_inRange h
      · have ht : InRange t.counters := bumps_inRange h
        refine stageAll_inRange ?_
        exact ht
  · exact h

theorem execStagingResume_inRange {spire : Nat} (h : InRange s.counters) :
    RanInRange (execStagingResume spire s) := by
  unfold execStagingResume
  refine ran_inRange ?_
  extract_lets p
  split
  · split
    · split
      · exact h
      · refine stageAll_inRange ?_
        simp [h]
    · exact endSegment_inRange h
  · exact h

theorem execBindUrgent_inRange {ctx frame : Nat} (h : InRange s.counters) :
    RanInRange (execBindUrgent ctx frame s) := by
  unfold execBindUrgent
  refine ran_inRange ?_
  refine foldl_inRange (fun t r ht => ?_) h
  dsimp only
  rw [raise_counters]
  exact bump_inRange ht

theorem execSubstitutePicture_inRange {ctx frame : Nat} (h : InRange s.counters) :
    RanInRange (execSubstitutePicture ctx frame s) := by
  unfold execSubstitutePicture
  refine ran_inRange ?_
  dsimp only
  rw [promote_counters, settleClosing_counters]
  exact foldl_inRange (fun _ _ => substituteOne_inRange) h

theorem execDomeBind_inRange (h : InRange s.counters) : RanInRange (execDomeBind s) := by
  unfold execDomeBind
  refine ran_inRange ?_
  split
  · exact h
  · extract_lets df ds on t
    split
    · exact h
    · exact h

theorem execDomeTaskDone_inRange {dome row seg : Nat} (h : InRange s.counters) :
    RanInRange (execDomeTaskDone dome row seg s) := by
  unfold execDomeTaskDone
  refine ran_inRange ?_
  extract_lets p
  split
  · split
    · exact h
    · split
      · exact h
      · dsimp only
        rw [promote_counters]
        split
        · exact h
        · exact bump_inRange (bump_inRange (bump_inRange h))
  · exact h

theorem execFrameClose_inRange {ctx frame : Nat} {late : Bool} (h : InRange s.counters) :
    RanInRange (execFrameClose ctx frame late s) := by
  unfold execFrameClose
  refine ran_inRange ?_
  split
  · exact h
  · split
    · exact h
    · dsimp only
      rw [promote_counters, settleClosing_counters]
      split
      · exact pumpUnits_inRange (closeDecode_inRange h)
      · exact closeEncode_inRange h

theorem execAlfFitComplete_inRange {ctx frame : Nat} (h : InRange s.counters) :
    RanInRange (execAlfFitComplete ctx frame s) := by
  unfold execAlfFitComplete
  refine ran_inRange ?_
  dsimp only
  split
  · exact h
  · exact h

theorem execSpirePowerUp_inRange {spire : Nat} (h : InRange s.counters) : RanInRange (execSpirePowerUp spire s) := by
  unfold execSpirePowerUp
  exact ran_inRange (by simp [h])

theorem execThrottleTick_inRange (h : InRange s.counters) : RanInRange (execThrottleTick s) := by
  unfold execThrottleTick
  refine ran_inRange ?_
  dsimp only
  split
  · exact throttle_inRange h
  · rw [reproject_counters]
    refine throttle_inRange ?_
    rwa [runAll_counters]

/-! ### Rows of Lantern -/

theorem execLanternTileRepair_inRange {image tile : Nat} (h : InRange s.counters) :
    RanInRange (execLanternTileRepair image tile s) := by
  unfold execLanternTileRepair
  refine ran_inRange ?_
  split
  · split
    · exact h
    · exact h
  · exact h

theorem execLanternScrub_inRange (h : InRange s.counters) : RanInRange (execLanternScrub s) := by
  unfold execLanternScrub
  refine ran_inRange ?_
  refine foldl_inRange (fun t x ht => ?_) h
  dsimp only
  split
  · split
    · exact foldl_inRange (fun _ _ => scrubTile_inRange) ht
    · exact ht
  · exact ht

/-! ### Rows of Cupola -/

theorem execSourceFrameComplete_inRange {source format rate : Nat} (h : InRange s.counters) :
    RanInRange (execSourceFrameComplete source format rate s) := by
  unfold execSourceFrameComplete
  exact ran_inRange (by simp [h])

theorem execDirectLineArrival_inRange {comp layer line : Nat} (h : InRange s.counters) :
    RanInRange (execDirectLineArrival comp layer line s) := by
  unfold execDirectLineArrival
  refine ran_inRange ?_
  split
  · exact h
  · split
    · extract_lets tb y
      split
      · exact h
      · split
        · split
          · exact h
          · exact h
        · split
          · exact h
          · split
            · exact h
            · exact missLine_inRange h
    · exact h

theorem execComposedRowWritten_inRange {comp : Nat} {r : RowIn} (h : InRange s.counters) :
    RanInRange (execComposedRowWritten comp r s) := by
  unfold execComposedRowWritten
  refine ran_inRange ?_
  split
  · exact h
  · split
    · exact h
    · extract_lets g row hi t u x
      have ht : InRange t.counters := checkDirect_inRange h
      have hu : InRange u.counters := by
        unfold u
        split
        · exact checkLines_inRange ht
        · exact ht
      clear_value u
      split
      · exact h
      · split
        next w slots _ =>
        dsimp only
        rw [setRows_counters, setPyramids_counters]
        exact bump_inRange hu

/-! ### Rows of Memory -/

theorem execBar2Write_inRange {offset : Nat} {bytes : List Byte} (h : InRange s.counters) :
    RanInRange (execBar2Write offset bytes s) := by
  unfold execBar2Write
  refine ran_inRange ?_
  extract_lets a k t lost u
  have ht : InRange t.counters := by
    unfold t
    rwa [memStore_counters]
  clear_value t
  have hu : InRange u.counters := by
    unfold u
    split
    · rw [raise_counters]
      exact bump_inRange ht
    · exact ht
  clear_value u
  split
  · exact h
  · split
    · exact bump_inRange hu
    · exact hu

theorem execBar2Read_inRange {offset len : Nat} (h : InRange s.counters) :
    RanInRange (execBar2Read offset len s) := by
  unfold execBar2Read
  exact ran_inRange (by simp [h])

theorem execRhWindowEnd_inRange (h : InRange s.counters) : RanInRange (execRhWindowEnd s) := by
  unfold execRhWindowEnd
  refine ran_inRange ?_
  dsimp only
  rw [modMem_counters]
  exact foldl_inRange (fun _ _ => rhEvent_inRange) h

theorem execMemoryRequest_inRange {q : MemReq} (h : InRange s.counters) : RanInRange (execMemoryRequest q s) := by
  unfold execMemoryRequest
  refine ran_inRange ?_
  extract_lets l t
  split
  · exact h
  · refine foldl_inRange (fun _ _ => commandSlot_inRange) ?_
    exact foldl_inRange (fun _ _ ht => ht) h

theorem execPatrolScrub_inRange {q : MemReq} (h : InRange s.counters) : RanInRange (execPatrolScrub q s) := by
  unfold execPatrolScrub
  refine ran_inRange ?_
  extract_lets r q'
  split
  · exact h
  · split
    · exact h
    · rw [noteScrub_counters]
      exact requestErrors_inRange h

theorem execRefreshDue_inRange {rank group bank : Nat} (h : InRange s.counters) :
    RanInRange (execRefreshDue rank group bank s) := by
  unfold execRefreshDue
  exact ran_inRange (by simp [h])

theorem execPageIdleClose_inRange {rank bank : Nat} (h : InRange s.counters) :
    RanInRange (execPageIdleClose rank bank s) := by
  unfold execPageIdleClose
  exact ran_inRange (by simp [h])

theorem execPowerDownEntry_inRange {rank : Nat} {arrival : Bool} (h : InRange s.counters) :
    RanInRange (execPowerDownEntry rank arrival s) := by
  unfold execPowerDownEntry
  exact ran_inRange (by simp [h])

theorem execTrainingPassStart_inRange {channel : Nat} {thermal : Bool} (h : InRange s.counters) :
    RanInRange (execTrainingPassStart channel thermal s) := by
  unfold execTrainingPassStart
  exact ran_inRange (by simp [h])

theorem execTrainingPassCommit_inRange {channel : Nat} (h : InRange s.counters) :
    RanInRange (execTrainingPassCommit channel s) := by
  unfold execTrainingPassCommit
  exact ran_inRange (by simp [h])

theorem execTrainFail_inRange {channel sub : Nat} {margin : Int} (h : InRange s.counters) :
    RanInRange (execTrainFail channel sub margin s) := by
  unfold execTrainFail
  refine ran_inRange ?_
  split
  · refine startLadder_inRange ?_
    simp [h]
  · exact h

theorem execSetpointSwitchStart_inRange (h : InRange s.counters) : RanInRange (execSetpointSwitchStart s) := by
  unfold execSetpointSwitchStart
  exact ran_inRange (by simp [h])

theorem execSetpointSwitchComplete_inRange (h : InRange s.counters) : RanInRange (execSetpointSwitchComplete s) := by
  unfold execSetpointSwitchComplete
  refine ran_inRange ?_
  split
  · exact bump_inRange h
  · exact h

theorem execSetpointCheckComplete_inRange {failed sub : Nat} {margin : Int} (h : InRange s.counters) :
    RanInRange (execSetpointCheckComplete failed sub margin s) := by
  unfold execSetpointCheckComplete
  refine ran_inRange ?_
  split
  · exact h
  · extract_lets t
    have ht : InRange t.counters := by
      unfold t
      rwa [engineIdle_counters]
    clear_value t
    split
    · exact startLadders_inRange (ladderOutcome_inRange ht)
    · exact startLadders_inRange ht

/-! ### Rows of Dma -/

theorem execDmaTrigger_inRange {c kind : Nat} (h : InRange s.counters) : RanInRange (execDmaTrigger c kind s) := by
  unfold execDmaTrigger
  refine ran_inRange ?_
  dsimp only
  split
  · exact h
  · exact triggerChan_inRange h

theorem execDmaTimerExpiry_inRange {c : Nat} (h : InRange s.counters) : RanInRange (execDmaTimerExpiry c s) := by
  unfold execDmaTimerExpiry
  refine ran_inRange ?_
  dsimp only
  split
  · exact h
  · exact triggerChan_inRange h

theorem execDmaRunEnd_inRange {c : Nat} {q : DmaIn} (h : InRange s.counters) : RanInRange (execDmaRunEnd c q s) := by
  unfold execDmaRunEnd
  refine ran_inRange ?_
  split
  · exact h
  · split
    next t err e => exact endRun_inRange (fst_inRange e (moveRun_inRange h))

theorem execDmaDomainResume_inRange {d : Nat} (h : InRange s.counters) : RanInRange (execDmaDomainResume d s) := by
  unfold execDmaDomainResume
  exact ran_inRange (by simp [h])

theorem execPcieEndpointReady_inRange (h : InRange s.counters) : RanInRange (execPcieEndpointReady s) := by
  unfold execPcieEndpointReady
  exact ran_inRange (by simp [h])

theorem execHostMemoryLost_inRange (h : InRange s.counters) : RanInRange (execHostMemoryLost s) := by
  unfold execHostMemoryLost
  exact ran_inRange (by simp [h])

theorem execChkFeed8Write_inRange {n : Nat} {v : Word} (h : InRange s.counters) :
    RanInRange (execChkFeed8Write n v s) := by
  unfold execChkFeed8Write
  exact ran_inRange (by simp [h])

theorem execChkFeed16Write_inRange {n : Nat} {v : Word} (h : InRange s.counters) :
    RanInRange (execChkFeed16Write n v s) := by
  unfold execChkFeed16Write
  exact ran_inRange (by simp [h])

theorem execChkFeed32Write_inRange {n : Nat} {v : Word} (h : InRange s.counters) :
    RanInRange (execChkFeed32Write n v s) := by
  unfold execChkFeed32Write
  exact ran_inRange (by simp [h])

/-! ### Rows of Lanes -/

theorem execPllLock_inRange {key : Nat} {bad : List Nat} (h : InRange s.counters) :
    RanInRange (execPllLock key bad s) := by
  unfold execPllLock
  refine ran_inRange ?_
  extract_lets l bad ok t
  split
  · split
    · exact h
    · exact h
  · split
    · exact h
    · split
      · exact failBringup_inRange h
      · split
        · simp [h, t]
        · simp [h, t]

theorem execAutonegComplete_inRange {key : Nat} {ok : Bool} (h : InRange s.counters) :
    RanInRange (execAutonegComplete key ok s) := by
  unfold execAutonegComplete
  refine ran_inRange ?_
  split
  · exact h
  · split
    · simp [h]
    · exact startPort_inRange (foldl_inRange (fun _ _ => bump_inRange) h)

theorem execTrainingCoeffRequest_inRange {n tap : Nat} {up : Bool} (h : InRange s.counters) :
    RanInRange (execTrainingCoeffRequest n tap up s) := by
  unfold execTrainingCoeffRequest
  exact ran_inRange (by simp [h])

theorem execLinkTrainingEnd_inRange {key : Nat} {bad : List Nat} {precodeTx precodeRx : Bool} (h : InRange s.counters) :
    RanInRange (execLinkTrainingEnd key bad precodeTx precodeRx s) := by
  unfold execLinkTrainingEnd
  refine ran_inRange ?_
  split
  · exact h
  · extract_lets bad t f dir
    split
    · refine failBringup_inRange ?_
      simp [h, t]
    · simp [h, t]

theorem execLinkLock_inRange {n : Nat} {x : LockSeen} (h : InRange s.counters) : RanInRange (execLinkLock n x s) := by
  unfold execLinkLock
  exact ran_inRange (by simp [h])

theorem execDeskew_inRange {key : Nat} {arrivals : List Nat} (h : InRange s.counters) :
    RanInRange (execDeskew key arrivals s) := by
  unfold execDeskew
  refine ran_inRange ?_
  extract_lets p lanes latest holds t
  split
  · exact h
  · split
    · exact h
    · exact foldl_inRange (fun _ _ ht => ht) h

theorem execPortRetry_inRange {key : Nat} (h : InRange s.counters) : RanInRange (execPortRetry key s) := by
  unfold execPortRetry
  refine ran_inRange ?_
  split
  · exact startPort_inRange h
  · exact h

theorem execCdrLockTimeout_inRange {key : Nat} (h : InRange s.counters) : RanInRange (execCdrLockTimeout key s) := by
  unfold execCdrLockTimeout
  refine ran_inRange ?_
  split
  · exact failBringup_inRange h
  · exact h

theorem execSignalReturn_inRange {n : Nat} (h : InRange s.counters) : RanInRange (execSignalReturn n s) := by
  unfold execSignalReturn
  refine ran_inRange ?_
  split
  · exact h
  · dsimp only
    split
    · exact startPort_inRange h
    · exact h

theorem execLaneLoss_inRange {n : Nat} {k : LaneLoss} (h : InRange s.counters) : RanInRange (execLaneLoss n k s) := by
  unfold execLaneLoss
  refine ran_inRange ?_
  split
  · exact h
  · dsimp only
    split
    · exact h
    · split
      · rw [setPort_counters]
        exact noteDown_inRange h
      · exact h
      · exact h

theorem execLaneRelockTimeout_inRange {key : Nat} (h : InRange s.counters) :
    RanInRange (execLaneRelockTimeout key s) := by
  unfold execLaneRelockTimeout
  refine ran_inRange ?_
  split
  · exact startPort_inRange h
  · exact h

theorem execFecUncorrectable_inRange {x : LaneCount} (h : InRange s.counters) :
    RanInRange (execFecUncorrectable x s) := by
  unfold execFecUncorrectable
  refine ran_inRange ?_
  extract_lets n key t
  have ht : InRange t.counters := bump_inRange h
  clear_value t
  split
  · exact h
  · split
    · rwa [modHealth_counters]
    · exact ht

theorem execRefLost_inRange (h : InRange s.counters) : RanInRange (execRefLost s) := by
  unfold execRefLost
  refine ran_inRange ?_
  split
  · exact foldl_inRange (fun _ _ => startPort_inRange) h
  · exact h

theorem execLaneRefclkPresenceChange_inRange {ppm : Int} (h : InRange s.counters) :
    RanInRange (execLaneRefclkPresenceChange ppm s) := by
  unfold execLaneRefclkPresenceChange
  exact ran_inRange (by simp [h])

theorem execSdiTrsLock_inRange {m format rate : Nat} {x : TrsSeen} (h : InRange s.counters) :
    RanInRange (execSdiTrsLock m format rate x s) := by
  unfold execSdiTrsLock
  exact ran_inRange (by simp [h])

theorem execSdiTrsLoss_inRange {x : LaneCount} (h : InRange s.counters) : RanInRange (execSdiTrsLoss x s) := by
  unfold execSdiTrsLoss
  refine ran_inRange ?_
  split
  · rw [raise_counters]
    exact bump_inRange h
  · exact h

theorem execSdiFrameComplete_inRange {m skew : Nat} {content : List SdiLine} {x : SdiAnc} (h : InRange s.counters) :
    RanInRange (execSdiFrameComplete m skew content x s) := by
  unfold execSdiFrameComplete
  refine ran_inRange ?_
  extract_lets quad lanes l t u late v links whole w
  have hu : InRange u.counters := by
    unfold u
    rw [embedAudio_counters]
    exact bump_inRange (bump_inRange h)
  have hw : InRange w.counters := by
    unfold w v
    rw [modLanes_counters]
    split
    · exact bump_inRange hu
    · exact hu
  clear_value w
  split
  · exact h
  · split
    · rwa [completeSource_counters]
    · exact hw

theorem execSdiOutputFrame_inRange {m : Nat} (h : InRange s.counters) : RanInRange (execSdiOutputFrame m s) := by
  unfold execSdiOutputFrame
  refine ran_inRange ?_
  extract_lets n l
  split
  · exact h
  · extract_lets k t stretched lines o u
    have hu : InRange u.counters := by
      unfold u
      split
      · exact bump_inRange h
      · exact h
    clear_value u
    split
    · exact h
    · split
      next audio v e =>
      exact snd_inRange (t := v) e (by simp [hu])

/-! ### Rows of Flows -/

theorem execFecWindowEnd_inRange {w : FecWindow} (h : InRange s.counters) : RanInRange (execFecWindowEnd w s) := by
  unfold execFecWindowEnd
  refine ran_inRange ?_
  split
  · exact h
  · dsimp only
    rw [modHealth_counters]
    exact countWindow_inRange h

theorem execSentinelTimeout_inRange {t flow : Nat} (h : InRange s.counters) :
    RanInRange (execSentinelTimeout t flow s) := by
  unfold execSentinelTimeout
  exact ran_inRange (by simp [h])

theorem execHealthSettled_inRange {t : Nat} (h : InRange s.counters) : RanInRange (execHealthSettled t s) := by
  unfold execHealthSettled
  refine ran_inRange ?_
  extract_lets t hh
  have ht : InRange t.counters := by
    unfold t
    rwa [judgeSentinels_counters]
  split
  · exact interlock_inRange (pathEvent_inRange (by rwa [modHealth_counters]))
  · exact ht

theorem execHoldoffExpiry_inRange (h : InRange s.counters) : RanInRange (execHoldoffExpiry s) := by
  unfold execHoldoffExpiry
  exact ran_inRange (interlock_inRange h)

theorem execFrameReceived_inRange {r : RxFrame} (h : InRange s.counters) : RanInRange (execFrameReceived r s) := by
  unfold execFrameReceived
  refine ran_inRange ?_
  -- `police` as a variable: else the kernel computes with its byte counts where two matches on it are compared.
  have hp (p n : Nat) : InRange (police p n s).2.counters := police_inRange h
  generalize police = g at hp ⊢
  split
  · exact h
  · split
    · split
      · exact bump_inRange h
      · split
        · exact bump_inRange h
        · exact h
    · extract_lets r' t
      exact policedOr_inRange (unpoliced_inRange h) hp fun _ => firmwareFrame_inRange

theorem execVideoFrameSkewTimeout_inRange {i : Nat} (h : InRange s.counters) :
    RanInRange (execVideoFrameSkewTimeout i s) := by
  unfold execVideoFrameSkewTimeout
  refine ran_inRange ?_
  split
  · exact h
  · dsimp only
    split
    · exact completeVideo_inRange h
    · exact h

theorem execMergeGapTimeout_inRange {i : Nat} (h : InRange s.counters) : RanInRange (execMergeGapTimeout i s) := by
  unfold execMergeGapTimeout
  exact ran_inRange (runDelivery_inRange h)

theorem execPacketLaunch_inRange {x : Launch} (h : InRange s.counters) : RanInRange (execPacketLaunch x s) := by
  unfold execPacketLaunch
  refine ran_inRange ?_
  split
  · split
    · split
      · exact sendHost_inRange h
      · exact h
    · exact h
  · extract_lets may
    split
    · split
      · exact launchTail_inRange h
      · exact h
    · split
      · exact h
      · extract_lets q t
        have ht : InRange t.counters := h
        clear_value t
        split
        · exact launchNext_inRange ht
        · split
          · exact launchNulls_inRange ht
          · exact ht

theorem execQueuedPacketSend_inRange {p : Nat} (h : InRange s.counters) : RanInRange (execQueuedPacketSend p s) := by
  unfold execQueuedPacketSend
  refine ran_inRange ?_
  split
  · exact h
  · extract_lets t l cur q
    have ht : InRange t.counters := by
      unfold t
      rwa [followGate_counters]
    clear_value t
    split
    · split
      · exact sendHead_inRange ht
      · exact ht
    · split
      · exact ht
      · split
        · refine sendHead_inRange ?_
          exact foldl_inRange (fun _ _ hu => hu) ht
        · exact ht

theorem execMembershipReportRepeat_inRange (h : InRange s.counters) : RanInRange (execMembershipReportRepeat s) := by
  unfold execMembershipReportRepeat
  exact ran_inRange (by simp [h])

theorem execMembershipQueryResponse_inRange {port : Nat} {q : MemberQuery} (h : InRange s.counters) :
    RanInRange (execMembershipQueryResponse port q s) := by
  unfold execMembershipQueryResponse
  exact ran_inRange (by simp [h])

theorem execArpRefresh_inRange (h : InRange s.counters) : RanInRange (execArpRefresh s) := by
  unfold execArpRefresh
  refine ran_inRange ?_
  exact foldl_inRange (fun _ _ ht => ht) h

/-! ### Rows of Regs -/

theorem execCounterReadClear_inRange {off : Nat} (h : InRange s.counters) :
    RanInRange (execCounterReadClear off s) := by
  unfold execCounterReadClear
  refine ran_inRange ?_
  split
  · exact counterRead_inRange h
  · exact h

theorem execW1cWrite_inRange {off : Nat} {value meets : Word} (h : InRange s.counters) :
    RanInRange (execW1cWrite off value meets s) := by
  unfold execW1cWrite
  exact ran_inRange (by simp [h])

theorem execRegisterWrite_inRange {off : Nat} {v : Word} (h : InRange s.counters) :
    RanInRange (execRegisterWrite off v s) := by
  unfold execRegisterWrite
  exact ran_inRange (by simp [h])

/-! ### Rows of Process -/

theorem execCommandExecute_inRange {e : ExecIn} (h : InRange s.counters) : RanInRange (execCommandExecute e s) := by
  unfold execCommandExecute
  refine ran_inRange ?_
  split
  · exact h
  · split
    · exact h
    · split
      · exact h
      · exact runItem_inRange h

theorem execBackgroundCommandComplete_inRange {job : Nat} {ok : Bool} (h : InRange s.counters) :
    RanInRange (execBackgroundCommandComplete job ok s) := by
  unfold execBackgroundCommandComplete
  refine ran_inRange ?_
  split
  · exact h
  · extract_lets held _ t
    have ht : InRange t.counters := by
      unfold t
      rwa [unblock_counters]
    clear_value t
    split
    · exact ht
    next op e =>
    have ho := opTable_keepsRange _ op e
    exact endBackground_after_inRange ho (answerJob_inRange (endBackground_inRange ho ht))

theorem execDramTrainingCommit_inRange {failed sub : Nat} {margin : Int} (h : InRange s.counters) :
    RanInRange (execDramTrainingCommit failed sub margin s) := by
  unfold execDramTrainingCommit
  refine ran_inRange ?_
  split
  · exact h
  · split
    · exact enterSafeState_inRange h
    · extract_lets warm t u
      have ht : InRange t.counters := by
        unfold t
        rw [noteTraining_counters]
        exact changeState_inRange h
      have hu : InRange u.counters := by
        unfold u
        split
        · exact startLadders_inRange ht
        · exact ht
      rwa [queueStore_counters]

theorem execStartupStoreResume_inRange (h : InRange s.counters) : RanInRange (execStartupStoreResume s) := by
  unfold execStartupStoreResume
  refine ran_inRange ?_
  split
  · split
    · simp [h]
    · exact h
  · exact h

theorem execPendingCommandEffect_inRange {tb frame : Nat} (h : InRange s.counters) :
    RanInRange (execPendingCommandEffect tb frame s) := by
  unfold execPendingCommandEffect
  refine ran_inRange ?_
  split
  · split
    · exact effectPend_inRange opTable_keepsRange h
    · exact h
  · exact h

/-! ### Rows of Boundary -/

theorem execFrameBoundary_inRange {tb : Nat} (h : InRange s.counters) : RanInRange (execFrameBoundary tb s) := by
  unfold execFrameBoundary
  refine ran_inRange ?_
  split
  · exact h
  · dsimp only
    split
    · exact passBoundary_inRange h
    · exact h

theorem execRasterEventFire_inRange {unit : Nat} (h : InRange s.counters) :
    RanInRange (execRasterEventFire unit s) := by
  unfold execRasterEventFire
  refine ran_inRange ?_
  dsimp only
  split
  · exact fireUnit_inRange (foldl_inRange (fun _ _ => fireUnit_inRange) h)
  · exact h

/-! ### Rows of Drain -/

theorem execDmaDrainPause_inRange {c : Nat} (h : InRange s.counters) : RanInRange (execDmaDrainPause c s) := by
  unfold execDmaDrainPause
  refine ran_inRange ?_
  split
  · refine settleDrain_inRange ?_
    rwa [pauseForTile_counters]
  · exact h

theorem execDrainTimeout_inRange {t : Nat} (h : InRange s.counters) : RanInRange (execDrainTimeout t s) := by
  unfold execDrainTimeout
  refine ran_inRange ?_
  split
  · exact h
  next tick j _ =>
  extract_lets held t x
  have ht : InRange t.counters := by
    unfold t
    rw [resumeDomain_counters, unpark_counters, raise_counters]
    exact bump_inRange h
  clear_value t
  split
  · exact h
  · split
    · exact finishDrain_inRange h
    · exact answerJob_inRange ht

/-! ### The step -/

/-- A packet of an opcode run as a step of its own keeps the counters in range. -/
theorem command_inRange {op : Op} {c : Cmd} (ho : op.KeepsRange) (h : InRange s.counters) :
    RanInRange (command op c s) := by
  unfold command
  refine ran_inRange ?_
  split
  · exact h
  · exact runCmd_inRange ho h

theorem exec_inRange (i : Instr) (h : InRange s.counters) : RanInRange (exec i s) := by
  cases i with
  | converterStart x => exact execConverterStart_inRange h
  | converterRetry x => exact execConverterRetry_inRange h
  | overVoltageLockout vin => exact execOverVoltageLockout_inRange h
  | supplyReset vin => exact execSupplyReset_inRange h
  | converterStop vin => exact execConverterStop_inRange h
  | telemetryFrame f => exact execTelemetryFrame_inRange h
  | telemetryLost => exact execTelemetryLost_inRange h
  | supplyWarnClear => exact execSupplyWarnClear_inRange h
  | telemetryRecovered => exact execTelemetryRecovered_inRange h
  | externalReset => exact execExternalReset_inRange h
  | resetNRelease => exact execResetNRelease_inRange h
  | bootImageStart => exact execBootImageStart_inRange h
  | dramTrainingCommit failed sub margin => exact execDramTrainingCommit_inRange h
  | dramTrainingTimeout failed sub => exact execDramTrainingTimeout_inRange h
  | startupStoreResume => exact execStartupStoreResume_inRange h
  | pcieReset cause => exact execPcieReset_inRange h
  | pciePerstNRelease => exact execPciePerstNRelease_inRange h
  | warmReset => exact execWarmReset_inRange h
  | watchdogExpiry core => exact execWatchdogExpiry_inRange h
  | hardTrip => exact execHardTrip_inRange h
  | sensorSample sensor raw reading => exact execSensorSample_inRange h
  | sensorFault sensor => exact execSensorFault_inRange h
  | sensorSelfCheck sensor error => exact execSensorSelfCheck_inRange h
  | throttleTick => exact execThrottleTick_inRange h
  | ppsInEdge => exact execPpsInEdge_inRange h
  | frameRefInEdge => exact execFrameRefInEdge_inRange h
  | freq10mPresenceChange mv ppb => exact execFreq10mPresenceChange_inRange h
  | pathForceAssert => exact execPathForceAssert_inRange h
  | pathForceDeassert => exact execPathForceDeassert_inRange h
  | ppsOutRise => exact execPpsOutRise_inRange h
  | ppsOutFall => exact execPpsOutFall_inRange h
  | gpioPulseEnd gpio => exact execGpioPulseEnd_inRange h
  | cmdRingDoorbell ring value => exact execCmdRingDoorbell_inRange h
  | cmdRingEnable ring value => exact execCmdRingEnable_inRange h
  | cmdRingDisable ring value => exact execCmdRingDisable_inRange h
  | eventQueueEnable value => exact execEventQueueEnable_inRange h
  | eventQueueDisable value => exact execEventQueueDisable_inRange h
  | eventQueueHeadWrite value => exact execEventQueueHeadWrite_inRange h
  | commandUdpPacket d => exact execCommandUdpPacket_inRange h
  | reassemblyTimeout src ident => exact execReassemblyTimeout_inRange h
  | commandExecute x => exact execCommandExecute_inRange h
  | backgroundCommandComplete job ok => exact execBackgroundCommandComplete_inRange h
  | pendingCommandEffect tb frame => exact execPendingCommandEffect_inRange h
  | readIdentity c => exact command_inRange opReadIdentity_keepsRange h
  | registerEventSubscriber c => exact command_inRange opRegisterEventSubscriber_keepsRange h
  | setAllowListEntry c => exact command_inRange opSetAllowListEntry_keepsRange h
  | cancelPendingCommands c => exact command_inRange opCancelPendingCommands_keepsRange h
  | assignGpioFunction c => exact command_inRange opAssignGpioFunction_keepsRange h
  | readStartupLog c => exact command_inRange opReadStartupLog_keepsRange h
  | selectManagementLinkMode c => exact command_inRange opSelectManagementLinkMode_keepsRange h
  | readGpioLevels c => exact command_inRange opReadGpioLevels_keepsRange h
  | warmResetCommand c => exact command_inRange opWarmResetCommand_keepsRange h
  | enterSafe c => exact command_inRange opEnterSafe_keepsRange h
  | interruptAndAlertMasks c => exact command_inRange opInterruptAndAlertMasks_keepsRange h
  | configurePtp c => exact command_inRange opConfigurePtp_keepsRange h
  | ptpConfigApply => exact execPtpConfigApply_inRange h
  | acceptRefusedOffset c => exact command_inRange opAcceptRefusedOffset_keepsRange h
  | setTime c => exact command_inRange opSetTime_keepsRange h
  | configureTimebase c => exact command_inRange opConfigureTimebase_keepsRange h
  | removeTimebase c => exact command_inRange opRemoveTimebase_keepsRange h
  | configureEventUnit c => exact command_inRange opConfigureEventUnit_keepsRange h
  | releaseEventUnit c => exact command_inRange opReleaseEventUnit_keepsRange h
  | readTimeStatus c => exact command_inRange opReadTimeStatus_keepsRange h
  | ptpAnnounceReceived a => exact execPtpAnnounceReceived_inRange h
  | ptpSyncReceived m => exact execPtpSyncReceived_inRange h
  | delayReqSend => exact execDelayReqSend_inRange h
  | delayRespReceived path lane gm late => exact execDelayRespReceived_inRange h
  | announceReceiptTimeout => exact execAnnounceReceiptTimeout_inRange h
  | syncTimeout => exact execSyncTimeout_inRange h
  | frameBoundary tb => exact execFrameBoundary_inRange h
  | slewComplete tb => exact execSlewComplete_inRange h
  | rasterEventFire unit => exact execRasterEventFire_inRange h
  | frameBind => exact execFrameBind_inRange h
  | taskDispatch engine => exact execTaskDispatch_inRange h
  | segmentDone spire r => exact execSegmentDone_inRange h
  | spillRefill => exact execSpillRefill_inRange h
  | bindUrgent ctx frame => exact execBindUrgent_inRange h
  | decodeFrameSkip ctx frame => exact execDecodeFrameSkip_inRange h
  | substitutePicture ctx frame => exact execSubstitutePicture_inRange h
  | domeBind => exact execDomeBind_inRange h
  | domeTaskDone dome row seg => exact execDomeTaskDone_inRange h
  | frameClose ctx frame late => exact execFrameClose_inRange h
  | stagingResume spire => exact execStagingResume_inRange h
  | alfFitComplete ctx frame => exact execAlfFitComplete_inRange h
  | spirePowerUp spire => exact execSpirePowerUp_inRange h
  | accessUnitMapped ctx u => exact execAccessUnitMapped_inRange h
  | accessUnitComplete ctx slot bottom e => exact execAccessUnitComplete_inRange h
  | decodeReleaseDeadline ctx slot bottom e => exact execDecodeReleaseDeadline_inRange h
  | decodeAbandon ctx slot bottom => exact execDecodeAbandon_inRange h
  | composedRowWritten comp r => exact execComposedRowWritten_inRange h
  | sourceFrameComplete source format rate => exact execSourceFrameComplete_inRange h
  | directLineArrival comp layer line => exact execDirectLineArrival_inRange h
  | lanternTileRepair image tile => exact execLanternTileRepair_inRange h
  | lanternScrub => exact execLanternScrub_inRange h
  | frameReceived f => exact execFrameReceived_inRange h
  | videoFrameSkewTimeout flow => exact execVideoFrameSkewTimeout_inRange h
  | mergeGapTimeout flow => exact execMergeGapTimeout_inRange h
  | packetLaunch x => exact execPacketLaunch_inRange h
  | queuedPacketSend port => exact execQueuedPacketSend_inRange h
  | membershipReportRepeat => exact execMembershipReportRepeat_inRange h
  | membershipQueryResponse port q => exact execMembershipQueryResponse_inRange h
  | arpRefresh => exact execArpRefresh_inRange h
  | pllLock port bad => exact execPllLock_inRange h
  | autonegComplete port ok => exact execAutonegComplete_inRange h
  | trainingCoeffRequest lane tap up => exact execTrainingCoeffRequest_inRange h
  | linkTrainingEnd port bad precodeTx precodeRx => exact execLinkTrainingEnd_inRange h
  | linkLock lane x => exact execLinkLock_inRange h
  | deskew port arrivals => exact execDeskew_inRange h
  | portRetry port => exact execPortRetry_inRange h
  | signalReturn lane => exact execSignalReturn_inRange h
  | laneLoss lane kind => exact execLaneLoss_inRange h
  | laneRelockTimeout port => exact execLaneRelockTimeout_inRange h
  | fecUncorrectable x => exact execFecUncorrectable_inRange h
  | refLost => exact execRefLost_inRange h
  | fecWindowEnd w => exact execFecWindowEnd_inRange h
  | sentinelTimeout turret flow => exact execSentinelTimeout_inRange h
  | healthSettled turret => exact execHealthSettled_inRange h
  | holdoffExpiry => exact execHoldoffExpiry_inRange h
  | sdiTrsLock lane format rate x => exact execSdiTrsLock_inRange h
  | sdiTrsLoss x => exact execSdiTrsLoss_inRange h
  | sdiFrameComplete lane skew lines x => exact execSdiFrameComplete_inRange h
  | sdiOutputFrame lane => exact execSdiOutputFrame_inRange h
  | memoryRequest q => exact execMemoryRequest_inRange h
  | refreshDue rank group bank => exact execRefreshDue_inRange h
  | pageIdleClose rank bank => exact execPageIdleClose_inRange h
  | powerDownEntry rank arrival => exact execPowerDownEntry_inRange h
  | rhWindowEnd => exact execRhWindowEnd_inRange h
  | trainingPassStart channel thermal => exact execTrainingPassStart_inRange h
  | trainingPassCommit channel => exact execTrainingPassCommit_inRange h
  | trainFail channel sub margin => exact execTrainFail_inRange h
  | setpointSwitchStart => exact execSetpointSwitchStart_inRange h
  | setpointSwitchComplete => exact execSetpointSwitchComplete_inRange h
  | setpointCheckComplete failed sub margin => exact execSetpointCheckComplete_inRange h
  | patrolScrub q => exact execPatrolScrub_inRange h
  | dmaTrigger channel kind => exact execDmaTrigger_inRange h
  | dmaTimerExpiry channel => exact execDmaTimerExpiry_inRange h
  | dmaRunEnd channel x => exact execDmaRunEnd_inRange h
  | drainTimeout tile => exact execDrainTimeout_inRange h
  | dmaDomainResume domain => exact execDmaDomainResume_inRange h
  | hostMemoryLost => exact execHostMemoryLost_inRange h
  | msixReenable vectors => exact execMsixReenable_inRange h
  | belfNow32Read => exact execBelfNow32Read_inRange h
  | tsqHiRead turret => exact execTsqHiRead_inRange h
  | tbFrameCountRead tb => exact execTbFrameCountRead_inRange h
  | counterReadClear offset => exact execCounterReadClear_inRange h
  | w1cWrite offset value meets => exact execW1cWrite_inRange h
  | chkFeed8Write unit value => exact execChkFeed8Write_inRange h
  | chkFeed16Write unit value => exact execChkFeed16Write_inRange h
  | chkFeed32Write unit value => exact execChkFeed32Write_inRange h
  | registerWrite offset value => exact execRegisterWrite_inRange h
  | bar2Write offset bytes => exact execBar2Write_inRange h
  | bar2Read offset len => exact execBar2Read_inRange h
  | selectLaneReference c => exact command_inRange opSelectLaneReference_keepsRange h
  | configureTurretLayout c => exact command_inRange opConfigureTurretLayout_keepsRange h
  | configureMediaLane c => exact command_inRange opConfigureMediaLane_keepsRange h
  | setTransmitTaps c => exact command_inRange opSetTransmitTaps_keepsRange h
  | setPolarity c => exact command_inRange opSetPolarity_keepsRange h
  | prbsGeneratorChecker c => exact command_inRange opPrbsGeneratorChecker_keepsRange h
  | loopback c => exact command_inRange opLoopback_keepsRange h
  | readLaneStatus c => exact command_inRange opReadLaneStatus_keepsRange h
  | portIdentity c => exact command_inRange opPortIdentity_keepsRange h
  | pathHealthParameters c => exact command_inRange opPathHealthParameters_keepsRange h
  | interlockParameters c => exact command_inRange opInterlockParameters_keepsRange h
  | privilegedPolicer c => exact command_inRange opPrivilegedPolicer_keepsRange h
  | turretOverheadColourTable c => exact command_inRange opTurretOverheadColourTable_keepsRange h
  | drrQueue c => exact command_inRange opDrrQueue_keepsRange h
  | sendHostPacket c => exact command_inRange opSendHostPacket_keepsRange h
  | readTurretStatus c => exact command_inRange opReadTurretStatus_keepsRange h
  | configureIngressFlow c => exact command_inRange opConfigureIngressFlow_keepsRange h
  | deleteIngressFlow c => exact command_inRange opDeleteIngressFlow_keepsRange h
  | configureEgressFlow c => exact command_inRange opConfigureEgressFlow_keepsRange h
  | deleteEgressFlow c => exact command_inRange opDeleteEgressFlow_keepsRange h
  | bindAudioFlow c => exact command_inRange opBindAudioFlow_keepsRange h
  | readFlowStatus c => exact command_inRange opReadFlowStatus_keepsRange h
  | readMembershipTable c => exact command_inRange opReadMembershipTable_keepsRange h
  | openEncodeContext c => exact command_inRange opOpenEncodeContext_keepsRange h
  | closeContext c => exact command_inRange opCloseContext_keepsRange h
  | modifyEncodeContext c => exact command_inRange opModifyEncodeContext_keepsRange h
  | requestIrap c => exact command_inRange opRequestIrap_keepsRange h
  | invalidateReferences c => exact command_inRange opInvalidateReferences_keepsRange h
  | rateParameters c => exact command_inRange opRateParameters_keepsRange h
  | sendCeilingAndHrd c => exact command_inRange opSendCeilingAndHrd_keepsRange h
  | configureStatmuxGroup c => exact command_inRange opConfigureStatmuxGroup_keepsRange h
  | joinGroup c => exact command_inRange opJoinGroup_keepsRange h
  | removeFromGroup c => exact command_inRange opRemoveFromGroup_keepsRange h
  | readGroupStatus c => exact command_inRange opReadGroupStatus_keepsRange h
  | readRateControlStatus c => exact command_inRange opReadRateControlStatus_keepsRange h
  | schedulingFields c => exact command_inRange opSchedulingFields_keepsRange h
  | deviceSchedulingFields c => exact command_inRange opDeviceSchedulingFields_keepsRange h
  | readSchedulingStatistics c => exact command_inRange opReadSchedulingStatistics_keepsRange h
  | openDecodeContext c => exact command_inRange opOpenDecodeContext_keepsRange h
  | flushAndResynchronise c => exact command_inRange opFlushAndResynchronise_keepsRange h
  | readDecodeStatus c => exact command_inRange opReadDecodeStatus_keepsRange h
  | readContextStatus c => exact command_inRange opReadContextStatus_keepsRange h
  | configureComposition c => exact command_inRange opConfigureComposition_keepsRange h
  | deleteComposition c => exact command_inRange opDeleteComposition_keepsRange h
  | configureVideoLayer c => exact command_inRange opConfigureVideoLayer_keepsRange h
  | configureGraphicLayer c => exact command_inRange opConfigureGraphicLayer_keepsRange h
  | defineAsset c => exact command_inRange opDefineAsset_keepsRange h
  | writeAssetChunk c => exact command_inRange opWriteAssetChunk_keepsRange h
  | commitAsset c => exact command_inRange opCommitAsset_keepsRange h
  | freeAsset c => exact command_inRange opFreeAsset_keepsRange h
  | setMasteringMetadata c => exact command_inRange opSetMasteringMetadata_keepsRange h
  | readCompositionStatus c => exact command_inRange opReadCompositionStatus_keepsRange h
  | defineLanternImage c => exact command_inRange opDefineLanternImage_keepsRange h
  | writeLanternImageChunk c => exact command_inRange opWriteLanternImageChunk_keepsRange h
  | commitLanternImage c => exact command_inRange opCommitLanternImage_keepsRange h
  | configureLanternItem c => exact command_inRange opConfigureLanternItem_keepsRange h
  | readLanternStatus c => exact command_inRange opReadLanternStatus_keepsRange h
  | memoryPolicy c => exact command_inRange opMemoryPolicy_keepsRange h
  | portLatencyTarget c => exact command_inRange opPortLatencyTarget_keepsRange h
  | rowDisturbanceSettings c => exact command_inRange opRowDisturbanceSettings_keepsRange h
  | setPoint c => exact command_inRange opSetPoint_keepsRange h
  | retrainChannel c => exact command_inRange opRetrainChannel_keepsRange h
  | bar2Aperture c => exact command_inRange opBar2Aperture_keepsRange h
  | readMemoryStatus c => exact command_inRange opReadMemoryStatus_keepsRange h
  | configureDmaChannel c => exact command_inRange opConfigureDmaChannel_keepsRange h
  | startChannels c => exact command_inRange opStartChannels_keepsRange h
  | channelControl c => exact command_inRange opChannelControl_keepsRange h
  | releaseDmaChannel c => exact command_inRange opReleaseDmaChannel_keepsRange h
  | engineSettings c => exact command_inRange opEngineSettings_keepsRange h
  | openCheckUnit c => exact command_inRange opOpenCheckUnit_keepsRange h
  | closeCheckUnit c => exact command_inRange opCloseCheckUnit_keepsRange h
  | releaseCheckUnit c => exact command_inRange opReleaseCheckUnit_keepsRange h
  | readDmaAndCheckStatus c => exact command_inRange opReadDmaAndCheckStatus_keepsRange h
  | operatingProfile c => exact command_inRange opOperatingProfile_keepsRange h
  | thermalLevels c => exact command_inRange opThermalLevels_keepsRange h
  | powerCaps c => exact command_inRange opPowerCaps_keepsRange h
  | sensorOverride c => exact command_inRange opSensorOverride_keepsRange h
  | readTelemetry c => exact command_inRange opReadTelemetry_keepsRange h
  | readDipLog c => exact command_inRange opReadDipLog_keepsRange h
  | readRegisters c => exact command_inRange opReadRegisters_keepsRange h
  | writeRegister c => exact command_inRange opWriteRegister_keepsRange h
  | counterSnapshot c => exact command_inRange opCounterSnapshot_keepsRange h
  | writeFirmwareChunk c => exact command_inRange opWriteFirmwareChunk_keepsRange h
  | verifyInactiveSlot c => exact command_inRange opVerifyInactiveSlot_keepsRange h
  | activateInactiveSlot c => exact command_inRange opActivateInactiveSlot_keepsRange h
  | confirmTrialImage c => exact command_inRange opConfirmTrialImage_keepsRange h
  | installKey c => exact command_inRange opInstallKey_keepsRange h
  | setAuthenticationPolicy c => exact command_inRange opSetAuthenticationPolicy_keepsRange h
  | writeStartupStore c => exact command_inRange opWriteStartupStore_keepsRange h
  | unlockDebugAccess c => exact command_inRange opUnlockDebugAccess_keepsRange h
  | pciePerstNDeemedRelease => exact execPciePerstNDeemedRelease_inRange h
  | pcieEndpointReady => exact execPcieEndpointReady_inRange h
  | cdrLockTimeout port => exact execCdrLockTimeout_inRange h
  | dmaDrainPause channel => exact execDmaDrainPause_inRange h
  | laneRefclkPresenceChange ppm => exact execLaneRefclkPresenceChange_inRange h
  | ppsInPresentExpiry => exact execPpsInPresentExpiry_inRange h
  | managementLinkStateChange up rate => exact execManagementLinkStateChange_inRange h

theorem step_inRange (h : InRange s.counters) : RanInRange (step s) := by
  unfold step
  split
  · intro t e
    cases e
    exact tickState_inRange h
  · exact exec_inRange _ h

/-- Settles O56: `bump` adds up to the register's maximum and no further, and every row of the machine changes the
counters by `bump`, by a read that clears one, or by a reset that clears all (`InRange` is kept by each of them). -/
theorem countersSaturate : Obligations.CountersSaturate := by
  refine ⟨fun k n s hw => ?_, fun s t hw hr ht => step_inRange ⟨hw, hr⟩ t ht⟩
  refine ⟨fun e => ?_, fun hle => ?_, fun hle => ?_, fun j hj => ?_⟩
  · rw [tget_bump hw, if_pos rfl]; omega
  · rw [tget_bump hw, if_pos rfl]; omega
  · rw [tget_bump hw, if_pos rfl]; omega
  · rw [tget_bump hw, if_neg hj]

end Sys2Proof.Machine
end

section
/-! PROOFS. The register accesses and the Diagnostics commands (R9 to R14, R503 to R505): O23. -/

namespace Sys2Proof.Machine

-- One proof at a time: elaborated side by side, so many short proofs take more threads than the check's memory holds.
set_option Elab.async false

/-! ### The reads with an effect -/

theorem counterRead_plain {off : Nat} (s : State) (ha : off ≠ 0x20108) (hb : off ≠ 0x20114) :
    (counterRead off s).1 = natWord (counter s off) := by
  simp [counterRead, takeCounter, ha, hb]

theorem counterRead_statA (s : State) :
    (counterRead 0x20108 s).1 = natWord (counter s 0x20108 * 65536 + s.bel.tsqA.entries.length) := rfl

theorem counterRead_statB (s : State) :
    (counterRead 0x20114 s).1 = natWord (counter s 0x20114 * 65536 + s.bel.tsqB.entries.length) := rfl

theorem execCounterReadClear_eq {off : Nat} {s : State} (hs : s.pins.pcieReady = true) (h : isCounter off = true) :
    execCounterReadClear off s = ran s (send (.regRead off (counterRead off s).1) (counterRead off s).2) := by
  simp [execCounterReadClear, barUp, hs, h]

theorem execBelfNow32Read_eq {s : State} (hs : s.pins.pcieReady = true) :
    execBelfNow32Read s = ran s (send (.regRead 0x20000 (natWord (clockNs s)))
      { s with bel := { s.bel with snapSec := s.bel.clock.sec, snapNs := s.bel.clock.ns } }) := by
  simp [execBelfNow32Read, barUp, hs, now32Read, mediaClass]

theorem execTsqHiRead_eq {t : Nat} {s : State} (hs : s.pins.pcieReady = true) (ht : t < 2) :
    execTsqHiRead t s =
      ran s (send (.regRead (if t = 0 then 0x20100 else 0x2010C) (tsqRead t s).1) (tsqRead t s).2) := by
  simp [execTsqHiRead, barUp, hs, ht]

theorem tsqRead_cons {t i sec ns : Nat} {rest : List (Nat × Nat × Nat)} {s : State}
    (h : (tsqOf s t).entries = (i, sec, ns) :: rest) :
    tsqRead t s = (natWord (i * 65536 + sec), setTsq t { entries := rest, lo := natWord ns, full := false } s) := by
  simp [tsqRead, h]

theorem execTbFrameCountRead_eq {tb : Nat} {t : Timebase} {s : State} (hs : s.pins.pcieReady = true) (h : tb < 16)
    (ht : tbOf s tb = some t) :
    execTbFrameCountRead tb s =
      ran s (send (.regRead (0x21000 + 0x20 * tb) ((BitVec.ofInt 64 (rasterCount s tb)).setWidth 32))
        { s with bel := { s.bel with
          fcHi := tset 0 s.bel.fcHi tb ((BitVec.ofInt 64 (rasterCount s tb) >>> 32).setWidth 32) } }) := by
  simp [execTbFrameCountRead, barUp, hs, h, fcRead, ht]

/-! ### Writes -/

theorem still_clearIrq (b : Nat) (v : Word) (s : State) :
    still (clearIrq b v s) = still { s with irq := tset 0 s.irq b (tget 0 s.irq b &&& ~~~v) } := by
  unfold clearIrq
  dsimp only
  split
  · exact still_sendMsix _ _
  · rfl

theorem w1cWrite_irq {b : Nat} (v m : Word) (s : State) :
    w1cWrite (0x10000 * b + 0xFF00) v m s = clearIrq b (v &&& ~~~m) s := by
  have hm : (0x10000 * b + 0xFF00) % 0x10000 = 0xFF00 := by omega
  have hd : (0x10000 * b + 0xFF00) / 0x10000 = b := by omega
  simp only [w1cWrite, hm, hd, if_true]

theorem isW1c_irq {b : Nat} (h : b < 15) : isW1c (0x10000 * b + 0xFF00) = true := by
  rw [isW1c, decide_eq_true_iff]
  omega

theorem regWrite_irq {b : Nat} (h : b < 15) (v : Word) (s : State) :
    regWrite (0x10000 * b + 0xFF00) v s = clearIrq b v s := by
  rw [regWrite, if_pos (isW1c_irq h), w1cWrite_irq]
  exact congrArg (clearIrq b · s) (BitVec.and_allOnes)

theorem regWrite_ignored {off : Nat} {v : Word} {s : State} (h : isW1c off = false) (h1 : off / 0x10000 ≠ 1)
    (hc : off < 0xC1000 ∨ 0xC1200 ≤ off) : regWrite off v s = s := by
  rw [regWrite, if_neg (by simp [h]), if_neg h1, if_neg (by omega)]

theorem execW1cWrite_eq {off : Nat} {v m : Word} {s : State} (hs : s.pins.pcieReady = true) (h : isW1c off = true) :
    execW1cWrite off v m s = ran s (w1cWrite off v m s) := by
  simp [execW1cWrite, barUp, hs, h]

theorem execRegisterWrite_eq {off : Nat} {v : Word} {s : State} (hs : s.pins.pcieReady = true) :
    execRegisterWrite off v s = ran s (regWrite off v s) := by
  simp [execRegisterWrite, barUp, hs]

/-! ### What an access adds to the output log -/

theorem grows_regRead (off : Nat) (s : State) : Grows s (regRead off s).2 := by
  apply Grows.of_eq
  unfold regRead
  split
  · rfl
  · split
    · unfold tsqRead; dsimp only; split <;> rfl
    · split
      · unfold tsqRead; dsimp only; split <;> rfl
      · split
        · unfold fcRead; dsimp only; split <;> rfl
        · split
          · unfold corrRead; dsimp only; split
            · rfl
            · split <;> rfl
          · split <;> rfl

theorem grows_readWords (n : Nat) : ∀ (off : Nat) (s : State), Grows s (readWords off s n).2 := by
  induction n with
  | zero => exact fun _ s => .refl s
  | succ n ih => exact fun off s => (grows_regRead off s).trans (ih _ _)

theorem readWords_length (n : Nat) : ∀ (off : Nat) (s : State), (readWords off s n).1.length = n := by
  induction n with
  | zero => exact fun _ _ => rfl
  | succ n ih => exact fun off s => congrArg (· + 1) (ih _ _)

theorem grows_feedWrite (n : Nat) (l : List Byte) (s : State) : Grows s (feedWrite n l s) := by
  apply Grows.of_eq
  unfold feedWrite
  dsimp only
  split
  · rfl
  · split
    · rfl
    · split <;> rfl

theorem grows_w1cWrite (off : Nat) (v m : Word) (s : State) : Grows s (w1cWrite off v m s) := by
  unfold w1cWrite
  dsimp only
  split
  · unfold clearIrq
    dsimp only
    split
    · exact grows_sendMsix _ _
    · exact .of_eq rfl
  · refine .of_eq ?_
    split
    · split <;> rfl
    · split
      · split <;> rfl
      · split
        · split <;> rfl
        · rfl

/-- A write outside the PCIe host's own block takes nothing out of the output log. -/
theorem grows_regWrite {off : Nat} (v : Word) (s : State) (h : off / 0x10000 ≠ 1) : Grows s (regWrite off v s) := by
  unfold regWrite
  split
  · exact grows_w1cWrite _ _ _ _
  · split
    · unfold chkWrite
      split
      · exact grows_feedWrite _ _ _
      · exact grows_feedWrite _ _ _
      · exact grows_feedWrite _ _ _
      · exact .refl s
    · exact .refl s

/-! ### A block's counters taken one by one -/

theorem takeCounters_rest (offs : List Nat) : ∀ (l : List Word) (s : State),
    (takeCounters offs l s).2 = { s with counters := (takeCounters offs l s).2.counters } := by
  induction offs with
  | nil => exact fun _ _ => rfl
  | cons off offs ih => exact fun l s => by rw [takeCounters_cons]; exact ih _ _

theorem grows_takeCounters (offs : List Nat) (l : List Word) (s : State) : Grows s (takeCounters offs l s).2 := by
  rw [takeCounters_rest]
  exact .of_eq rfl

theorem takeCounters_other (offs : List Nat) {k : Nat} : ∀ (l : List Word) {s : State},
    tabWf 0 none s.counters = true → k ∉ offs →
    tget 0 (takeCounters offs l s).2.counters k = tget 0 s.counters k := by
  induction offs with
  | nil => exact fun _ _ _ _ => rfl
  | cons off offs ih =>
    intro l s h hk
    obtain ⟨hne, hk⟩ := not_or.1 (List.mem_cons.not.1 hk)
    rw [takeCounters_cons, ih _ (tabWf_tset h off 0) hk, tget_tset_other h 0 hne]

theorem takeCounters_zero (offs : List Nat) {k : Nat} : ∀ (l : List Word) {s : State},
    tabWf 0 none s.counters = true → k ∈ offs → tget 0 (takeCounters offs l s).2.counters k = 0 := by
  induction offs with
  | nil => exact fun _ _ _ hk => absurd hk List.not_mem_nil
  | cons off offs ih =>
    intro l s h hk
    rw [takeCounters_cons]
    by_cases hm : k ∈ offs
    · exact ih _ (tabWf_tset h off 0) hm
    · rw [takeCounters_other offs _ (tabWf_tset h off 0) hm, (List.mem_cons.1 hk).resolve_right hm, tget_tset_same h]

/-- Counters at distinct offsets do not meet: each gives the value it has at first. -/
theorem takeCounters_words (offs : List Nat) : ∀ (l : List Word) {s : State}, tabWf 0 none s.counters = true →
    offs.Nodup → (takeCounters offs l s).1 = l ++ offs.map fun off => natWord (counter s off) := by
  induction offs with
  | nil => exact fun l _ _ _ => (List.append_nil l).symm
  | cons off offs ih =>
    intro l s h hd
    obtain ⟨hoff, hd⟩ := List.nodup_cons.1 hd
    rw [takeCounters_cons, ih _ (tabWf_tset h off 0) hd, List.append_assoc, List.singleton_append, List.map_cons]
    congr 2
    refine List.map_congr_left fun k hk => ?_
    rw [counter, counter, tget_tset_other h 0 (ne_of_mem_of_not_mem hk hoff)]

/-- The offsets at `l` in each of `n` windows of `stride` bytes from `base` on. -/
def windowOffs (n base stride : Nat) (l : List Nat) : List Nat :=
  (List.range n).flatMap fun i => l.map (base + stride * i + ·)

theorem mem_windowOffs {n base stride k : Nat} {l : List Nat} (hl : ∀ x ∈ l, x < stride)
    (h : k ∈ windowOffs n base stride l) : base ≤ k ∧ k < base + stride * n := by
  obtain ⟨i, hi, x, hx, rfl⟩ : ∃ i < n, ∃ x ∈ l, base + stride * i + x = k := by simpa [windowOffs] using h
  have hm : stride * (i + 1) ≤ stride * n := Nat.mul_le_mul_left stride hi
  have := hl x hx
  rw [Nat.mul_succ] at hm
  omega

theorem windowOffs_nodup {n base stride : Nat} {l : List Nat} (hl : ∀ x ∈ l, x < stride) (hd : l.Nodup) :
    (windowOffs n base stride l).Nodup := by
  refine List.nodup_flatMap.2 ⟨fun i _ => hd.map (add_right_injective _), ?_⟩
  refine List.nodup_range.imp_of_mem fun {i j} _ _ hij k hi hj => hij ?_
  obtain ⟨x, hx, rfl⟩ := List.mem_map.1 hi
  obtain ⟨y, hy, e⟩ := List.mem_map.1 hj
  have hdiv (i x : Nat) (h : x < stride) : (stride * i + x) / stride = i := by
    rw [Nat.mul_add_div (by omega), Nat.div_eq_of_lt h, Nat.add_zero]
  rw [← hdiv i x (hl x hx), ← hdiv j y (hl y hy)]
  congr 1
  omega

/-- Two lists of offsets, one below the other. -/
theorem nodup_append_of_lt {l m : List Nat} (b : Nat) (hl : l.Nodup) (hm : m.Nodup) (h : ∀ k ∈ l, k < b)
    (g : ∀ k ∈ m, b ≤ k) : (l ++ m).Nodup :=
  hl.append hm fun k hk hk' => absurd (h k hk) (Nat.not_lt.2 (g k hk'))

theorem counterOffs_nodup (b : Nat) : (counterOffs b).Nodup := by
  have window (n base stride : Nat) (l : List Nat) (h : (∀ x ∈ l, x < stride) ∧ l.Nodup) :
      ((List.range n).flatMap fun i => l.map (base + stride * i + ·)).Nodup := windowOffs_nodup h.1 h.2
  unfold counterOffs
  dsimp only
  split
  · decide
  · decide
  · decide
  · exact window _ _ _ _ (by decide)
  · refine nodup_append_of_lt 0x5C000 (window _ _ _ _ (by decide)) (by decide)
      (fun k hk => (mem_windowOffs (by decide) hk).2) (by decide)
  · decide
  · refine nodup_append_of_lt 0x71000 (window _ _ _ _ (by decide))
      (window _ _ _ _ (by decide))
      (fun k hk => (mem_windowOffs (by decide) hk).2) fun k hk => ?_
    exact Nat.le_trans (by decide) (mem_windowOffs (by decide) hk).1
  · decide
  · refine nodup_append_of_lt 0x90100 (window _ _ _ _ (by decide)) (window _ _ _ _ (by decide))
      (fun k hk => Nat.lt_of_lt_of_le (mem_windowOffs (by decide) hk).2 (by decide))
      fun k hk => (mem_windowOffs (by decide) hk).1
  · refine nodup_append_of_lt 0xA1000 (window _ _ _ _ (by decide))
      (window _ _ _ _ (by decide))
      (fun k hk => Nat.lt_of_lt_of_le (mem_windowOffs (by decide) hk).2 (by decide))
      fun k hk => (mem_windowOffs (by decide) hk).1
  · refine nodup_append_of_lt 0xB1000 (by decide) (window _ _ _ _ (by decide)) (by decide)
      fun k hk => (mem_windowOffs (by decide) hk).1
  · decide
  · decide
  · decide
  · exact List.nodup_nil

/-! ### Fields that an accepted packet has -/

theorem judgeFields_pass {ops : OpTable} {op : Op} {c : Cmd} {s : State} {f : Fields} {cl : List Clamp}
    {e e' : Effect} (h : judgeFields ops op c e s = .pass f cl e') :
    e = e' ∧
      checkFields 1 [] [] (op.specs c (project ops (counted op c s (effectInstant s e)) s)) c.params = .ok f cl ∧
      op.once c f (project ops (counted op c s (effectInstant s e)) s) = none := by
  unfold judgeFields at h
  dsimp only at h
  split at h
  · cases h
  next g cl' hg =>
  split at h
  · cases h
  next ho =>
  split at h
  · cases h
  · split at h
    · split at h
      · cases h
      · split at h
        · cases h
        · cases h; exact ⟨rfl, hg, ho⟩
    · split at h
      · cases h
      · cases h; exact ⟨rfl, hg, ho⟩

/-- The fields of a packet that passes stages 8 to 15 have passed the checks of stage 13 and the opcode's own. -/
theorem judge_pass {ops : OpTable} {op : Op} {c : Cmd} {s : State} {f : Fields} {cl : List Clamp} {e : Effect}
    (h : judge ops op c s = .pass f cl e) :
    (op.specs c s).length ≤ c.params.length ∧
      ∃ t, checkFields 1 [] [] (op.specs c t) c.params = .ok f cl ∧ op.once c f t = none := by
  unfold judge at h
  dsimp only at h
  split at h
  · cases h
  next hl =>
  split at h
  · cases h
  · split at h
    · cases h
    · split at h
      · cases h
      · split at h
        · cases h
        next e' _ _ _ _ =>
        refine ⟨by simp at hl; omega, project ops (counted op c s (effectInstant s e')) s, ?_⟩
        obtain ⟨rfl, hf, ho⟩ := judgeFields_pass h
        exact ⟨hf, ho⟩

/-- The applied values of an opcode with two fields. -/
theorem checkFields_two {p q : Fields → Spec} {ws : List Word} {f : Fields} {cl : List Clamp} (hl : 2 ≤ ws.length)
    (h : checkFields 1 [] [] [p, q] ws = .ok f cl) :
    ∃ v w, f = [(clampField 1 v (p [])).1, (clampField 2 w (q [(clampField 1 v (p [])).1])).1] := by
  obtain ⟨v, w, ws, rfl⟩ : ∃ v w l, ws = v :: w :: l := by
    match ws, hl with
    | v :: w :: l, _ => exact ⟨v, w, l, rfl⟩
  unfold checkFields at h
  dsimp only at h
  split at h
  · cases h
  · unfold checkFields at h
    dsimp only at h
    split at h
    · cases h
    · cases h
      exact ⟨v, w, rfl⟩

/-- An offset clamped down to a multiple of 4 (R503). -/
theorem inRange_offset {v : Int} (hv : 0 ≤ v) :
    0 ≤ (inRange (.down 0xFFFFFC 4) v).1 ∧ (inRange (.down 0xFFFFFC 4) v).1 ≤ 0xFFFFFC ∧
      (inRange (.down 0xFFFFFC 4) v).1 % 4 = 0 := by
  unfold inRange
  dsimp only
  split
  · decide
  · dsimp only
    omega

theorem clampField_offset (id : Nat) (w : Word) (acc : Fields) :
    0 ≤ (clampField id w (offsetSpec acc)).1 ∧ (clampField id w (offsetSpec acc)).1 ≤ 0xFFFFFC ∧
      (clampField id w (offsetSpec acc)).1 % 4 = 0 :=
  inRange_offset (Int.natCast_nonneg w.toNat)

/-- A field clamped between 1 and 256 and to at most `m`, where `m` is at least 1. -/
theorem clampField_count (id : Nat) (w : Word) {m : Int} (hm : 1 ≤ m) :
    let x := (clampField id w { kind := .num 1 256 1, cross := fun v => min v m }).1
    1 ≤ x ∧ x ≤ 256 ∧ x ≤ m := by
  have hg (v : Int) : 1 ≤ granule 1 256 1 (clip 1 256 v) ∧ granule 1 256 1 (clip 1 256 v) ≤ 256 := by
    have hc : 1 ≤ clip 1 256 v ∧ clip 1 256 v ≤ 256 := by unfold clip; omega
    simp only [granule, Int.ediv_one, Int.mul_one]
    omega
  have := hg (wordInt false w)
  dsimp only [clampField, inRange, isSigned]
  omega

theorem readRegisters_fields {c : Cmd} {f : Fields} {cl : List Clamp} {s : State}
    (h : AcceptedNow opReadRegisters c f cl s) :
    fld f 1 % 4 = 0 ∧ 1 ≤ fld f 2 ∧ fld f 2 ≤ 256 ∧ fld f 1 + 4 * fld f 2 ≤ 0x1000000 := by
  obtain ⟨-, -, hj⟩ := h
  obtain ⟨hl, t, hf, -⟩ := judge_pass hj
  obtain ⟨v, w, rfl⟩ := checkFields_two hl hf
  obtain ⟨h0, hm, h4⟩ := clampField_offset 1 v []
  generalize (clampField 1 v (offsetSpec [])).1 = x at h0 hm h4 ⊢
  obtain ⟨h1, h2, h3⟩ := clampField_count 2 w (m := (0x1000000 - x) / 4) (by omega)
  refine ⟨h4, h1, h2, ?_⟩
  change x + 4 * (clampField 2 w { kind := .num 1 256 1, cross := fun v => min v ((0x1000000 - x) / 4) }).1 ≤ _
  omega

theorem writeRegister_block {c : Cmd} {f : Fields} {cl : List Clamp} {s : State}
    (h : AcceptedNow opWriteRegister c f cl s) : fnat f 1 / 0x10000 ≠ 1 := by
  obtain ⟨-, -, hj⟩ := h
  obtain ⟨-, t, -, ho⟩ := judge_pass hj
  exact fun e => Option.some_ne_none _ ((if_pos e).symm.trans ho)

/-! ### The obligation -/

theorem counterReadClear_gives {off : Nat} {s : State} (hs : s.pins.pcieReady = true) (h : isCounter off = true) :
    ∃ t v, exec (.counterReadClear off) s = .next t ∧ Sent (some (.regRead off v)) s t ∧
      (off ≠ 0x20108 → off ≠ 0x20114 → v = natWord (counter s off)) ∧
      (off = 0x20108 → v = natWord (counter s off * 65536 + s.bel.tsqA.entries.length)) ∧
      (off = 0x20114 → v = natWord (counter s off * 65536 + s.bel.tsqB.entries.length)) ∧
      Leaves { s with counters := tset 0 s.counters off 0 } t := by
  obtain ⟨t, e, hl, hsent⟩ :=
    sends_ran (s := s) (u := (counterRead off s).2) (.regRead off (counterRead off s).1) (.of_eq rfl)
  refine ⟨t, (counterRead off s).1, (execCounterReadClear_eq hs h).trans e, hsent, ?_, ?_, ?_, hl⟩
  · exact fun ha hb => counterRead_plain s ha hb
  · rintro rfl
    exact counterRead_statA s
  · rintro rfl
    exact counterRead_statB s

theorem tsqHiRead_sends {t i sec ns : Nat} {rest : List (Nat × Nat × Nat)} {s : State} (hs : s.pins.pcieReady = true)
    (ht : t < 2) (h : (tsqOf s t).entries = (i, sec, ns) :: rest) :
    Sends (.regRead (if t = 0 then 0x20100 else 0x2010C) (natWord (i * 65536 + sec))) s
      (setTsq t { entries := rest, lo := natWord ns, full := false } s) (exec (.tsqHiRead t) s) := by
  change Sends _ s _ (execTsqHiRead t s)
  rw [execTsqHiRead_eq hs ht, tsqRead_cons h]
  exact sends_ran _ (.of_eq (by unfold setTsq; split <;> rfl))

theorem readRegisters_completes {c : Cmd} {f : Fields} {cl : List Clamp} {s : State}
    (h : AcceptedNow opReadRegisters c f cl s) :
    Completes opReadRegisters c cl (readWords (fnat f 1) s (fnat f 2)).1 s (readWords (fnat f 1) s (fnat f 2)).2
      (exec (.readRegisters c) s) :=
  completes_plain h rfl rfl rfl (grows_readWords _ _ _) rfl

theorem writeRegister_completes {c : Cmd} {f : Fields} {cl : List Clamp} {s : State}
    (h : AcceptedNow opWriteRegister c f cl s) :
    Completes opWriteRegister c cl [(regRead (fnat f 1) (regWrite (fnat f 1) (intWord (fld f 2)) s)).1] s
      (regRead (fnat f 1) (regWrite (fnat f 1) (intWord (fld f 2)) s)).2 (exec (.writeRegister c) s) :=
  completes_plain h rfl rfl rfl ((grows_regWrite _ _ (writeRegister_block h)).trans (grows_regRead _ _)) rfl

theorem counterSnapshot_completes {c : Cmd} {f : Fields} {cl : List Clamp} {s : State}
    (h : AcceptedNow opCounterSnapshot c f cl s) :
    Completes opCounterSnapshot c cl (takeCounters (counterOffs (fnat f 1)) [] s).1 s
      (takeCounters (counterOffs (fnat f 1)) [] s).2 (exec (.counterSnapshot c) s) :=
  completes_plain h rfl rfl rfl (grows_takeCounters _ _ _) rfl

/-- Settles O23: each row is its effect and, for a read, the word sent last, brought up to date; the Diagnostics
commands are accepted commands whose fields have passed stage 13, and a block's counters lie at distinct offsets. -/
theorem registerAccesses : Obligations.RegisterAccesses := by
  refine ⟨fun s hs => ⟨?_, ?_, ?_, ?_, ?_⟩, fun v m s hs => ⟨?_, ?_, ?_⟩, fun c f cl s => ⟨?_, ?_, ?_⟩⟩
  · exact fun off h => counterReadClear_gives hs h
  · change Sends _ s _ (execBelfNow32Read s)
    rw [execBelfNow32Read_eq hs]
    exact sends_ran _ (.of_eq rfl)
  · exact fun i sec ns rest h => tsqHiRead_sends (t := 0) hs (by decide) h
  · exact fun i sec ns rest h => tsqHiRead_sends (t := 1) hs (by decide) h
  · intro tb t htb ht
    change Sends _ s _ (execTbFrameCountRead tb s)
    rw [execTbFrameCountRead_eq hs htb ht]
    exact sends_ran _ (.of_eq rfl)
  · intro b hb
    change Gives _ (execW1cWrite _ v m s)
    rw [execW1cWrite_eq hs (isW1c_irq hb), w1cWrite_irq]
    exact gives_of_leaves (still_clearIrq _ _ _)
  · intro off h h1 hc
    change Gives _ (execRegisterWrite off v s)
    rw [execRegisterWrite_eq hs, regWrite_ignored h h1 hc]
    exact gives_ran s s
  · intro b hb
    change Gives _ (execRegisterWrite _ v s)
    rw [execRegisterWrite_eq hs, regWrite_irq hb]
    exact gives_of_leaves (still_clearIrq _ _ _)
  · intro h
    obtain ⟨h4, h1, h2, h3⟩ := readRegisters_fields h
    exact ⟨h4, h1, h2, h3, _, _, readWords_length _ _ _, fun e => by rw [e]; exact ⟨rfl, rfl⟩,
      readRegisters_completes h⟩
  · exact fun h => ⟨writeRegister_block h, _, writeRegister_completes h, rfl⟩
  · intro h hw
    exact ⟨_, _, takeCounters_words _ [] hw (counterOffs_nodup _), counterSnapshot_completes h,
      takeCounters_rest _ _ _, fun _ => takeCounters_zero _ [] hw, fun _ => takeCounters_other _ [] hw⟩

end Sys2Proof.Machine
end

section
/-! PROOFS. Packets whose CRC fails, replies held back, and commands that fail (R65 to R67, R81, R117): O54. -/

namespace Sys2Proof.Machine

/-! ### A packet whose CRC fails (R65, R117) -/

/-- A stored packet of family 0x0A or 0x0F is refused before its length and CRC are looked at (R117). -/
theorem runBytes_unread (ops : OpTable) {c : Cmd} {l : List Byte} (s : State) (hs : isStored c.via = true)
    (hf : (l.getD 5 0).toNat = 0x0A ∨ (l.getD 5 0).toNat = 0x0F) :
    runBytes ops c l s = (s, some (earlyReply c l .refused false), id) :=
  if_pos (by simp only [hs, hf, decide_true, Bool.and_self])

/-- Any other packet that fails stage 3 ends there. -/
theorem runBytes_crcMismatch (ops : OpTable) {c : Cmd} {l : List Byte} (s : State) (h2 : stage2 c.via l = true)
    (h3 : stage3 l = false)
    (hu : ¬ (isStored c.via = true ∧ ((l.getD 5 0).toNat = 0x0A ∨ (l.getD 5 0).toNat = 0x0F))) :
    runBytes ops c l s = (s, some (earlyReply c l .crcMismatch false), id) := by
  have stage2_passes : ¬ (!stage2 c.via l) = true := by simp [h2]
  have stage3_fails : (!stage3 l) = true := by simp [h3]
  unfold runBytes
  exact (if_neg (by simpa only [Bool.and_eq_true, decide_eq_true_eq] using hu)).trans
    ((if_neg stage2_passes).trans (if_pos stage3_fails))

/-! ### The reply and the completion record (R67, R81) -/

theorem sendReply_suppressed {c : Cmd} {r : Reply} (s : State) (h : suppressed c r = true) : sendReply c r s = s :=
  if_pos h

/-- A reply that is not held back, and has room on its transport, is sent. -/
theorem replyOut_eq_some {c : Cmd} {r : Reply} (h : suppressed c r = false) (hs : ∀ n, c.via ≠ .store n)
    (hr : ∀ n, c.via = .ring n → c.capacity ≠ 0) : ∃ a b, replyOut c r = some (.reply c.via c.src a r b) := by
  unfold replyOut
  rw [if_neg (by simp [h])]
  cases hv : c.via with
  | store n => exact absurd hv (hs n)
  | ring n => exact ⟨_, _, if_neg (hr n hv)⟩
  | mgmt => exact ⟨_, _, rfl⟩
  | inband => exact ⟨_, _, rfl⟩

/-- A ring's completion record is written; only its MSI-X message can follow. -/
theorem grows_completeRing (r : Nat) (tag : Word) (st : Status) (clamps len : Nat) (s : State) :
    Grows (send (.completion r (recordAddr (ringOf s r) (ringOf s r).consumer)
      (completionWire r tag st clamps ((ringOf s r).consumer + 1).toNat (ringOf s r).phase len)) s)
      (completeRing r tag st clamps len s) := by
  unfold completeRing
  dsimp only
  split
  · exact (Grows.of_eq rfl).trans (grows_sendMsix _ _)
  · exact .of_eq rfl

theorem finishCmd_ring {c : Cmd} {n : Nat} (r : Reply) (s : State) (h : c.via = .ring n) :
    finishCmd c r s =
      completeRing n c.tag r.status r.clamps.length (if suppressed c r then 0 else replyBytes r) s := by
  unfold finishCmd
  rw [h]

/-! ### A command that fails at a stage from 8 on -/

/-- An opcode row is its opcode's packet run as a step of its own. -/
theorem exec_opcodeRow {p : (Cmd → Instr) × Op} (h : p ∈ opcodeRows) (c : Cmd) (s : State) :
    exec (p.1 c) s = command p.2 c s := by
  have e : opcodeRows.map (fun p c s => exec (p.1 c) s) = opcodeRows.map fun p c s => command p.2 c s := rfl
  exact congrFun (congrFun (List.map_inj_left.mp e p h) c) s

/-- Settles O54: a packet with a bad CRC ends at stage 3 or, stored and of a family that the store may not hold, before
it; the reply and the completion record are what each sends; a row that fails runs nothing but its reply. -/
theorem rejectedPackets : Obligations.RejectedPackets := by
  refine ⟨fun c l s h2 h3 => ?_, fun c r s => ⟨fun hn hk => ?_, fun hn hs hr => ?_, fun n hv => ?_⟩,
    fun p hp c st cl s h => ?_⟩
  · by_cases hu : isStored c.via = true ∧ ((l.getD 5 0).toNat = 0x0A ∨ (l.getD 5 0).toNat = 0x0F)
    · rw [runBytes_unread opTable s hu.1 hu.2]
      exact ⟨_, rfl, rfl, fun h => absurd hu h, fun _ => rfl, rfl, rfl, rfl, fun _ => rfl⟩
    · rw [runBytes_crcMismatch opTable s h2 h3 hu]
      exact ⟨_, rfl, rfl, fun _ => rfl, fun h => absurd h hu, rfl, rfl, rfl, fun _ => rfl⟩
  · exact sendReply_suppressed s (by simp [suppressed, hn, hk])
  · have sent : suppressed c r = false := by rcases hn with hn | hk <;> simp [suppressed, *]
    obtain ⟨a, b, e⟩ := replyOut_eq_some sent hs hr
    exact ⟨a, b, by rw [sent_sendReply, e]; rfl⟩
  · rw [finishCmd_ring r s hv]
    exact grows_completeRing _ _ _ _ _ s
  · rw [exec_opcodeRow hp]
    exact fails_next h

end Sys2Proof.Machine
end

section
/-! PROOFS. One tick of the block out of reset (R131, R158, R415): O20. -/

namespace Sys2Proof.Machine

-- One proof at a time: elaborated side by side, so many short proofs take more threads than the check's memory holds.
set_option Elab.async false

/-! ### The clock (R131) -/

/-- A reading within the clock's 48 bits of seconds is kept whole, with its nanoseconds below a second. -/
theorem clockOf_reads {n : Nat} (f : BitVec 32) (h : n < 281474976710656 * 1000000000) :
    (clockOf n f).sec.toNat * 1000000000 + (clockOf n f).ns.toNat = n ∧ (clockOf n f).ns.toNat < 1000000000 := by
  simp only [clockOf, BitVec.toNat_ofNat]
  omega

/-- A tick adds the increment to nanoseconds and fraction, and carries exactly. An increment of 40 bits carries at
most 256 ns. -/
theorem clockTick_exact {c : Clock} (incr : BitVec 40)
    (h : c.sec.toNat * 1000000000 + c.ns.toNat + 256 < 281474976710656 * 1000000000) :
    ((clockTick c incr).sec.toNat * 1000000000 + (clockTick c incr).ns.toNat) * 4294967296 +
        (clockTick c incr).frac.toNat =
      (c.sec.toNat * 1000000000 + c.ns.toNat) * 4294967296 + c.frac.toNat + incr.toNat ∧
    (clockTick c incr).ns.toNat < 1000000000 := by
  unfold clockTick
  extract_lets f
  have carry : f / 4294967296 ≤ 256 := by omega
  obtain ⟨reads, below⟩ := clockOf_reads (BitVec.ofNat 32 f) (Nat.lt_of_le_of_lt (Nat.add_le_add_left carry _) h)
  have low : (clockOf (c.sec.toNat * 1000000000 + c.ns.toNat + f / 4294967296) (BitVec.ofNat 32 f)).frac.toNat =
      f % 4294967296 := BitVec.toNat_ofNat ..
  refine ⟨?_, below⟩
  rw [reads, low, Nat.add_mul, Nat.add_assoc, Nat.div_add_mod']
  exact (Nat.add_assoc ..).symm

/-! ### A correction (R158) -/

/-- A correction comes nearer to 0 by at most 100 ppm of the tick, and by just that where it neither waits for a
re-phase nor is smaller. -/
theorem slewTick_corr {incr : BitVec 40} {a b : Timebase} (h : slewTick incr a = b) :
    b.corr.natAbs ≤ a.corr.natAbs ∧ a.corr.natAbs ≤ b.corr.natAbs + incr.toNat ∧
    (rephaseDue a = false → incr.toNat ≤ a.corr.natAbs → b.corr.natAbs + incr.toNat = a.corr.natAbs) := by
  subst h
  unfold slewTick
  split
  next stays =>
    refine ⟨le_refl _, Nat.le_add_right .., fun ready large => ?_⟩
    rcases stays with due | small
    · exact absurd due (by simp [ready])
    · omega
  next slews =>
    push Not at slews
    obtain ⟨-, large⟩ := slews
    split <;> (dsimp only; omega)

/-- A key that is listed reads its value under `f`. -/
theorem tget_tmap {α : Type} [DecidableEq α] {d : α} {t : Tab α} {f : Nat → α → α} {k : Nat}
    (h : tget d t k ≠ d) (hf : f k (tget d t k) ≠ d) : tget d (tmap d t f) k = f k (tget d t k) := by
  induction t with
  | nil => exact absurd rfl h
  | cons x t ih =>
    obtain ⟨j, v⟩ := x
    by_cases e : j = k
    · subst e
      simp only [tget, if_true] at hf ⊢
      simp [tmap, tget, hf]
    · by_cases past : k < j
      · simp [tget, e, past] at h
      · simp only [tget, e, past, if_false] at h hf ⊢
        by_cases drops : f j v = d
        · simpa [tmap, drops] using ih h hf
        · simpa [tmap, drops, tget, e, past] using ih h hf

/-! ### The command slots leave time alone (R415) -/

/-- The ticks passed, and the Belfry. -/
def timeOf (s : State) : Nat × Belfry := (s.tick, s.bel)

section
variable {s : State}

@[simp] theorem timeOf_modMem (f : Mem → Mem) : timeOf (modMem f s) = timeOf s := rfl
@[simp] theorem timeOf_modBank (r b : Nat) (f : Bank → Bank) : timeOf (modBank r b f s) = timeOf s := rfl
@[simp] theorem timeOf_modSub (r : Nat) (f : Subch → Subch) : timeOf (modSub r f s) = timeOf s := rfl
@[simp] theorem timeOf_modFrame (c n : Nat) (b : Bool) (f : FrameRec → FrameRec) :
    timeOf (modFrame c n b f s) = timeOf s := rfl
@[simp] theorem timeOf_bump (k n : Nat) : timeOf (bump k n s) = timeOf s := rfl
@[simp] theorem timeOf_raise (b i : Nat) : timeOf (raise b i s) = timeOf s := rfl
@[simp] theorem timeOf_wakeRank (r : Nat) : timeOf (wakeRank r s) = timeOf s := rfl
@[simp] theorem timeOf_refreshManage (r b : Nat) : timeOf (refreshManage r b s) = timeOf s := rfl

theorem Reports.timeOf {t : State} (h : Reports s t) : timeOf t = Machine.timeOf s := by rw [h]; rfl

@[simp] theorem timeOf_emit (code ctx source : Nat) (bytes : List Byte) :
    timeOf (emit code ctx source bytes s) = timeOf s := (reports_emit code ctx source bytes s).timeOf

@[simp] theorem timeOf_rhEvent (port rank bank action row count : Nat) :
    timeOf (rhEvent port rank bank action row count s) = timeOf s := timeOf_emit _ _ _ _

@[simp] theorem timeOf_mismatch (n : Nat) (u : Chk) (expected computed : Word) :
    timeOf (mismatch n u expected computed s) = timeOf s := by rw [mismatch, timeOf_emit, timeOf_raise, timeOf_bump]

@[simp] theorem timeOf_internalEvent (kind core ctx opcode : Nat) (tag : Word) :
    timeOf (internalEvent kind core ctx opcode tag s) = timeOf s := by
  unfold internalEvent
  rw [timeOf_emit]
  rfl

@[simp] theorem timeOf_rowTrigger (r b : Nat) (t : RowTrack) : timeOf (rowTrigger r b t s) = timeOf s := by
  have hu : timeOf (bump 0xA0014 1 (refreshManage r b s)) = timeOf s := by rw [timeOf_bump, timeOf_refreshManage]
  unfold rowTrigger
  generalize bump 0xA0014 1 (refreshManage r b s) = u at hu
  dsimp only
  split
  · rw [timeOf_rhEvent, timeOf_modMem, timeOf_modBank, timeOf_raise, hu]
  · rw [timeOf_rhEvent, timeOf_modBank, timeOf_raise, hu]

@[simp] theorem timeOf_activate (port r b row : Nat) : timeOf (activate port r b row s) = timeOf s := by
  unfold activate
  extract_lets t upd u v
  have hv : timeOf v = timeOf s := by
    unfold v
    split <;> rfl
  split
  · split
    · rw [timeOf_rowTrigger, hv]
    · exact hv
  · exact hv

@[simp] theorem timeOf_touchBank (port r b row : Nat) (others : Bool) :
    timeOf (touchBank port r b row others s) = timeOf s := by
  unfold touchBank
  extract_lets t u
  have hu : timeOf u = timeOf s := by
    unfold u t
    rw [timeOf_modBank]
    split
    · rfl
    · exact timeOf_activate port r b row
  split <;> exact hu

@[simp] theorem timeOf_correctedError (r : Nat) : timeOf (correctedError r s) = timeOf s := by
  unfold correctedError
  extract_lets t hour u v
  have hv : timeOf v = timeOf s := by
    unfold v u
    rw [timeOf_modMem]
    split <;> rfl
  split <;> exact hv

@[simp] theorem timeOf_spoilBuf (c b : Nat) : timeOf (spoilBuf c b s) = timeOf s := by
  unfold spoilBuf
  split <;> rfl

@[simp] theorem timeOf_sourceFailed (c addr : Nat) (pyramid : Bool) (port : Nat) :
    timeOf (sourceFailed c addr pyramid port s) = timeOf s := by
  unfold sourceFailed
  split <;> rfl

@[simp] theorem timeOf_fetchFailed (c buf addr port : Nat) :
    timeOf (fetchFailed c buf addr port s) = timeOf s := by
  unfold fetchFailed
  split
  · rfl
  · split
    · rfl
    · rw [timeOf_modFrame]
      split <;> rfl

theorem timeOf_draw {w : Nat} {t : State} (h : draw s = (w, t)) : timeOf t = timeOf s := by
  cases h
  rfl

/-- What an owner loses with a burst (R432) is never the time: an event, a mark or a count. -/
@[simp] theorem timeOf_ownerEffect (owner object part port : Nat) :
    timeOf (ownerEffect owner object part port s) = timeOf s := by
  unfold ownerEffect
  split
  · exact timeOf_spoilBuf _ _
  · exact timeOf_spoilBuf _ _
  · exact timeOf_sourceFailed _ _ _ _
  · rw [timeOf_fetchFailed, timeOf_spoilBuf]
  · rfl
  · rfl
  · rfl
  · rfl
  · rfl
  · extract_lets core
    split
    · rfl
    · exact timeOf_internalEvent _ _ _ _ _
    · split
      next e t he =>
      split
      next c u hc =>
      extract_lets v
      have drawn : timeOf v = timeOf s := by
        unfold v
        rw [timeOf_mismatch, timeOf_draw hc, timeOf_draw he]
      clear_value v
      split
      · exact drawn
      · exact drawn
  · rfl

@[simp] theorem timeOf_uncorrectable (a owner object part port : Nat) (scrub : Bool) :
    timeOf (uncorrectable a owner object part port scrub s) = timeOf s := by
  unfold uncorrectable
  rw [timeOf_ownerEffect]
  split <;> rfl

@[simp] theorem timeOf_requestErrors (q : MemReq) (scrub : Bool) :
    timeOf (requestErrors q scrub s) = timeOf s := by
  unfold requestErrors
  extract_lets t
  have ht : timeOf t = timeOf s := by
    unfold t
    split
    · exact timeOf_correctedError _
    · rfl
  split
  · rw [timeOf_uncorrectable, ht]
  · exact ht

@[simp] theorem timeOf_requestWrite (q : MemReq) : timeOf (requestWrite q s) = timeOf s := by
  unfold requestWrite
  split
  · rfl
  · split
    · split <;> rfl
    · rfl

@[simp] theorem timeOf_noteUrgent (r : Nat) : timeOf (noteUrgent r s) = timeOf s := by
  unfold noteUrgent
  dsimp only
  split <;> rfl

@[simp] theorem timeOf_serveRequest (r : Nat) (w : Waiting) : timeOf (serveRequest r w s) = timeOf s := by
  simp [serveRequest]

@[simp] theorem timeOf_commandSlot (r : Nat) : timeOf (commandSlot r s) = timeOf s := by
  unfold commandSlot
  split
  · rfl
  · extract_lets t
    have ht : timeOf t = timeOf s := timeOf_noteUrgent r
    split
    · exact ht
    · split
      · rw [timeOf_serveRequest, ht]
      · exact ht

/-- The command slots of a tick leave the ticks passed and the Belfry as they are. -/
theorem timeOf_slotsTick : timeOf (slotsTick s) = timeOf s := by
  unfold slotsTick
  split
  · rfl
  · refine List.foldlRecOn _ _ (motive := fun t => timeOf t = timeOf s) rfl fun t ht r _ => ?_
    split
    · exact ht
    · rw [timeOf_commandSlot, ht]

/-- Where nothing waits at any subchannel, the command slots of a tick are left idle. -/
theorem slotsTick_idle (h : ∀ r, (subAt s r).queue = []) : slotsTick s = s := by
  unfold slotsTick
  split
  · rfl
  · refine List.foldlRecOn _ _ (motive := fun t => t = s) rfl fun t ht r _ => ?_
    subst ht
    exact if_pos (by rw [h r]; rfl)

end

/-! ### The tick (log entries 1 and 92) -/

/-- The state as a tick finds it: row 9 of R107 judged, and one tick more has passed. -/
def tickBegun (s : State) : State := { sendLines s (settleRecovered s) with tick := s.tick + 1 }

/-- The state with a clock that has been counted to, other timebases and other check units. The clock is any: what is
proved here never compares two clocks by their figures, which are too long to count out. -/
def timed (c : Clock) (tbs : Tab (Option Timebase)) (units : Tab Chk) (s : State) : State :=
  { s with bel := { s.bel with clock := c, stepped := false, tbs := tbs }, dma := { s.dma with units := units } }

/-- The Belfry's part of a tick, and the check units'. -/
def beat (s : State) : State :=
  timed (clockTick s.bel.clock s.bel.incr) (tmap none s.bel.tbs fun _ t => t.map (slewTick s.bel.incr))
    (tmap {} s.dma.units fun _ u => drainCycle u) s

/-- What `timed` puts, and some of what it leaves. -/
theorem timed_bel (c : Clock) (tbs : Tab (Option Timebase)) (units : Tab Chk) (s : State) :
    (timed c tbs units s).bel.clock = c ∧ (timed c tbs units s).bel.tbs = tbs ∧
    (timed c tbs units s).bel.incr = s.bel.incr ∧ (timed c tbs units s).bel.ptp = s.bel.ptp ∧
    (timed c tbs units s).tick = s.tick := ⟨rfl, rfl, rfl, rfl, rfl⟩

/-- What a tick makes of the Belfry; the tick itself has been counted before. -/
theorem beat_bel (s : State) :
    (beat s).bel.clock = clockTick s.bel.clock s.bel.incr ∧
    (beat s).bel.tbs = tmap none s.bel.tbs (fun _ t => t.map (slewTick s.bel.incr)) ∧
    (beat s).bel.incr = s.bel.incr ∧ (beat s).bel.ptp = s.bel.ptp ∧ (beat s).tick = s.tick := timed_bel _ _ _ s

/-- What a tick finds is the state as it was, but for what any step may bring up to date. -/
theorem leaves_sendLines_settleRecovered (s : State) : Leaves s (sendLines s (settleRecovered s)) := by
  unfold Leaves settleRecovered
  rw [still_sendLines]
  split
  · exact still_changeState _ _ _
  · rfl

/-- Judging row 9 of R107 does not take the block to OFF. -/
theorem sendLines_settleRecovered_not_off {s : State} (h : s.dev.state ≠ .off) :
    (sendLines s (settleRecovered s)).dev.state ≠ .off := by
  rw [(reports_sendLines _ _).dev]
  unfold settleRecovered
  split
  · rw [changeState_state]
    decide
  · exact h

theorem tickState_running {s : State} (hg : s.supply.pwrGood = true) (hr : s.pins.held = false)
    (ho : s.dev.state ≠ .off) :
    tickState s = beat (slotsTick (tickBegun s)) := by
  have same := leaves_sendLines_settleRecovered s
  have on : (tickBegun s).dev.state ≠ .off := sendLines_settleRecovered_not_off ho
  have supply : (tickBegun s).supply = s.supply := same.supply
  have pins : (tickBegun s).pins = s.pins := same.pins
  refine if_pos ?_
  change ((tickBegun s).supply.pwrGood && !(tickBegun s).pins.held && decide ((tickBegun s).dev.state ≠ .off)) = true
  simp [supply, pins, hg, hr, on]

theorem timeOf_tickBegun (s : State) : timeOf (tickBegun s) = (s.tick + 1, s.bel) :=
  congrArg (Prod.mk (s.tick + 1)) (leaves_sendLines_settleRecovered s).bel

theorem step_idle {s : State} (h : s.pending = []) : step s = .next (tickState s) := by
  unfold step
  rw [h]

/-- A configured timebase stays configured, with its correction slewed. -/
theorem tbOf_beat {s : State} {k : Nat} {a : Timebase} (h : tbOf s k = some a) :
    tbOf (beat s) k = some (slewTick s.bel.incr a) := by
  obtain ⟨-, tbs, -⟩ := beat_bel s
  rw [tbOf] at h
  rw [tbOf, tbs, tget_tmap (by simp [h]) (by simp [h]), h, Option.map_some]

/-- A tick's command slots run at the next tick, on the Belfry as it was. -/
theorem slotsTick_tickBegun_time (s : State) :
    (slotsTick (tickBegun s)).tick = s.tick + 1 ∧ (slotsTick (tickBegun s)).bel = s.bel :=
  Prod.mk.inj (timeOf_slotsTick.trans (timeOf_tickBegun s))

/-- Where no memory request waits, the command slots have nothing to do in a tick. -/
theorem slotsTick_tickBegun_idle {s : State} (h : ∀ r, (subAt s r).queue = []) :
    slotsTick (tickBegun s) = tickBegun s := by
  have mem : (tickBegun s).mem = s.mem := (leaves_sendLines_settleRecovered s).mem
  refine slotsTick_idle fun r => ?_
  rw [subAt, mem]
  exact h r

/-- States that agree but for what any step may bring up to date still do with one time put in both. -/
theorem Leaves.timed {s v : State} (h : Leaves s v) (n : Nat) (c : Clock) (tbs : Tab (Option Timebase))
    (units : Tab Chk) :
    Leaves { s with tick := n
                    bel := { s.bel with clock := c, stepped := false, tbs := tbs }
                    dma := { s.dma with units := units } } (Machine.timed c tbs units { v with tick := n }) := by
  have put := congrArg (fun x : State => Machine.timed c tbs units { x with tick := n }) h
  exact put

/-- Where no memory request waits, a tick changes only what the Belfry and the check units count. -/
theorem leaves_beat_idle {s : State} (h : ∀ r, (subAt s r).queue = []) :
    let t := beat (slotsTick (tickBegun s))
    Leaves { s with tick := t.tick
                    bel := { s.bel with clock := t.bel.clock, stepped := false, tbs := t.bel.tbs }
                    dma := { s.dma with units := t.dma.units } } t := by
  rw [slotsTick_tickBegun_idle h]
  exact (leaves_sendLines_settleRecovered s).timed _ _ _ _

/-- Settles O20: a tick's command slots leave the Belfry alone, so the clock and the corrections count from where they
stood; where no memory request waits, the slots are idle. -/
theorem tickCounts : Obligations.TickCounts := by
  refine ⟨rfl, fun s hp hg hr ho hmax _ => ?_⟩
  obtain ⟨tick, bel⟩ := slotsTick_tickBegun_time s
  obtain ⟨exact_sum, below⟩ := clockTick_exact s.bel.incr hmax
  obtain ⟨clock, -, incr, ptp, counted⟩ := beat_bel (slotsTick (tickBegun s))
  rw [bel] at clock incr ptp
  refine ⟨beat (slotsTick (tickBegun s)), ?_, counted.trans tick, ?_, ?_, incr, ptp,
    fun idle _ => leaves_beat_idle idle, fun k a b ha hb => ?_⟩
  · rw [step_idle hp, tickState_running hg hr ho]
  · rw [clockNs, clock]
    exact exact_sum
  · rw [clock]
    exact below
  · have slewed : slewTick s.bel.incr a = b := by
      have kept : tbOf (slotsTick (tickBegun s)) k = some a := by rw [tbOf, bel]; exact ha
      rw [tbOf_beat kept, bel] at hb
      exact Option.some.inj hb
    exact slewTick_corr slewed

end Sys2Proof.Machine
end
